-- ==== Sys2Proof/Word.lean ====
section
/-! DEFINITION. The word types of the WFH-412 model and the sets it treats as bit masks (R183: "Sets are bit masks,
with bit n for member n"). -/

namespace Sys2Proof

/-- A byte of a frame (R175, R183). -/
abbrev Byte := BitVec 8

/-- A two-byte integer of a frame body (R183). -/
abbrev Half16 := BitVec 16

/-- A value of the 48-bit test clock (R163). Subtraction of two of them is the difference modulo 2⁴⁸ that R163 asks for. -/
abbrev Clock := BitVec 48

/-- A set of the twelve lanes. -/
abbrev LaneSet := BitVec 12

/-- A set of the six current lanes 0–5. -/
abbrev CurrentSet := BitVec 6

/-- A set of the sixteen contact inputs BI0–BI15. -/
abbrev InputSet := BitVec 16

/-- A set of the eight binary outputs BO0–BO7. -/
abbrev OutputSet := BitVec 8

/-- A set of the 64 state indices. -/
abbrev StateSet := BitVec 64

/-- A set of the sixteen report slots. -/
abbrev SlotSet := BitVec 16

/-- A set of the three links. -/
abbrev LinkSet := BitVec 3

/-- A phase or a phase increment of a lane, an unsigned 32-bit quantity (R69, R70). -/
abbrev Phase := BitVec 32

/-- One value of a readback frame: a 24-bit signed value (the pin summary of section 11.7). -/
abbrev Readback := BitVec 24

/-- Member `i` is in the set `m`. -/
def has {n : Nat} (m : BitVec n) (i : Fin n) : Bool := m[i]

/-- The set of the members that `f` accepts. -/
def setOf {n : Nat} (f : Fin n → Bool) : BitVec n := BitVec.ofFnLE f

/-- The set `m` with the member `i` added. -/
def including {n : Nat} (m : BitVec n) (i : Fin n) : BitVec n := setOf fun j => j == i || has m j

/-- The set `m` with the member `i` taken out. -/
def excluding {n : Nat} (m : BitVec n) (i : Fin n) : BitVec n := setOf fun j => j != i && has m j

/-- The members of a set in ascending order. -/
def members {n : Nat} (m : BitVec n) : List (Fin n) := (List.finRange n).filter (has m)

/-- The lowest-numbered index that `f` accepts. -/
def lowest {n : Nat} (f : Fin n → Bool) : Option (Fin n) := (List.finRange n).find? f

@[simp] theorem has_setOf {n : Nat} (f : Fin n → Bool) (i : Fin n) : has (setOf f) i = f i := by
  simp [has, setOf]

@[simp] theorem has_including {n : Nat} (m : BitVec n) (i j : Fin n) : has (including m i) j = (j == i || has m j) := by
  simp [including]

@[simp] theorem has_excluding {n : Nat} (m : BitVec n) (i j : Fin n) : has (excluding m i) j = (j != i && has m j) := by
  simp [excluding]

@[simp] theorem has_zero {n : Nat} (i : Fin n) : has (0#n) i = false := by
  simp [has]

/-- The number of microseconds from `a` to `b`, modulo 2⁴⁸ (R163). -/
def elapsed (a b : Clock) : Nat := (b - a).toNat

/-- The clock `n` microseconds after `c`. -/
def later (c : Clock) (n : Nat) : Clock := c + BitVec.ofNat 48 n

@[simp] theorem elapsed_self (c : Clock) : elapsed c c = 0 := by simp [elapsed]

end Sys2Proof
end

