-- ==== Sys2Proof/Syntax.lean ====
section
/-! DEFINITION. The commands of the WFH-412: one constructor for each row of spec/opcode_table.json. A request of a link
carries its link, the tag of its frame and the fields of its body as the layouts of R183 give them; an event carries what
its rule names. -/

namespace Sys2Proof

/-- The three serial links, whose roles are fixed by their numbers 0, 1 and 2 (R174). -/
inductive Link where
  | plan
  | panel
  | supervision
  deriving DecidableEq, Repr

/-- The number of a link (R174). -/
def Link.number : Link → Fin 3
  | .plan => 0
  | .panel => 1
  | .supervision => 2

/-- A level of a contact input (R84) or of a simulated breaker's rest position. -/
inductive Level where
  | closed
  | opened
  deriving DecidableEq, Repr

/-- A complete frame of the readback input stream: twelve signed values in lane order (R121). -/
abbrev Frame := Vector Readback 12

/-- One command to the part: a finished transaction of a link, an event on a pin, or a step that falls due in time. -/
inductive Instr where
  /-- POWER_ON_RESET (R65): the RST line resets the whole part. -/
  | powerOnReset
  /-- BAD_FRAME (R176): the bytes of a finished transaction of a link, judged as a request frame. -/
  | badFrame (l : Link) (bytes : List Byte)
  /-- NOP (R175). -/
  | nop (l : Link) (tag : Byte)
  /-- PEEK_NOTICES (R179). -/
  | peekNotices (l : Link) (tag : Byte)
  /-- TAKE_NOTICES (R179). -/
  | takeNotices (l : Link) (tag : Byte)
  /-- CLEAR_FAULT (R178). -/
  | clearFault (l : Link) (tag : Byte)
  /-- LINK_RESET (R181). -/
  | linkReset (l : Link) (tag : Byte)
  /-- LOAD_STATE (R12): the body is the state entry layout of R183. -/
  | loadState (l : Link) (tag : Byte) (body : List Byte)
  /-- LOAD_PROFILE (R12): the body is the rig profile layout of R183. -/
  | loadProfile (l : Link) (tag : Byte) (body : List Byte)
  /-- FREE_STATE (R14). -/
  | freeState (l : Link) (tag : Byte) (index : Byte)
  /-- FREE_PROFILE (R14). -/
  | freeProfile (l : Link) (tag : Byte) (index : Byte)
  /-- READ_STATE (R15). -/
  | readState (l : Link) (tag : Byte) (index : Byte)
  /-- READ_PROFILE (R15). -/
  | readProfile (l : Link) (tag : Byte) (index : Byte)
  /-- TABLE_STATUS (R16). -/
  | tableStatus (l : Link) (tag : Byte)
  /-- SUBMIT_SHOT (R23): the nine fields of its 12-byte body, in order (R183). -/
  | submitShot (l : Link) (tag : Byte) (start profile condition mode adjust capture : Byte)
      (trigMask preCount capLanes : Half16)
  /-- ABORT (R40). -/
  | abort (l : Link) (tag : Byte) (ticket : Byte)
  /-- SET_LINK_PRIORITY (R37). -/
  | setLinkPriority (l : Link) (tag : Byte) (priority maxWait : Byte)
  /-- QUEUE_STATUS (R38). -/
  | queueStatus (l : Link) (tag : Byte)
  /-- GRANT (R33): the arbiter's hand-over at a moment when one is possible. -/
  | grant
  /-- GO (R46). -/
  | go (l : Link) (tag : Byte)
  /-- STEP (R54). -/
  | panelStep (l : Link) (tag : Byte)
  /-- ADJUST (R82): the delta is a signed byte. -/
  | adjust (l : Link) (tag : Byte) (lane delta : Byte)
  /-- SET_SUPERVISION (R117): the six fields of its 9-byte body, in order (R183). -/
  | setSupervision (l : Link) (tag : Byte) (lane enabled : Byte) (deviation : Half16) (missLimit : Byte)
      (rating heatLimit : Half16)
  /-- DECLARE_LANE_FAULT (R119). -/
  | declareLaneFault (l : Link) (tag : Byte) (lane : Byte)
  /-- CLEAR_LANE_FAULT (R120). -/
  | clearLaneFault (l : Link) (tag : Byte) (lane : Byte)
  /-- SET_OVERRIDE (R130). -/
  | setOverride (l : Link) (tag : Byte) (action : Byte)
  /-- SUPERVISION_STATUS (R132). -/
  | supervisionStatus (l : Link) (tag : Byte)
  /-- SUBSCRIBE (R145). -/
  | subscribe (l : Link) (tag : Byte) (subscription threshold : Byte)
  /-- REPORT_STATUS (R147). -/
  | reportStatus (l : Link) (tag : Byte)
  /-- READ_REPORT (R148): the six fields of its 8-byte body, in order (R183). -/
  | readReport (l : Link) (tag : Byte) (slot : Byte) (serial : Half16) (part visit : Byte) (first : Half16)
      (count : Byte)
  /-- RETIRE_REPORT (R149). -/
  | retireReport (l : Link) (tag : Byte) (slot : Byte) (serial : Half16)
  /-- READ_CAPTURE (R161). -/
  | readCapture (l : Link) (tag : Byte) (half : Byte) (first : Half16) (count : Byte)
  /-- SET_DISCIPLINE (R166). -/
  | setDiscipline (l : Link) (tag : Byte) (setting : Byte)
  /-- TIME_STATUS (R172). -/
  | timeStatus (l : Link) (tag : Byte)
  /-- TRIG_EDGE (R44): this microsecond's sample finds TRIG high. -/
  | trigEdge
  /-- MARK (R167): this microsecond's sample finds MARK high. -/
  | mark
  /-- QUALITY_EXPIRY (R168). -/
  | qualityExpiry
  /-- CLOCK_WRAP (R164). -/
  | clockWrap
  /-- INHIBIT_ASSERT (R128): this microsecond's sample finds INHIBIT asserted. -/
  | inhibitAssert
  /-- INHIBIT_DEASSERT (R129): this microsecond's sample finds INHIBIT deasserted. -/
  | inhibitDeassert
  /-- CONTACT_RAW_EDGE (R88): this microsecond's sample finds input `i` at the raw level `level`. -/
  | contactRawEdge (i : Fin 16) (level : Level)
  /-- EPISODE_END (R88) of input `i`. -/
  | episodeEnd (i : Fin 16)
  /-- MOVE_COMPLETE (R106) of simulator `k`. -/
  | moveComplete (k : Fin 4)
  /-- READBACK_FRAME (R121). -/
  | readbackFrame (frame : Frame)
  /-- SAMPLE_TICK (R68). -/
  | sampleTick
  /-- TIME_EXIT (R52). -/
  | timeExit
  /-- DEFERRAL_END (R56). -/
  | deferralEnd
  /-- SHOT_START (R48). -/
  | shotStart
  /-- SHOT_END (R60). -/
  | shotEnd
  /-- VISIT_CLOSE (R94). -/
  | visitClose
  /-- TEARDOWN (R64). -/
  | teardown
  /-- DEVIATION_FAULT (R123) of a lane. -/
  | deviationFault (lane : Fin 12)
  /-- CUT_TAKES_EFFECT (R111) on a lane. -/
  | cutTakesEffect (lane : Fin 12)
  /-- CUT_LIMIT (R111) on a lane. -/
  | cutLimit (lane : Fin 12)
  /-- REENERGISE (R112) of a lane. -/
  | reenergise (lane : Fin 12)
  deriving DecidableEq, Repr

end Sys2Proof
end

