-- ==== Sys2Proof/Decode.lean ====
section
/-! DEFINITION. The commands the opcode table's words spell: the table gives no row any bits, so no word spells a command. The
bytes of a request frame are read in Sys2Proof/Machine/Frames.lean. -/

namespace Sys2Proof

/-- The command that a word of the opcode table spells. Every row of the table has no bits, so the answer is none. -/
def decodeTableWord (_nbits _w : Nat) : Option Instr := none

end Sys2Proof
end

