-- ==== Sys2Proof/Config.lean ====
section
/-! DEFINITION. What the manual fixes once for the part: the maxima and full scales of the lanes, the capacities of the
stores, the ranges of the checked fields. The manual leaves no value of the part open, so no constant here is opaque. -/

namespace Sys2Proof.Config

/-- Lanes 0–5 are current lanes, lanes 6–11 voltage lanes (the lane table of 00_scope.md). -/
def isCurrentLane (i : Fin 12) : Bool := i.val < 6

/-- The maximum rms of a lane: 32,000 mA or 30,000 (×10 mV) (R5, R72). -/
def laneMax (i : Fin 12) : Nat := if isCurrentLane i then 32000 else 30000

/-- The peak full scale FS of a lane (R78). -/
def fullScale (i : Fin 12) : Nat := if isCurrentLane i then 45255 else 42426

/-- The largest angle in centidegrees (R5, R6). -/
def maxAngle : Nat := 35999

/-- The largest frequency in mHz (R5). -/
def maxFrequency : Nat := 1000000

/-- The largest time constant of a decaying offset in ms (R5). -/
def maxTau : Nat := 1000

/-- The least limit of a TIME exit in µs (R7). -/
def minTimeLimit : Nat := 50

/-- The largest limit of a TIME exit and the largest bound of an assessment in µs (R7, R8). -/
def maxTime : Nat := 600000000

/-- The largest debounce in µs (R9). -/
def maxDebounce : Nat := 20000

/-- The largest open or close time of a breaker setting in µs (R10). -/
def maxMoveTime : Nat := 1000000

/-- The largest cut limit in ticks (R10). -/
def maxCutLimit : Nat := 400

/-- The Shot Queue holds up to 8 requests (R28). -/
def queueSize : Nat := 8

/-- The largest pre-trigger count (R21). -/
def maxPreTrigger : Nat := 2048

/-- The passed-over count stops at 15 (R34). -/
def maxPassedOver : Nat := 15

/-- A shot has at most 64 visits (R49). -/
def maxVisits : Nat := 64

/-- The adjust step count is saturated to −4,095 to +4,095 (R82). -/
def maxAdjust : Int := 4095

/-- The largest magnitude of the delta of an ADJUST (R81). -/
def maxDelta : Int := 100

/-- The largest output code (R78). -/
def maxCode : Int := 32767

/-- A contact timeline holds up to 32 events (R98). -/
def timelineSize : Nat := 32

/-- A breaker activity list holds at most 16 elements (R113). -/
def breakerListSize : Nat := 16

/-- An operate count and a miss run stop at 255 (R96, R122). -/
def maxCount : Nat := 255

/-- A capture half has room for 8,192 sample records (R156). -/
def halfSize : Nat := 8192

/-- The most results or capture records one read returns (R148, R161). -/
def maxRead : Nat := 32

/-- The largest length field of a request frame (R176). -/
def maxBody : Nat := 1024

/-- The sample tick grid: a tick each 50 µs (R164). -/
def tickPeriod : Nat := 50

/-- One A²s of a heat limit is 2 × 10¹⁰ mA² × ticks (R125). -/
def heatUnit : Nat := 20000000000

/-- The largest heat limit in A²s (R116). -/
def maxHeatLimit : Nat := 50000

/-- One second in µs (R167). -/
def second : Nat := 1000000

/-- A mark is believed within 100 µs on either side of the expected second (R167). -/
def markWindow : Nat := 100

/-- ACQUIRING and LOCKED expire 1,000,101 µs after the reference (R168). -/
def missedMark : Nat := 1000101

/-- HOLDOVER expires 10,000,000 µs after the reference (R168). -/
def holdoverEnd : Nat := 10000000

end Sys2Proof.Config
end

