-- ==== Sys2Proof/Machine/Records.lean ====
section
/-! DEFINITION. The records the part holds: state entries and rig profiles, shot requests, the running record of a shot,
reports, capture halves, replies. Each type is plain data; its docstring cites the rule that gives it its fields. -/

namespace Sys2Proof.Machine

/-! ## Programme Tables (R1 to R11) -/

/-- One lane setting of a state entry (R5). `tau` is the offset mode: 0 is off, 1–1,000 is on with τ in ms (R183). -/
structure LaneSetting where
  rms : Nat
  angle : Nat
  freq : Nat
  tau : Nat
  deriving DecidableEq, Repr

/-- The point-on-wave entry of a state entry (R6). -/
structure PointOnWave where
  lane : Fin 12
  angle : Nat
  deriving DecidableEq, Repr

/-- The kind of an exit with its parameters (R7). `all` tells ALL from ANY. -/
inductive ExitKind where
  | time (limit : Nat)
  | inputLevel (mask : InputSet) (all : Bool)
  | inputEdge (mask : InputSet)
  | trigger
  | panelStep
  | breaker (sim : Fin 4) (position : Level)
  deriving DecidableEq, Repr

/-- The target of an exit: a state index or END (R7). -/
inductive Target where
  | state (i : Fin 64)
  | finish
  deriving DecidableEq, Repr

/-- One exit record (R7). -/
structure Exit where
  kind : ExitKind
  target : Target
  deriving DecidableEq, Repr

/-- The kind of an assessment with its input or simulator (R8). -/
inductive AssessKind where
  | operate (i : Fin 16)
  | reset (i : Fin 16)
  | noOperate (i : Fin 16)
  | breakerOpen (k : Fin 4)
  | breakerClose (k : Fin 4)
  deriving DecidableEq, Repr

/-- The origin of an assessment (R8). -/
inductive Origin where
  | visitEntry
  | shotStart
  deriving DecidableEq, Repr

/-- The compare mode of an assessment (R8). -/
inductive CompareMode where
  | below
  | above
  | inside
  | outside
  deriving DecidableEq, Repr

/-- One assessment record (R8). -/
structure Assessment where
  kind : AssessKind
  origin : Origin
  mode : CompareMode
  low : Nat
  high : Nat
  deriving DecidableEq, Repr

/-- The contents of a state entry (R4 to R8). -/
structure StateEntry where
  label : Nat
  pattern : OutputSet
  captureMark : Bool
  pow : Option PointOnWave
  lanes : Vector LaneSetting 12
  exits : List Exit
  assessments : List Assessment
  deriving DecidableEq, Repr

/-- One input setting of a rig profile (R9). -/
structure InputSetting where
  enabled : Bool
  active : Level
  debounce : Nat
  deriving DecidableEq, Repr

/-- One breaker setting of a rig profile (R10). -/
structure BreakerSetting where
  enabled : Bool
  trip : Option (Fin 16)
  close : Option (Fin 16)
  openTime : Nat
  closeTime : Nat
  aOut : Option (Fin 8)
  bOut : Option (Fin 8)
  lanes : CurrentSet
  initial : Level
  cutLimit : Nat
  deriving DecidableEq, Repr

/-- The contents of a rig profile (R9 to R11). -/
structure Profile where
  inputs : Vector InputSetting 16
  breakers : Vector BreakerSetting 4
  steps : Vector Nat 12
  deriving DecidableEq, Repr

/-- The all-zero contents of a FREE state entry (R1). -/
def StateEntry.zero : StateEntry :=
  { label := 0, pattern := 0, captureMark := false, pow := none,
    lanes := Vector.replicate 12 { rms := 0, angle := 0, freq := 0, tau := 0 }, exits := [], assessments := [] }

/-- An all-zero breaker setting: inputs and outputs hold none, and the zero of the initial position is OPEN (R1, R183). -/
def BreakerSetting.zero : BreakerSetting :=
  { enabled := false, trip := none, close := none, openTime := 0, closeTime := 0, aOut := none, bOut := none,
    lanes := 0, initial := .opened, cutLimit := 0 }

/-- The all-zero contents of a FREE profile (R1). -/
def Profile.zero : Profile :=
  { inputs := Vector.replicate 16 { enabled := false, active := .closed, debounce := 0 },
    breakers := Vector.replicate 4 BreakerSetting.zero, steps := Vector.replicate 12 0 }

/-- A table record (R1): FREE, with no holder, lock count 0 and zero contents, or LOADED with a holder (a link, or `none`
for an orphan), a lock count and contents. -/
inductive Rec (α : Type) where
  | free
  | loaded (holder : Option Link) (lock : Nat) (contents : α)
  deriving DecidableEq, Repr

/-! ## Shot requests (R21) -/

/-- The start condition of a shot request (R21). -/
inductive StartCondition where
  | immediate
  | go
  | trigger
  | second
  deriving DecidableEq, Repr

/-- The report mode of a shot request (R21). -/
inductive ReportMode where
  | full
  | verdicts
  | failures
  deriving DecidableEq, Repr

/-- A shot request, queued or granted (R21). -/
structure Request where
  ticket : Nat
  link : Link
  start : Fin 64
  profile : Fin 4
  condition : StartCondition
  mode : ReportMode
  adjust : Bool
  capture : Bool
  trigMask : InputSet
  preCount : Nat
  capLanes : LaneSet
  reach : StateSet
  laneUse : LaneSet
  passed : Nat
  deriving DecidableEq, Repr

/-! ## The running shot (R43) -/

/-- The discipline state of the test clock (R166, R167). -/
inductive Quality where
  | disabled
  | free
  | acquiring
  | locked
  | holdover
  deriving DecidableEq, Repr

/-- The reason a shot ended, with its lane where it names one (R58). -/
inductive EndReason where
  | completed
  | visitLimit
  | abort (l : Link)
  | inhibited
  | deviation (lane : Fin 12)
  | heat (lane : Fin 12)
  | laneFault (lane : Fin 12)
  | timeLost
  | linkReset
  deriving DecidableEq, Repr

/-- A deferral in progress: the target, the exit slot and kind taken, and the offset of the tick of the exit (R56). -/
structure Deferral where
  target : Fin 64
  slot : Nat
  kind : ExitKind
  offset : Nat
  deriving DecidableEq, Repr

/-- The two capture halves (R153). -/
inductive HalfId where
  | a
  | b
  deriving DecidableEq, Repr

/-- What a breaker activity element says: the new position, or CLOSE_REFUSED (R113). -/
inductive BreakerChange where
  | closed
  | opening
  | opened
  | closing
  | closeRefused
  deriving DecidableEq, Repr

/-- The granted shot: its request, its serial, its report slot and its capture half where one was taken (R43). -/
structure Shot where
  req : Request
  serial : Nat
  slot : Fin 16
  half : Option HalfId
  deriving DecidableEq, Repr

/-- The running record of a RUNNING shot (R43). `fresh` is the model's own: the breaker activity elements of a
microsecond whose tick is still to come, which belong to the state that tick may enter (R113). -/
structure Run where
  startTime : Clock
  visit : Nat
  inForce : Fin 64
  entry : Nat
  trigLatch : Bool
  stepLatch : Bool
  edges : BitVec 4
  deferral : Option Deferral
  pendingEnd : Option EndReason
  fresh : List (Fin 4 × BreakerChange)
  deriving DecidableEq, Repr

/-- The state of the Shot Engine with what it holds in that state (R43). `armed`'s latch is the start latch: `some c` when
the start condition was met at clock `c`. DEFERRING is `running` with a deferral. -/
inductive Engine where
  | idle
  | armed (shot : Shot) (latch : Option Clock)
  | running (shot : Shot) (run : Run)
  | settling (shot : Shot) (startTime : Option Clock) (endTime : Clock)
  deriving DecidableEq, Repr

/-! ## Reports (R49, R50, R96, R98, R113, R136, R143) -/

/-- Why a visit was left: an exit slot and kind, or an end reason (R50). -/
inductive ExitCause where
  | exit (slot : Nat) (kind : ExitKind)
  | finish (r : EndReason)
  deriving DecidableEq, Repr

/-- One element of an input activity list (R96). -/
structure InputElem where
  input : Fin 16
  firstOperate : Option Nat
  width : Option Nat
  firstReset : Option Nat
  operates : Nat
  deriving DecidableEq, Repr

/-- One element of a breaker activity list (R113). -/
structure BreakerElem where
  sim : Fin 4
  change : BreakerChange
  time : Nat
  deriving DecidableEq, Repr

/-- One visit record (R49, R50). `closeAt` is the visit's close time, present from its exit until it closes (R94). -/
structure Visit where
  number : Nat
  state : Fin 64
  label : Nat
  entry : Nat
  exit : Option Nat
  cause : Option ExitCause
  deferral : Nat
  clip : LaneSet
  adjust : Option (Vector Int 12)
  inputs : List InputElem
  breakers : List BreakerElem
  truncated : Bool
  closeAt : Option Clock
  deriving DecidableEq, Repr

/-- The direction of an accepted contact change (R89). -/
inductive Direction where
  | operate
  | reset
  deriving DecidableEq, Repr

/-- One event of the contact timeline (R98). -/
structure TimelineEvent where
  input : Fin 16
  direction : Direction
  time : Nat
  deriving DecidableEq, Repr

/-- A verdict (R136). -/
inductive Verdict where
  | pass
  | fail
  | notMeasured
  | void
  deriving DecidableEq, Repr

/-- One assessment result (R136). -/
structure Result where
  state : Fin 64
  visit : Nat
  slot : Nat
  kind : AssessKind
  measured : Option Nat
  verdict : Verdict
  deriving DecidableEq, Repr

/-- The capture reference of a report (R160). -/
structure CaptureRef where
  half : HalfId
  count : Nat
  trigger : Option Nat
  deriving DecidableEq, Repr

/-- The header of a report (R143). -/
structure Header where
  serial : Nat
  ticket : Nat
  link : Link
  start : Fin 64
  profile : Fin 4
  condition : StartCondition
  mode : ReportMode
  grantTime : Clock
  startTime : Option Clock
  quality : Option Quality
  endTime : Option Clock
  endReason : Option EndReason
  visitCount : Nat
  pass : Nat
  fail : Nat
  notMeasured : Nat
  void : Nat
  truncated : Bool
  captureAbsent : Bool
  untriggered : Bool
  cutShort : Bool
  anyClip : Bool
  capture : Option CaptureRef
  deriving DecidableEq, Repr

/-- A report (R135). -/
structure Report where
  header : Header
  visits : List Visit
  results : List Result
  timeline : List TimelineEvent
  deriving DecidableEq, Repr

/-- A report slot with what it holds (R134): a COMPLETE slot holds its report and its pending set. -/
inductive Slot where
  | empty
  | building (r : Report)
  | complete (r : Report) (waiting : LinkSet)
  deriving DecidableEq, Repr

/-! ## Capture Memory (R153 to R159) -/

/-- The state and binding of a capture half (R153). A FILLING half is bound to the granted shot. -/
inductive HalfState where
  | free
  | filling
  | held (slot : Fin 16) (serial : Nat)
  deriving DecidableEq, Repr

/-- The capture phase of a half (R156, R157). TRIGGER_NOTED keeps the offset of the trigger's tick. -/
inductive CapturePhase where
  | waiting
  | preTrigger
  | triggerNoted (tick : Nat)
  | postTrigger
  | full
  | stopped
  deriving DecidableEq, Repr

/-- One sample record (R155). -/
structure Sample where
  offset : Nat
  readback : Option (List Int)
  inputs : InputSet
  outputs : OutputSet
  deriving DecidableEq, Repr

/-- One capture half (the table of chapter 9). -/
structure Half where
  state : HalfState
  trigMask : InputSet
  preCount : Nat
  lanes : LaneSet
  phase : CapturePhase
  records : List Sample
  written : Nat
  trigger : Option Nat
  cutShort : Bool
  untriggered : Bool
  deriving DecidableEq, Repr

/-! ## Waveform Synthesizer (R67, R80) -/

/-- The cut state of a lane (R80). CUTTING keeps the simulator whose request started it and the number of ticks tested so
far (R111). -/
inductive CutState where
  | live
  | cutting (sim : Fin 4) (tested : Nat)
  | cut
  deriving DecidableEq, Repr

/-- What the Synthesizer holds for a lane (R67). `reenergise` is a re-energising request whose tick has not yet come, with
the microsecond at which it was made (R112). -/
structure SynthLane where
  accum : Phase
  residue : Int
  adjust : Int
  cut : CutState
  prev : Int
  reenergise : Option Clock
  deriving DecidableEq, Repr

/-! ## Contact Input Unit (R85) -/

/-- An episode in progress: its start time and the time of its last raw change (R88). -/
structure Episode where
  start : Clock
  last : Clock
  deriving DecidableEq, Repr

/-- What the Contact Input Unit holds for an input (R85). `pin` is the model's own: the level now standing on the BI line. -/
structure Contact where
  setting : InputSetting
  accepted : Level
  episode : Option Episode
  prevRaw : Option Level
  pin : Level
  deriving DecidableEq, Repr

/-! ## Breaker Simulator Unit (R100) -/

/-- The position of a simulator (R102). -/
inductive Position where
  | closed
  | opening
  | opened
  | closing
  deriving DecidableEq, Repr

/-- What the Breaker Simulator Unit holds for a simulator (R100). The timer holds the due time and the position it leads to. -/
structure Simulator where
  setting : BreakerSetting
  position : Position
  timer : Option (Clock × Level)
  tripLatch : Bool
  closeLatch : Bool
  interrupting : Bool
  deriving DecidableEq, Repr

/-! ## Output Supervision Unit (R116, R118) -/

/-- The supervision settings of a lane (R116). -/
structure SupSettings where
  enabled : Bool
  deviation : Nat
  missLimit : Nat
  rating : Nat
  heatLimit : Nat
  deriving DecidableEq, Repr

/-- The condition of a lane (R118). -/
inductive Condition where
  | ready
  | deviation
  | declared
  deriving DecidableEq, Repr

/-- What the Output Supervision Unit holds for each lane 0–11. -/
structure SupLane where
  settings : SupSettings
  condition : Condition
  missRun : Nat
  deriving DecidableEq, Repr

/-! ## Link Unit: frames, refusals and replies (R174 to R183) -/

/-- The request kinds of the kind code table (R183). -/
inductive Kind where
  | nop
  | peekNotices
  | takeNotices
  | clearFault
  | linkReset
  | loadState
  | loadProfile
  | freeState
  | freeProfile
  | readState
  | readProfile
  | tableStatus
  | submitShot
  | abort
  | setLinkPriority
  | queueStatus
  | go
  | step
  | adjust
  | setSupervision
  | declareLaneFault
  | clearLaneFault
  | setOverride
  | supervisionStatus
  | subscribe
  | reportStatus
  | readReport
  | retireReport
  | readCapture
  | setDiscipline
  | timeStatus
  deriving DecidableEq, Repr

/-- The status codes of replies, in the order R183 lists them. -/
inductive Status where
  | ok
  | badFrame
  | badKind
  | badField
  | notPermitted
  | held
  | locked
  | notLoaded
  | notHolder
  | conflict
  | queueFull
  | noTime
  | notArmed
  | notOwner
  | noShot
  | noStepExit
  | notInMask
  | notAdjustable
  | notReady
  | noReport
  | noCapture
  deriving DecidableEq, Repr

/-- The part of a field reference (R13, R183). -/
inductive FieldPart where
  | stateIndex
  | lane (i : Nat)
  | pointOnWave
  | exitCount
  | exit (slot : Nat)
  | assessCount
  | assess (slot : Nat)
  | profileIndex
  | input (i : Nat)
  | breaker (k : Nat)
  | stepSize (i : Nat)
  | request
  | bodyLength
  deriving DecidableEq, Repr

/-- A field reference: the part of the record and the field within the part (R13, R183). -/
structure FieldRef where
  part : FieldPart
  field : Nat
  deriving DecidableEq, Repr

/-- The two lists a CONFLICT can name (R25). -/
inductive EntryList where
  | exits
  | assessments
  deriving DecidableEq, Repr

/-- A refusal of a request with what its reply names (R183, "Replies"). -/
inductive Denial where
  | badFrame
  | badKind
  | badField (ref : FieldRef)
  | notPermitted
  | held
  | locked
  | notLoaded (index : Nat)
  | notHolder (index : Nat)
  | conflict (state : Fin 64) (list : EntryList) (slot : Nat)
  | queueFull
  | noTime (q : Quality)
  | notArmed
  | notOwner
  | noShot
  | noStepExit
  | notInMask
  | notAdjustable
  | notReady
  | noReport
  | noCapture
  deriving DecidableEq, Repr

/-- The fault record of a link: the kind, status and tag of the refusal it latched (R178); 0 for a kind or tag byte that was not
clocked in is the model's choice (notes/assumptions/47.md). -/
structure FaultRecord where
  kind : Byte
  status : Status
  tag : Byte
  deriving DecidableEq, Repr

/-- The five notice flags of a link (R179). -/
structure Notices where
  granted : Bool
  ended : Bool
  timeQuality : Bool
  laneFault : Bool
  linkFault : Bool
  deriving DecidableEq, Repr

/-- The engine states a reply can name (R38, R61); DEFERRING reads as RUNNING. -/
inductive EngineName where
  | idle
  | armed
  | running
  | settling
  deriving DecidableEq, Repr

/-- The waiting cause of a queued request (R39). -/
inductive Cause where
  | engineBusy
  | noSlot
  | laneFault (lane : Fin 12)
  | heat (lane : Fin 12)
  | inhibit
  deriving DecidableEq, Repr

/-- The priority and max-wait of a link (R36). -/
structure Priority where
  priority : Nat
  maxWait : Nat
  deriving DecidableEq, Repr

/-- One row of a TABLE_STATUS reply: the bookkeeping of a record, and the label of a state entry (R16). The outer option of
the holder is its absence, the inner its NONE. -/
structure TableRow where
  loaded : Bool
  holder : Option (Option Link)
  lock : Nat
  label : Option Nat
  deriving DecidableEq, Repr

/-- One row of a QUEUE_STATUS reply (R38). -/
structure QueueRow where
  ticket : Nat
  link : Link
  start : Fin 64
  profile : Fin 4
  condition : StartCondition
  laneUse : LaneSet
  passed : Nat
  aged : Bool
  cause : Option Cause
  deriving DecidableEq, Repr

/-- One lane's row of a SUPERVISION_STATUS reply (R132). -/
structure SupRow where
  settings : SupSettings
  condition : Condition
  missRun : Nat
  supervised : Bool
  deriving DecidableEq, Repr

/-- One current lane's heat row of a SUPERVISION_STATUS reply (R132). -/
structure HeatRow where
  account : Nat
  half : Nat
  above : Bool
  deriving DecidableEq, Repr

/-- What a REPORT_STATUS row gives of a COMPLETE slot besides its serial, ticket and link (R147). -/
structure CompleteRow where
  endReason : Option EndReason
  mode : ReportMode
  pass : Nat
  fail : Nat
  notMeasured : Nat
  void : Nat
  waiting : LinkSet
  deriving DecidableEq, Repr

/-- One row of a REPORT_STATUS reply (R147). -/
inductive SlotRow where
  | empty
  | building (serial ticket : Nat) (link : Link)
  | complete (serial ticket : Nat) (link : Link) (row : CompleteRow)
  deriving DecidableEq, Repr

/-- The body of a reply: what the owning rule says it carries, or what a refusal names (R183, "Replies"). -/
inductive ReplyBody where
  | empty
  | fieldRef (r : FieldRef)
  | index (i : Nat)
  | conflict (state : Fin 64) (list : EntryList) (slot : Nat)
  | quality (q : Quality)
  /-- PEEK_NOTICES and TAKE_NOTICES (R179). -/
  | notices (flags : Notices) (ready : Bool) (fault : Option FaultRecord)
  /-- CLEAR_FAULT (R178). -/
  | fault (f : Option FaultRecord)
  /-- LOAD_STATE and LOAD_PROFILE (R12). -/
  | loaded (index : Nat) (holder : Link) (lock : Nat)
  /-- READ_STATE (R15). -/
  | stateRecord (index : Fin 64) (r : Rec StateEntry)
  /-- READ_PROFILE (R15). -/
  | profileRecord (index : Fin 4) (r : Rec Profile)
  /-- TABLE_STATUS (R16). -/
  | tableStatus (rows : List TableRow)
  /-- SUBMIT_SHOT (R26). -/
  | submitted (ticket : Nat) (laneUse : LaneSet) (reach : StateSet)
  /-- ABORT of a queued request (R40). -/
  | removed (ticket : Nat)
  /-- ABORT of the granted shot (R61). -/
  | aborted (ticket : Nat) (engine : EngineName) (reason : EndReason)
  /-- SET_LINK_PRIORITY (R37). -/
  | priority (p : Priority) (priorityClamped maxWaitClamped : Bool)
  /-- QUEUE_STATUS (R38): the occupancy is the granted shot's ticket, link and engine state. -/
  | queueStatus (occupancy : Option (Nat × Link × EngineName)) (plan panel : Option Priority) (rows : List QueueRow)
  /-- GO (R46). -/
  | started (ticket serial : Nat)
  /-- STEP (R54). -/
  | stepped (visit : Nat) (state : Fin 64)
  /-- ADJUST (R82). -/
  | adjusted (lane : Fin 12) (count : Int) (saturated : Bool) (effective : Nat) (clamped : Bool) (visit : Nat)
  /-- SET_SUPERVISION (R117). -/
  | supervision (lane : Fin 12) (settings : SupSettings) (heat : Option (Nat × Nat))
  /-- DECLARE_LANE_FAULT (R119). -/
  | declared (lane : Fin 12) (before : Condition) (ended : Bool)
  /-- CLEAR_LANE_FAULT (R120). -/
  | cleared (lane : Fin 12) (before : Condition)
  /-- SET_OVERRIDE (R130). -/
  | override (before after inhibit : Bool)
  /-- SUPERVISION_STATUS (R132). -/
  | supervisionStatus (inhibit override : Bool) (lanes : List SupRow) (heats : List HeatRow) (frame : List Int)
  /-- SUBSCRIBE (R145). -/
  | subscribed (on : Bool) (threshold : Nat) (clamped : Bool) (emptied : SlotSet)
  /-- REPORT_STATUS (R147). -/
  | reportStatus (rows : List SlotRow) (on : Bool) (threshold count : Nat) (ready : Bool)
  /-- READ_REPORT of the HEADER (R148). -/
  | header (h : Header)
  /-- READ_REPORT of a VISIT (R148). -/
  | visit (serial : Nat) (v : Visit)
  /-- READ_REPORT of RESULTS (R148). -/
  | results (serial : Nat) (rs : List Result)
  /-- READ_REPORT of the TIMELINE (R148). -/
  | timeline (serial : Nat) (es : List TimelineEvent)
  /-- RETIRE_REPORT (R149). -/
  | retired (slot : Fin 16) (serial : Nat) (waiting : LinkSet) (emptied : Bool)
  /-- READ_CAPTURE (R161). -/
  | capture (half : HalfId) (slot : Fin 16) (serial count : Nat) (trigger : Option Nat) (lanes : LaneSet)
      (records : List Sample)
  /-- SET_DISCIPLINE (R166). -/
  | discipline (on : Bool) (q : Quality)
  /-- TIME_STATUS (R172). -/
  | timeStatus (clock : Clock) (anchor : Nat) (fixed : Bool) (discipline : Bool) (q : Quality) (count : Nat)
      (reference : Option Clock) (deviation : Option Int) (expiry : Option Clock)
  deriving DecidableEq, Repr

/-- A pending reply: the kind and tag echoed from the request, the status and the body (R175, R177). -/
structure Reply where
  kind : Byte
  tag : Byte
  status : Status
  body : ReplyBody
  deriving DecidableEq, Repr

end Sys2Proof.Machine
end

