-- ==== Sys2Proof/Machine/State.lean ====
section
/-! DEFINITION. The state of the WFH-412: every table, queue, engine item, lane item, input, simulator, account, slot,
half, clock item and link item the manual names, and the queue of waiting commands that the model adds. Plain data, with
its value after power-on reset. -/

namespace Sys2Proof.Machine

/-- What the Test Clock holds (the table of chapter 10). `markPrev` is the previous sample of MARK (none after power-on
reset) and `markNow` the sample of this microsecond. -/
structure TestClock where
  clock : Clock
  anchor : Nat
  discipline : Bool
  quality : Quality
  reference : Option Clock
  count : Nat
  deviation : Option Int
  markPrev : Option Bool
  markNow : Bool
  deriving DecidableEq, Repr

/-- The State Table and the Profile Table (R1). -/
structure Tables where
  states : Vector (Rec StateEntry) 64
  profiles : Vector (Rec Profile) 4
  deriving DecidableEq, Repr

/-- The Shot Queue, head first, with the ticket counter (R22, R28) and the arbiter's shot serial counter (R34): each counter
remembers the last number issued. -/
structure ShotQueue where
  requests : List Request
  lastTicket : Nat
  lastSerial : Nat
  deriving DecidableEq, Repr

/-- The previous and the present sample of TRIG (R44). -/
structure TrigLine where
  prev : Option Bool
  now : Bool
  deriving DecidableEq, Repr

/-- The Waveform Synthesizer: its lanes (R67), the last frame of the lane output stream, and the commanded values and heat
inputs it handed on at the last tick (R79). -/
structure Synth where
  lanes : Vector SynthLane 12
  codes : Vector Int 12
  commanded : Vector Int 12
  heatIn : Vector Nat 6
  deriving DecidableEq, Repr

/-- The Output Supervision Unit (the tables of chapter 7). `inhibit` is the held INHIBIT level (true: asserted), `pin` the
level now standing on the line, `frameIn` the complete frame received since the previous tick (R121). -/
structure Supervision where
  lanes : Vector SupLane 12
  heat : Vector Nat 6
  inhibit : Bool
  pin : Bool
  override : Bool
  lastFrame : Vector Int 12
  frameIn : Option (Vector Int 12)
  deriving DecidableEq, Repr

/-- The two capture halves (R153). -/
structure Captures where
  a : Half
  b : Half
  deriving DecidableEq, Repr

/-- What a link holds (the table of chapter 11). The Supervision link has no priority (R36). -/
structure LinkState where
  reply : Option Reply
  notices : Notices
  fault : Option FaultRecord
  priority : Option Priority
  subscribed : Bool
  threshold : Nat
  deriving DecidableEq, Repr

/-- The three links (R174). -/
structure Links where
  plan : LinkState
  panel : LinkState
  supervision : LinkState
  deriving DecidableEq, Repr

/-- The levels at a tick in RUNNING that the next tick's sample record shows (R155). -/
structure TickLevels where
  offset : Nat
  inputs : InputSet
  outputs : OutputSet
  deriving DecidableEq, Repr

/-- What the model keeps of the moves completed at this microsecond, because simulators that move at one microsecond need no order
among them and a re-energising request stands only for a lane that no other simulator holds at it (R107, R110, R115): `opened`, the
simulators that have reached OPEN at it; `begun`, the lanes whose cutting began at it; and `asked`, for each lane, the simulators
whose reaching CLOSED at it counts for the lane (notes/assumptions/45.md). -/
structure MoveWork where
  opened : BitVec 4
  begun : LaneSet
  asked : Vector (BitVec 4) 12
  deriving DecidableEq, Repr

/-- The model's own record of how far the work of this microsecond's tick has come, so that the events the command table names one
by one fit together into one tick. The marks are cleared when the microsecond ends. `events` keeps the accepted contact events dated
to this microsecond while its tick's engine work is still to come, because the visit that tick may enter holds them (R93). `ended`
keeps, for each input whose episode has ended at this microsecond's sample, the accepted level and the episode it had before,
because a shot that starts at this microsecond governs that sample (R87). `moves` keeps the completions of moves of this microsecond
(R110). `previous` says whether the previous tick was a tick of the shot in RUNNING (R122), with the levels it left for its sample
record (R155). -/
structure TickWork where
  opened : Bool
  engine : Bool
  compared : LaneSet
  heat : Bool
  synth : Bool
  residueSet : LaneSet
  events : List (Fin 16 × Direction)
  ended : List (Fin 16 × Level × Episode)
  moves : MoveWork
  frame : Option (Vector Int 12)
  previous : Option TickLevels
  deriving DecidableEq, Repr

/-- The whole part. -/
structure State where
  /-- The model's own: the commands that are waiting, first in, first out. -/
  pending : List Instr
  clock : TestClock
  tables : Tables
  queue : ShotQueue
  engine : Engine
  trig : TrigLine
  synth : Synth
  contacts : Vector Contact 16
  breakers : Vector Simulator 4
  sup : Supervision
  reports : Vector Slot 16
  captures : Captures
  links : Links
  tick : TickWork
  deriving DecidableEq, Repr

/-- The ways the part can stop: none. The manual gives every command an effect in every state, so no step faults. -/
inductive Fault where
  deriving DecidableEq, Repr

/-- The commands without a meaning. -/
inductive Refusal where
  /-- The command has no meaning in the model yet. Every command has one, so no arm of `exec` answers with it. Safe: the
  model would stop where the part goes on. -/
  | notModelled (mnemonic : String)
  deriving DecidableEq, Repr

/-- The priority and max-wait of a link after power-on reset and after its link reset (R36). -/
def defaultPriority : Link → Option Priority
  | .plan => some { priority := 4, maxWait := 3 }
  | .panel => some { priority := 2, maxWait := 0 }
  | .supervision => none

/-- All five notice flags clear. -/
def Notices.clear : Notices :=
  { granted := false, ended := false, timeQuality := false, laneFault := false, linkFault := false }

/-- A link after power-on reset (R151, R174): Plan and Panel are subscribed, Supervision is not, every threshold is 1. -/
def LinkState.reset (l : Link) : LinkState :=
  { reply := none, notices := .clear, fault := none, priority := defaultPriority l,
    subscribed := l ≠ .supervision, threshold := 1 }

/-- A FREE capture half: every other item has its power-on value (R153). -/
def Half.free : Half :=
  { state := .free, trigMask := 0, preCount := 0, lanes := 0, phase := .waiting, records := [], written := 0,
    trigger := none, cutShort := false, untriggered := false }

/-- A lane of the Synthesizer after power-on reset (R67). -/
def SynthLane.reset : SynthLane :=
  { accum := 0, residue := 0, adjust := 0, cut := .live, prev := 0, reenergise := none }

/-- A contact input after power-on reset, the level `pin` standing on its line (R85). -/
def Contact.reset (pin : Level) : Contact :=
  { setting := { enabled := true, active := .closed, debounce := 1000 }, accepted := .opened, episode := none,
    prevRaw := none, pin := pin }

/-- A simulator after power-on reset (R100). -/
def Simulator.reset : Simulator :=
  { setting := .zero, position := .opened, timer := none, tripLatch := false, closeLatch := false,
    interrupting := false }

/-- The default supervision settings of a lane (R116): for a voltage lane the continuous rating and the heat limit are
stored as 0. -/
def SupSettings.default (i : Fin 12) : SupSettings :=
  { enabled := false, deviation := Config.laneMax i, missLimit := 8,
    rating := if Config.isCurrentLane i then 32000 else 0, heatLimit := if Config.isCurrentLane i then 10000 else 0 }

/-- No move has completed at this microsecond. -/
def MoveWork.none : MoveWork := { opened := 0, begun := 0, asked := Vector.replicate 12 0 }

/-- No tick work done yet, and no tick in RUNNING before. -/
def TickWork.none : TickWork :=
  { opened := false, engine := false, compared := 0, heat := false, synth := false, residueSet := 0, events := [],
    ended := [], moves := .none, frame := Option.none, previous := Option.none }

/-- The part right after power-on reset (R1, R22, R28, R34, R36, R43, R67, R85, R100, R116, R118, R121, R124, R127, R131,
R134, R151, R153, R163, R164, R166, R174), with no command waiting, every contact input open and INHIBIT deasserted on
its line (DESIGN CHOICE for the lines, notes/assumptions/2.md). -/
def State.reset : State :=
  { pending := []
    clock := { clock := 0, anchor := 0, discipline := false, quality := .disabled, reference := none, count := 0,
               deviation := none, markPrev := none, markNow := false }
    tables := { states := Vector.replicate 64 .free, profiles := Vector.replicate 4 .free }
    queue := { requests := [], lastTicket := 0, lastSerial := 0 }
    engine := .idle
    trig := { prev := none, now := false }
    synth := { lanes := Vector.replicate 12 .reset, codes := Vector.replicate 12 0,
               commanded := Vector.replicate 12 0, heatIn := Vector.replicate 6 0 }
    contacts := Vector.replicate 16 (.reset .opened)
    breakers := Vector.replicate 4 .reset
    sup := { lanes := Vector.ofFn fun i => { settings := .default i, condition := .ready, missRun := 0 },
             heat := Vector.replicate 6 0, inhibit := false, pin := false, override := false,
             lastFrame := Vector.replicate 12 0, frameIn := none }
    reports := Vector.replicate 16 .empty
    captures := { a := .free, b := .free }
    links := { plan := .reset .plan, panel := .reset .panel, supervision := .reset .supervision }
    tick := .none }

end Sys2Proof.Machine
end

