-- ==== Sys2Proof/Machine/Arith.lean ====
section
/-! DEFINITION. The integer arithmetic of the manual's conventions: rounding half away from zero, clamping, saturating
counts, byte order. -/

namespace Sys2Proof.Machine

/-- `n / d` rounded to the nearest integer, halves away from zero (00_scope.md, "Rounding"). -/
def roundDiv (n : Int) (d : Nat) : Int :=
  if 0 ≤ n then (2 * n + d) / (2 * d) else -((2 * (-n) + d) / (2 * d))

/-- A value clamped to the range `lo` to `hi` (00_scope.md, "Clamping and saturating"). -/
def clampInt (lo hi x : Int) : Int := if x < lo then lo else if hi < x then hi else x

/-- A count raised by one that stops at `hi`. -/
def saturateSucc (hi n : Nat) : Nat := if n < hi then n + 1 else hi

/-- The bytes of a number, low byte first, in `n` bytes (R183). -/
def leBytes : Nat → Nat → List Byte
  | 0, _ => []
  | n + 1, v => BitVec.ofNat 8 v :: leBytes n (v / 256)

/-- The number that bytes sent low byte first stand for (R183). -/
def ofLeBytes : List Byte → Nat
  | [] => 0
  | b :: bs => b.toNat + 256 * ofLeBytes bs

/-- `n` bytes of a body from offset `at_` on, read as an integer sent low byte first; a byte past the end reads 0. -/
def field (body : List Byte) (at_ n : Nat) : Nat := ofLeBytes ((body.drop at_).take n)

/-- An index that a check has found below `n`. -/
def index? (n : Nat) (v : Nat) : Option (Fin n) := if h : v < n then some ⟨v, h⟩ else none

end Sys2Proof.Machine
end

