-- ==== Sys2Proof/Machine/Operands.lean ====
section
/-! DEFINITION. The operand forms of the requests: the codes of R183, the state entry and rig profile layouts with the checks
of R4 to R11 in their order, and the field references a refusal names (R13). -/

namespace Sys2Proof.Machine

/-! ## Small forms -/

/-- A yes-or-no byte: 0 is no, any other value yes (R183). -/
def yes (b : Byte) : Bool := b ≠ 0

/-- The first of several checks that fails; a check gives the field it names (R13). -/
def firstBad : List (Option Nat) → Option Nat
  | [] => none
  | some n :: _ => some n
  | none :: cs => firstBad cs

/-- A check that names field `n` when `bad` holds. -/
def failsAt (n : Nat) (bad : Bool) : Option Nat := if bad then some n else none

/-- An index that may be none: 0xFF is none (R183). -/
def optIndex (n v : Nat) : Option (Fin n) := if v = 255 then none else index? n v

/-- A byte that is neither none nor an index below `n`. -/
def badOptIndex (n v : Nat) : Bool := v ≠ 255 && n ≤ v

/-- A refusal that names a field of a request body by its position (R183, part 7). -/
def badRequest (n : Nat) : Denial := .badField { part := .request, field := n }

/-- The start condition of a code (R183). -/
def startCondition? : Nat → Option StartCondition
  | 0 => some .immediate
  | 1 => some .go
  | 2 => some .trigger
  | 3 => some .second
  | _ => none

/-- The report mode of a code (R183). -/
def reportMode? : Nat → Option ReportMode
  | 0 => some .full
  | 1 => some .verdicts
  | 2 => some .failures
  | _ => none

/-- The level of a code of the input setting layout: CLOSED 0, OPEN 1 (R183). -/
def activeLevel (v : Nat) : Level := if v = 0 then .closed else .opened

/-- The position of a code: OPEN 0, CLOSED 1 (R183). -/
def positionOf (v : Nat) : Level := if v = 0 then .opened else .closed

/-! ## The state entry layout (R4 to R8, R183) -/

/-- Where the lane settings of a state entry begin. -/
def lanesAt : Nat := 10

/-- Where the exit list of a state entry begins. -/
def exitsAt : Nat := 130

/-- The exit count a state entry body declares. -/
def exitCount (body : List Byte) : Nat := field body 8 1

/-- The assessment count a state entry body declares. -/
def assessCount (body : List Byte) : Nat := field body 9 1

/-- Where the assessment list of a state entry begins. -/
def assessAt (body : List Byte) : Nat := exitsAt + 6 * exitCount body

/-- The lane setting of lane `i` in a state entry body (R5). -/
def readLane (body : List Byte) (i : Fin 12) : LaneSetting :=
  let at_ := lanesAt + 10 * i.val
  { rms := field body at_ 2, angle := field body (at_ + 2) 2, freq := field body (at_ + 4) 4,
    tau := field body (at_ + 8) 2 }

/-- The field of a lane setting that fails first (R5). -/
def LaneSetting.bad (x : LaneSetting) (i : Fin 12) : Option Nat :=
  firstBad [failsAt 0 (Config.laneMax i < x.rms), failsAt 1 (Config.maxAngle < x.angle),
            failsAt 2 (Config.maxFrequency < x.freq), failsAt 3 (Config.maxTau < x.tau)]

/-- The point-on-wave flag of a state entry body (R183). -/
def powPresent (body : List Byte) : Bool := (field body 4 1).testBit 1

/-- The point-on-wave entry of a state entry body (R6). -/
def readPow (body : List Byte) : Option PointOnWave :=
  if powPresent body then (index? 12 (field body 5 1)).map fun i => { lane := i, angle := field body 6 2 } else none

/-- The field of a point-on-wave entry that fails first (R6). -/
def powBad (body : List Byte) : Option Nat :=
  if powPresent body then
    firstBad [failsAt 0 (12 ≤ field body 5 1), failsAt 1 (Config.maxAngle < field body 6 2)]
  else none

/-- The kind of an exit record at `at_` in a body (R7); a record that fails its checks is not stored. -/
def readExitKind (body : List Byte) (at_ : Nat) : ExitKind :=
  match field body at_ 1 with
  | 0 => .time (field body (at_ + 2) 4)
  | 1 => .inputLevel (BitVec.ofNat 16 (field body (at_ + 2) 2)) (field body (at_ + 4) 1 == 1)
  | 2 => .inputEdge (BitVec.ofNat 16 (field body (at_ + 2) 2))
  | 3 => .trigger
  | 4 => .panelStep
  | _ => .breaker (Fin.ofNat 4 (field body (at_ + 2) 1)) (positionOf (field body (at_ + 3) 1))

/-- The parameter of an exit record that fails first (R7): the fields of the layout are kind 0, target 1 and the parameters
2 and 3. -/
def exitParamBad (body : List Byte) (at_ : Nat) : Option Nat :=
  match field body at_ 1 with
  | 0 => failsAt 2 (field body (at_ + 2) 4 < Config.minTimeLimit || Config.maxTime < field body (at_ + 2) 4)
  | 1 => firstBad [failsAt 2 (field body (at_ + 2) 2 == 0), failsAt 3 (1 < field body (at_ + 4) 1)]
  | 2 => failsAt 2 (field body (at_ + 2) 2 == 0)
  | 3 => none
  | 4 => none
  | _ => firstBad [failsAt 2 (4 ≤ field body (at_ + 2) 1), failsAt 3 (1 < field body (at_ + 3) 1)]

/-- The field of an exit record that fails first: kind, then parameters, then target (R7). -/
def exitBad (body : List Byte) (at_ : Nat) : Option Nat :=
  firstBad [failsAt 0 (5 < field body at_ 1), exitParamBad body at_,
            failsAt 1 (field body (at_ + 1) 1 ≠ 255 && 64 ≤ field body (at_ + 1) 1)]

/-- The target of an exit record (R7). -/
def readTarget (v : Nat) : Target := if v = 255 then .finish else .state (Fin.ofNat 64 v)

/-- An exit record at `at_` in a body (R7). -/
def readExit (body : List Byte) (at_ : Nat) : Exit :=
  { kind := readExitKind body at_, target := readTarget (field body (at_ + 1) 1) }

/-- The kind of an assessment record at `at_` in a body (R8). -/
def readAssessKind (body : List Byte) (at_ : Nat) : AssessKind :=
  match field body at_ 1 with
  | 0 => .operate (Fin.ofNat 16 (field body (at_ + 1) 1))
  | 1 => .reset (Fin.ofNat 16 (field body (at_ + 1) 1))
  | 2 => .noOperate (Fin.ofNat 16 (field body (at_ + 1) 1))
  | 3 => .breakerOpen (Fin.ofNat 4 (field body (at_ + 1) 1))
  | _ => .breakerClose (Fin.ofNat 4 (field body (at_ + 1) 1))

/-- The compare mode of a code (R183). -/
def compareMode : Nat → CompareMode
  | 0 => .below
  | 1 => .above
  | 2 => .inside
  | _ => .outside

/-- An assessment record at `at_` in a body (R8). -/
def readAssessment (body : List Byte) (at_ : Nat) : Assessment :=
  { kind := readAssessKind body at_, origin := if field body (at_ + 2) 1 = 0 then .visitEntry else .shotStart,
    mode := compareMode (field body (at_ + 3) 1), low := field body (at_ + 4) 4, high := field body (at_ + 8) 4 }

/-- The number of inputs or simulators an assessment kind can name (R8). -/
def assessRange (kind : Nat) : Nat := if kind < 3 then 16 else 4

/-- The field of an assessment record that fails first (R8). -/
def assessBad (body : List Byte) (at_ : Nat) : Option Nat :=
  firstBad [failsAt 0 (4 < field body at_ 1), failsAt 1 (assessRange (field body at_ 1) ≤ field body (at_ + 1) 1),
            failsAt 2 (1 < field body (at_ + 2) 1), failsAt 3 (3 < field body (at_ + 3) 1),
            failsAt 4 (Config.maxTime < field body (at_ + 4) 4), failsAt 5 (Config.maxTime < field body (at_ + 8) 4),
            failsAt 5 (2 ≤ field body (at_ + 3) 1 && field body (at_ + 8) 4 < field body (at_ + 4) 4)]

/-- The contents a state entry body carries (R4 to R8); fields left unused are stored as zero. -/
def readState (body : List Byte) : StateEntry :=
  { label := field body 1 2, pattern := BitVec.ofNat 8 (field body 3 1), captureMark := (field body 4 1).testBit 0,
    pow := readPow body, lanes := Vector.ofFn (readLane body),
    exits := (List.range (exitCount body)).map fun n => readExit body (exitsAt + 6 * n),
    assessments := (List.range (assessCount body)).map fun n => readAssessment body (assessAt body + 12 * n) }

/-- The exit count is out of range (R7). -/
def exitCountBad (body : List Byte) : Bool := exitCount body == 0 || 4 < exitCount body

/-- The first slot of a list of `n` whose record fails, with its field. -/
def firstBadSlot (n : Nat) (bad : Nat → Option Nat) : Option (Nat × Nat) :=
  (List.range n).findSome? fun k => (bad k).map fun f => (k, f)

/-- The length a state entry body must have for the counts it declares (R13). -/
def stateLength (body : List Byte) : Nat := assessAt body + 12 * assessCount body

/-- The field reference stage 4 of R12 names for a state entry body, if a check fails: the length check of R13 first, then
the fields in the order of R4 to R8. -/
def stateBad (body : List Byte) : Option FieldRef :=
  if body.length ≠ stateLength body then
    some { part := if exitCountBad body then .exitCount else .assessCount, field := 0 }
  else match (List.finRange 12).findSome? fun i => ((readLane body i).bad i).map fun f => (i, f) with
    | some (i, f) => some { part := .lane i, field := f }
    | none =>
      match powBad body with
      | some f => some { part := .pointOnWave, field := f }
      | none =>
        if exitCountBad body then some { part := .exitCount, field := 0 }
        else match firstBadSlot (exitCount body) fun n => exitBad body (exitsAt + 6 * n) with
          | some (n, f) => some { part := .exit n, field := f }
          | none =>
            if 4 < assessCount body then some { part := .assessCount, field := 0 }
            else match firstBadSlot (assessCount body) fun n => assessBad body (assessAt body + 12 * n) with
              | some (n, f) => some { part := .assess n, field := f }
              | none => none

/-! ## The rig profile layout (R9 to R11, R183) -/

/-- The input setting of input `i` in a profile body (R9). -/
def readInput (body : List Byte) (i : Fin 16) : InputSetting :=
  let at_ := 1 + 4 * i.val
  { enabled := field body at_ 1 ≠ 0, active := activeLevel (field body (at_ + 1) 1), debounce := field body (at_ + 2) 2 }

/-- The field of an input setting that fails first (R9). -/
def inputBad (body : List Byte) (i : Fin 16) : Option Nat :=
  let at_ := 1 + 4 * i.val
  firstBad [failsAt 1 (1 < field body (at_ + 1) 1), failsAt 2 (Config.maxDebounce < field body (at_ + 2) 2)]

/-- Where the breaker setting of simulator `k` begins in a profile body. -/
def breakerAt (k : Fin 4) : Nat := 65 + 18 * k.val

/-- The breaker setting of simulator `k` in a profile body (R10). -/
def readBreaker (body : List Byte) (k : Fin 4) : BreakerSetting :=
  let at_ := breakerAt k
  { enabled := field body at_ 1 ≠ 0, trip := optIndex 16 (field body (at_ + 1) 1),
    close := optIndex 16 (field body (at_ + 2) 1), openTime := field body (at_ + 3) 4,
    closeTime := field body (at_ + 7) 4, aOut := optIndex 8 (field body (at_ + 11) 1),
    bOut := optIndex 8 (field body (at_ + 12) 1), lanes := BitVec.ofNat 6 (field body (at_ + 13) 2),
    initial := positionOf (field body (at_ + 15) 1), cutLimit := field body (at_ + 16) 2 }

/-- An output is claimed by an enabled simulator before `k` (R10). -/
def claimedBefore (body : List Byte) (k : Fin 4) (o : Option (Fin 8)) : Bool :=
  o.isSome && (List.finRange 4).any fun j =>
    decide (j < k) && (readBreaker body j).enabled && ((readBreaker body j).aOut == o || (readBreaker body j).bOut == o)

/-- The field of a breaker setting that fails first, the conflicts of enabled simulators among the checks (R10). -/
def breakerBad (body : List Byte) (k : Fin 4) : Option Nat :=
  let at_ := breakerAt k
  let b := readBreaker body k
  firstBad [failsAt 1 (badOptIndex 16 (field body (at_ + 1) 1)), failsAt 2 (badOptIndex 16 (field body (at_ + 2) 1)),
            failsAt 2 (b.enabled && b.close.isSome && b.trip == b.close),
            failsAt 3 (Config.maxMoveTime < b.openTime), failsAt 4 (Config.maxMoveTime < b.closeTime),
            failsAt 5 (badOptIndex 8 (field body (at_ + 11) 1)), failsAt 5 (b.enabled && claimedBefore body k b.aOut),
            failsAt 6 (badOptIndex 8 (field body (at_ + 12) 1)),
            failsAt 6 (b.enabled && b.bOut.isSome && b.aOut == b.bOut),
            failsAt 6 (b.enabled && claimedBefore body k b.bOut),
            failsAt 7 (64 ≤ field body (at_ + 13) 2), failsAt 8 (1 < field body (at_ + 15) 1),
            failsAt 9 (b.cutLimit == 0 || Config.maxCutLimit < b.cutLimit)]

/-- The adjust step size of lane `i` in a profile body (R11). -/
def readStep (body : List Byte) (i : Fin 12) : Nat := field body (137 + 2 * i.val) 2

/-- The contents a profile body carries (R9 to R11). -/
def readProfile (body : List Byte) : Profile :=
  { inputs := Vector.ofFn (readInput body), breakers := Vector.ofFn (readBreaker body),
    steps := Vector.ofFn (readStep body) }

/-- The field reference stage 4 of R12 names for a profile body, if a check fails (R9 to R11). -/
def profileBad (body : List Byte) : Option FieldRef :=
  match (List.finRange 16).findSome? fun i => (inputBad body i).map fun f => (i, f) with
  | some (i, f) => some { part := .input i, field := f }
  | none =>
    match (List.finRange 4).findSome? fun k => (breakerBad body k).map fun f => (k, f) with
    | some (k, f) => some { part := .breaker k, field := f }
    | none =>
      (lowest fun i => decide (Config.laneMax i < readStep body i)).map fun i => { part := .stepSize i, field := 0 }

end Sys2Proof.Machine
end

