-- ==== Sys2Proof/Machine/Ops.lean ====
section
/-! DEFINITION. The shared operations over the part's state: the clock and its tick grid, the table records and their lock
counts, the links with their replies, refusals and notices, the report slots and visit records. -/

namespace Sys2Proof.Machine

/-! ## The clock and the tick grid (R163, R164) -/

/-- The clock value of the present microsecond. -/
def State.now (s : State) : Clock := s.clock.clock

/-- The offset of the present microsecond from a shot's start time (R48). -/
def State.offset (s : State) (start : Clock) : Nat := elapsed start s.now

/-- The time from an offset of a shot to the present microsecond: the difference of two clock readings modulo 2⁴⁸ (R163). -/
def State.since (s : State) (start : Clock) (offset : Nat) : Nat := elapsed (later start offset) s.now

/-- The present microsecond is a sample tick (R164). -/
def State.onGrid (s : State) : Bool := s.now.toNat % Config.tickPeriod == s.clock.anchor

/-- The present microsecond is a sample tick whose work is not finished. -/
def State.tickDue (s : State) : Bool := s.onGrid && !s.tick.synth

/-- The engine's work at this microsecond's tick is still to come (R51, R58). -/
def State.engineDue (s : State) : Bool := s.tickDue && !s.tick.engine

/-! ## Table records (R1 to R3) -/

/-- The lock count of a record; a FREE record has lock count 0 (R1). -/
def Rec.lock {α : Type} : Rec α → Nat
  | .free => 0
  | .loaded _ n _ => n

/-- A lock count raised by one (R2). -/
def Rec.raise {α : Type} : Rec α → Rec α
  | .free => .free
  | .loaded h n c => .loaded h (n + 1) c

/-- A lock count lowered by one: an orphan that falls to lock count 0 becomes FREE in the same action (R3). -/
def Rec.lower {α : Type} : Rec α → Rec α
  | .free => .free
  | .loaded none n c => if n ≤ 1 then .free else .loaded none (n - 1) c
  | .loaded (some l) n c => .loaded (some l) (n - 1) c

/-- The effect of a link reset of `l` on a record (R18): one held by `l` is freed at lock count 0 and orphaned otherwise. -/
def Rec.linkReset {α : Type} (l : Link) : Rec α → Rec α
  | .loaded (some h) n c => if h = l then (if n = 0 then .free else .loaded none n c) else .loaded (some h) n c
  | r => r

/-- The bookkeeping row of a record (R16). -/
def Rec.row {α : Type} (label : Option Nat) : Rec α → TableRow
  | .free => { loaded := false, holder := none, lock := 0, label := label }
  | .loaded h n _ => { loaded := true, holder := some h, lock := n, label := label }

/-- The contents of a state entry, all zeros for a FREE record (R1). -/
def Rec.entry : Rec StateEntry → StateEntry
  | .free => .zero
  | .loaded _ _ e => e

/-- The contents of a profile, all zeros for a FREE record (R1). -/
def Rec.profile : Rec Profile → Profile
  | .free => .zero
  | .loaded _ _ p => p

/-- The contents of state entry `i` (R20). -/
def State.entry (s : State) (i : Fin 64) : StateEntry := s.tables.states[i].entry

/-- The contents of profile `i` (R20). -/
def State.profile (s : State) (i : Fin 4) : Profile := s.tables.profiles[i].profile

/-- State record `i` replaced. -/
def State.setEntry (s : State) (i : Fin 64) (r : Rec StateEntry) : State :=
  { s with tables := { s.tables with states := s.tables.states.set i r } }

/-- Profile record `i` replaced. -/
def State.setProfile (s : State) (i : Fin 4) (r : Rec Profile) : State :=
  { s with tables := { s.tables with profiles := s.tables.profiles.set i r } }

/-- The lock counts of a request's reachable set and profile raised by one (R26 step 3). -/
def Tables.lockFor (t : Tables) (r : Request) : Tables :=
  { states := Vector.ofFn fun i => if has r.reach i then t.states[i].raise else t.states[i],
    profiles := Vector.ofFn fun i => if i = r.profile then t.profiles[i].raise else t.profiles[i] }

/-- The lock counts of a request's reachable set and profile lowered by one (R3, R40, R64 step 3). -/
def Tables.releaseFor (t : Tables) (r : Request) : Tables :=
  { states := Vector.ofFn fun i => if has r.reach i then t.states[i].lower else t.states[i],
    profiles := Vector.ofFn fun i => if i = r.profile then t.profiles[i].lower else t.profiles[i] }

/-- The effect of a link reset of `l` on the records it holds (R18). -/
def Tables.linkReset (t : Tables) (l : Link) : Tables :=
  { states := Vector.ofFn fun i => t.states[i].linkReset l,
    profiles := Vector.ofFn fun i => t.profiles[i].linkReset l }

/-- The debounce horizon of a profile: the largest debounce of its enabled inputs, 0 when none is enabled (R9). -/
def Profile.horizon (p : Profile) : Nat :=
  (List.finRange 16).foldl (fun h i => if p.inputs[i].enabled then max h p.inputs[i].debounce else h) 0

/-! ## Links, replies, refusals and notices (R174 to R179) -/

/-- The item of link `l`. -/
def Links.get (ls : Links) : Link → LinkState
  | .plan => ls.plan
  | .panel => ls.panel
  | .supervision => ls.supervision

/-- The item of link `l` replaced. -/
def Links.set (ls : Links) (l : Link) (x : LinkState) : Links :=
  match l with
  | .plan => { ls with plan := x }
  | .panel => { ls with panel := x }
  | .supervision => { ls with supervision := x }

/-- What link `l` holds. -/
def State.link (s : State) (l : Link) : LinkState := s.links.get l

/-- What link `l` holds, replaced. -/
def State.setLink (s : State) (l : Link) (x : LinkState) : State := { s with links := s.links.set l x }

/-- A reply becomes the link's pending reply (R175 step 4). -/
def State.setReply (s : State) (l : Link) (r : Reply) : State := s.setLink l { s.link l with reply := some r }

/-- The SHOT_GRANTED notice of a link raised (R33 step 8). -/
def State.raiseGranted (s : State) (l : Link) : State :=
  s.setLink l { s.link l with notices := { (s.link l).notices with granted := true } }

/-- The SHOT_ENDED notice of a link raised (R64 step 6). -/
def State.raiseEnded (s : State) (l : Link) : State :=
  s.setLink l { s.link l with notices := { (s.link l).notices with ended := true } }

/-- The TIME_QUALITY notice of a link raised (R171). -/
def State.raiseTimeQuality (s : State) (l : Link) : State :=
  s.setLink l { s.link l with notices := { (s.link l).notices with timeQuality := true } }

/-- The LANE_FAULT notice of the Supervision link raised (R118). -/
def State.raiseLaneFault (s : State) : State :=
  s.setLink .supervision
    { s.link .supervision with notices := { (s.link .supervision).notices with laneFault := true } }

/-- The kind code of a request kind (R183). -/
def Kind.code : Kind → Byte
  | .nop => 0x00
  | .peekNotices => 0x01
  | .takeNotices => 0x02
  | .clearFault => 0x03
  | .linkReset => 0x04
  | .loadState => 0x10
  | .loadProfile => 0x11
  | .freeState => 0x12
  | .freeProfile => 0x13
  | .readState => 0x14
  | .readProfile => 0x15
  | .tableStatus => 0x16
  | .submitShot => 0x20
  | .abort => 0x21
  | .setLinkPriority => 0x22
  | .queueStatus => 0x23
  | .go => 0x30
  | .step => 0x31
  | .adjust => 0x32
  | .setSupervision => 0x40
  | .declareLaneFault => 0x41
  | .clearLaneFault => 0x42
  | .setOverride => 0x43
  | .supervisionStatus => 0x44
  | .subscribe => 0x50
  | .reportStatus => 0x51
  | .readReport => 0x52
  | .retireReport => 0x53
  | .readCapture => 0x54
  | .setDiscipline => 0x60
  | .timeStatus => 0x61

/-- All request kinds, in the order of their codes. -/
def Kind.all : List Kind :=
  [.nop, .peekNotices, .takeNotices, .clearFault, .linkReset, .loadState, .loadProfile, .freeState, .freeProfile,
   .readState, .readProfile, .tableStatus, .submitShot, .abort, .setLinkPriority, .queueStatus, .go, .step, .adjust,
   .setSupervision, .declareLaneFault, .clearLaneFault, .setOverride, .supervisionStatus, .subscribe, .reportStatus,
   .readReport, .retireReport, .readCapture, .setDiscipline, .timeStatus]

/-- The kind with a given code, if the kind code table has one (R176 check 6). -/
def Kind.ofCode (b : Byte) : Option Kind := Kind.all.find? fun k => k.code == b

/-- The status a refusal's reply carries. -/
def Denial.status : Denial → Status
  | .badFrame => .badFrame
  | .badKind => .badKind
  | .badField _ => .badField
  | .notPermitted => .notPermitted
  | .held => .held
  | .locked => .locked
  | .notLoaded _ => .notLoaded
  | .notHolder _ => .notHolder
  | .conflict _ _ _ => .conflict
  | .queueFull => .queueFull
  | .noTime _ => .noTime
  | .notArmed => .notArmed
  | .notOwner => .notOwner
  | .noShot => .noShot
  | .noStepExit => .noStepExit
  | .notInMask => .notInMask
  | .notAdjustable => .notAdjustable
  | .notReady => .notReady
  | .noReport => .noReport
  | .noCapture => .noCapture

/-- The body a refusal's reply carries: what the refusing rule names, and otherwise nothing (R183, "Replies"). -/
def Denial.body : Denial → ReplyBody
  | .badField r => .fieldRef r
  | .notLoaded i => .index i
  | .notHolder i => .index i
  | .conflict i l k => .conflict i l k
  | .noTime q => .quality q
  | _ => .empty

/-- A refused transaction: its reply becomes the pending reply, and an empty fault record latches the kind, status and tag
and sets LINK_FAULT; a record already held stays as it is (R178). -/
def State.refuse (s : State) (l : Link) (kind tag : Byte) (d : Denial) : State :=
  let x := { s.link l with reply := some { kind := kind, tag := tag, status := d.status, body := d.body } }
  match x.fault with
  | some _ => s.setLink l x
  | none =>
    s.setLink l { x with fault := some { kind := kind, status := d.status, tag := tag },
                         notices := { x.notices with linkFault := true } }

/-- The end of a transaction (R175 steps 3 and 4): a refused request changes no state but the link's own, a taken one leaves
the state its rule gives, and either leaves its reply pending on the link. -/
def respond (l : Link) (k : Kind) (tag : Byte) (s : State) : Except Denial (State × ReplyBody) → State
  | .error d => s.refuse l k.code tag d
  | .ok (t, b) => t.setReply l { kind := k.code, tag := tag, status := .ok, body := b }

/-! ## Report slots and visit records (R134, R135, R49, R113) -/

/-- The report of a BUILDING slot changed by the block that owns the part (R135). -/
def State.onReport (s : State) (slot : Fin 16) (f : Report → Report) : State :=
  match s.reports[slot] with
  | .building r => { s with reports := s.reports.set slot (.building (f r)) }
  | _ => s

/-- The visit record with number `n` changed. -/
def Report.onVisit (r : Report) (n : Nat) (f : Visit → Visit) : Report :=
  { r with visits := r.visits.map fun v => if v.number = n then f v else v }

/-- The header changed. -/
def Report.onHeader (r : Report) (f : Header → Header) : Report := { r with header := f r.header }

/-- A breaker element at its place: in order of time, and in one microsecond in ascending simulator order (R113). -/
def insertElem (e : BreakerElem) : List BreakerElem → List BreakerElem
  | [] => [e]
  | x :: xs =>
    if e.time < x.time ∨ (e.time = x.time ∧ e.sim < x.sim) then e :: x :: xs else x :: insertElem e xs

/-- An element written into a visit's breaker activity list; one that would be the 17th is not written, and the truncated
mark is set (R113). Where several simulators write in the microsecond in which the list fills, the 17th is the one written last, in the
order of the commands. DESIGN CHOICE (notes/assumptions/40.md). -/
def Visit.addElem (v : Visit) (e : BreakerElem) : Visit :=
  if v.breakers.length < Config.breakerListSize then { v with breakers := insertElem e v.breakers }
  else { v with truncated := true }

/-- The breaker elements of this microsecond that waited for its tick, written into a visit at a time within it (R113). -/
def Visit.addFresh (v : Visit) (time : Nat) (es : List (Fin 4 × BreakerChange)) : Visit :=
  es.foldl (fun v e => v.addElem { sim := e.1, change := e.2, time := time }) v

/-- A report's visits that the shot has opened, by number. -/
def Report.visit? (r : Report) (n : Nat) : Option Visit := r.visits.find? fun v => v.number == n

/-! ## Capture halves -/

/-- The half named. -/
def Captures.get (c : Captures) : HalfId → Half
  | .a => c.a
  | .b => c.b

/-- The half named, replaced. -/
def Captures.set (c : Captures) (h : HalfId) (x : Half) : Captures :=
  match h with
  | .a => { c with a := x }
  | .b => { c with b := x }

/-- The half of a shot, where it took one, changed. -/
def State.onHalf (s : State) (h : Option HalfId) (f : Half → Half) : State :=
  match h with
  | none => s
  | some h => { s with captures := s.captures.set h (f (s.captures.get h)) }

/-! ## The granted shot (R43) -/

/-- The granted shot of the engine, if any. -/
def Engine.shot? : Engine → Option Shot
  | .idle => none
  | .armed sh _ => some sh
  | .running sh _ => some sh
  | .settling sh _ _ => some sh

/-- The engine's state as replies name it: DEFERRING reads as RUNNING (R43). -/
def Engine.name : Engine → EngineName
  | .idle => .idle
  | .armed _ _ => .armed
  | .running _ _ => .running
  | .settling _ _ _ => .settling

/-- The engine is RUNNING, DEFERRING included. -/
def Engine.isRunning : Engine → Bool
  | .running _ _ => true
  | _ => false

/-- The engine is IDLE. -/
def Engine.isIdle : Engine → Bool
  | .idle => true
  | _ => false

end Sys2Proof.Machine
end

