-- ==== Sys2Proof/Machine/Flags.lean ====
section
/-! DEFINITION. The lines and conditions the part shows that follow from other state at every moment: REPORT_READY (R146),
the ATTN lines (R180) and the binary output levels (R108, R109). -/

namespace Sys2Proof.Machine

/-- The pending set of a slot, empty for a slot that is not COMPLETE (R144). -/
def Slot.waiting : Slot → LinkSet
  | .complete _ w => w
  | _ => 0

/-- N of a link: the number of COMPLETE slots whose pending set holds it (R146). -/
def State.pendingCount (s : State) (l : Link) : Nat :=
  ((List.finRange 16).filter fun i => has s.reports[i].waiting l.number).length

/-- REPORT_READY of a link: N is at or above its threshold (R146). -/
def State.reportReady (s : State) (l : Link) : Bool := decide ((s.link l).threshold ≤ s.pendingCount l)

/-- Any of the five notice flags is set. -/
def Notices.any (n : Notices) : Bool := n.granted || n.ended || n.timeQuality || n.laneFault || n.linkFault

/-- The ATTN output of a link (R180). -/
def State.attn (s : State) (l : Link) : Bool := (s.link l).notices.any || s.reportReady l

/-- The level a simulator drives on output `o`, if it is enabled and names it: 'a' is closed in CLOSED and OPENING, 'b' in
OPEN and CLOSING (R108). -/
def Simulator.drives (b : Simulator) (o : Fin 8) : Option Bool :=
  if b.setting.enabled then
    if b.setting.aOut = some o then some (b.position == .closed || b.position == .opening)
    else if b.setting.bOut = some o then some (b.position == .opened || b.position == .closing)
    else none
  else none

/-- The level of an output claimed by an enabled simulator, if one claims it (R109). -/
def State.claimed (s : State) (o : Fin 8) : Option Bool :=
  (List.finRange 4).findSome? fun k => s.breakers[k].drives o

/-- The binary output levels: the closed outputs (R109). Outside RUNNING every output is open. -/
def State.outputs (s : State) : OutputSet :=
  match s.engine with
  | .running _ run =>
    setOf fun o =>
      match s.claimed o with
      | some level => level
      | none => has (s.entry run.inForce).pattern o
  | _ => 0

/-- The accepted levels of the contact inputs: the closed inputs (R91). -/
def State.acceptedLevels (s : State) : InputSet := setOf fun i => s.contacts[i].accepted == .closed

end Sys2Proof.Machine
end

