-- ==== Sys2Proof/Machine/CaptureUnit.lean ====
section
/-! DEFINITION. The Capture Memory (chapter 9): taking a half at a grant, writing sample records, the trigger, the stop at
the end of a shot, binding a half to its report and freeing it. -/

namespace Sys2Proof.Machine

/-- A half taken at a grant: FILLING, with the capture settings of the request (R154). -/
def Half.taken (r : Request) : Half :=
  { Half.free with state := .filling, trigMask := r.trigMask, preCount := r.preCount, lanes := r.capLanes }

/-- The half a grant takes: A if it is FREE, otherwise B if it is FREE (R154). -/
def Captures.toTake (c : Captures) : Option HalfId :=
  if c.a.state = .free then some .a else if c.b.state = .free then some .b else none

/-- The start of recording at the start tick (R156). -/
def Half.begin (h : Half) : Half := { h with phase := .preTrigger }

/-- A trigger noted while the phase is PRE_TRIGGER, its tick at offset `tick` (R157). -/
def Half.noteTrigger (h : Half) (tick : Nat) : Half :=
  match h.phase with
  | .preTrigger => { h with phase := .triggerNoted tick }
  | _ => h

/-- The time from the present microsecond to the next point of the grid after it (R164). -/
def State.toNextTick (s : State) : Nat :=
  Config.tickPeriod - (s.now.toNat + Config.tickPeriod - s.clock.anchor) % Config.tickPeriod

/-- The offset of the first tick at or after the present microsecond that is still to come: this microsecond when its tick
is still to be taken, and otherwise the next point of the grid (R157, R162). A tick of which the engine's work is done, by SHOT_START,
TIME_EXIT, DEFERRAL_END or MARK, has come first, also while SAMPLE_TICK is still to do the rest of it and its record will show the new
level. DESIGN CHOICE (notes/assumptions/41.md). -/
def State.nextTickOffset (s : State) (start : Clock) : Nat :=
  if s.engineDue then s.offset start else elapsed start (later s.now s.toNextTick)

/-- A record appended in PRE_TRIGGER: a full list loses its oldest record first (R156). -/
def appendCircular (rs : List Sample) (r : Sample) : List Sample :=
  (if rs.length < Config.halfSize then rs else rs.drop 1) ++ [r]

/-- The last `n` entries of a list. -/
def lastOf {α : Type} (n : Nat) (xs : List α) : List α := xs.drop (xs.length - n)

/-- A record appended in POST_TRIGGER, or as the trigger record: the phase becomes FULL at 8,192 records (R156, R158). -/
def Half.append (h : Half) (rs : List Sample) (r : Sample) : Half :=
  { h with records := rs ++ [r],
           phase := if (rs ++ [r]).length < Config.halfSize then .postTrigger else .full }

/-- The trigger record written: the last min(p, w) records before it are kept, and its index is their number (R158). -/
def Half.writeTrigger (h : Half) (r : Sample) : Half :=
  let kept := lastOf (min h.preCount h.written) h.records
  { h.append kept r with trigger := some kept.length, written := h.written + 1 }

/-- A sample record written and handled by the phase (R156). -/
def Half.write (h : Half) (r : Sample) : Half :=
  match h.phase with
  | .preTrigger => { h with records := appendCircular h.records r, written := h.written + 1 }
  | .triggerNoted tick =>
    if r.offset = tick then h.writeTrigger r
    else { h with records := appendCircular h.records r, written := h.written + 1 }
  | .postTrigger => { h.append h.records r with written := h.written + 1 }
  | .full => { h with written := h.written + 1 }
  | _ => h

/-- The sample record of the previous tick: its levels, and the readback of the capture lanes from this tick's frame, absent
when the frame is missing (R155). With an empty capture lane mask a frame that came gives readback values that are present and
empty. DESIGN CHOICE (notes/assumptions/42.md). -/
def sampleOf (lv : TickLevels) (lanes : LaneSet) (frame : Option (Vector Int 12)) : Sample :=
  { offset := lv.offset, inputs := lv.inputs, outputs := lv.outputs,
    readback := frame.map fun f => (members lanes).map fun i => f[i] }

/-- The record of the previous tick written into the half of the granted shot, when the previous tick was a tick of the shot
in RUNNING (R155, R156). -/
def State.writeCapture (s : State) : State :=
  match s.engine, s.tick.previous with
  | .running sh _, some lv => s.onHalf sh.half fun h => h.write (sampleOf lv h.lanes s.tick.frame)
  | _, _ => s

/-- The stop at the end of a shot, with the marks the phase gives (R159). -/
def Half.stop (h : Half) : Half :=
  match h.phase with
  | .waiting => { h with phase := .stopped, untriggered := true }
  | .preTrigger => { h with phase := .stopped, untriggered := true }
  | .triggerNoted _ => { h with phase := .stopped, untriggered := true }
  | .postTrigger => { h with phase := .stopped, cutShort := true }
  | .full => { h with phase := .stopped }
  | .stopped => h

/-- The cut-short mark of a shot's half, clear for a shot without one (R159). -/
def State.halfCutShort (s : State) : Option HalfId → Bool
  | none => false
  | some h => (s.captures.get h).cutShort

/-- The untriggered mark of a shot's half, clear for a shot without one (R159). -/
def State.halfUntriggered (s : State) : Option HalfId → Bool
  | none => false
  | some h => (s.captures.get h).untriggered

/-- The capture reference of a shot's half (R160). -/
def State.captureRef (s : State) : Option HalfId → Option CaptureRef
  | none => none
  | some h =>
    some { half := h, count := (s.captures.get h).records.length, trigger := (s.captures.get h).trigger }

/-- A half bound to a report slot becomes FREE with it (R150, R160). -/
def Half.freeWith (slot : Fin 16) (h : Half) : Half :=
  match h.state with
  | .held k _ => if k = slot then .free else h
  | _ => h

/-- The half bound to a report slot that becomes EMPTY, freed (R150). -/
def Captures.freeBound (c : Captures) (slot : Fin 16) : Captures :=
  { a := c.a.freeWith slot, b := c.b.freeWith slot }

end Sys2Proof.Machine
end

