-- ==== Sys2Proof/Machine/AssessUnit.lean ====
section
/-! DEFINITION. The Assessment Unit and the Report Store (chapter 8): measured values, verdicts, the close of a visit,
the completion of a report, pending sets. -/

namespace Sys2Proof.Machine

/-- The input's element of a visit's input activity list (R96). -/
def Visit.inputElem (v : Visit) (i : Fin 16) : Option InputElem := v.inputs.find? fun e => e.input == i

/-- The time of the earliest element of a simulator with a given new position (R137). -/
def Visit.moveTime (v : Visit) (k : Fin 4) (c : BreakerChange) : Option Nat :=
  (v.breakers.find? fun e => e.sim == k && e.change == c).map fun e => e.time

/-- The time an assessment reads from the visit's records, as an offset from the visit's entry (R137). -/
def Visit.timeOf (v : Visit) : AssessKind → Option Nat
  | .operate i => (v.inputElem i).bind fun e => e.firstOperate
  | .reset i => (v.inputElem i).bind fun e => e.firstReset
  | .noOperate i => (v.inputElem i).bind fun e => e.firstOperate
  | .breakerOpen k => v.moveTime k .opened
  | .breakerClose k => v.moveTime k .closed

/-- The measured value of an assessment (R137); an offset from the start time is a difference modulo 2⁴⁸ (R163). -/
def Visit.measured (v : Visit) (a : Assessment) : Option Nat :=
  (v.timeOf a.kind).map fun t =>
    match a.origin with
    | .visitEntry => t
    | .shotStart => (t + v.entry) % 2 ^ 48

/-- Whether a measured value passes (R138). -/
def Assessment.passes (a : Assessment) (m : Nat) : Bool :=
  match a.mode with
  | .below => m < a.high
  | .above => a.low < m
  | .inside => a.low ≤ m && m ≤ a.high
  | .outside => m < a.low || a.high < m

/-- The number of operates of an input attributed to a visit (R96). -/
def Visit.operates (v : Visit) (i : Fin 16) : Nat :=
  match v.inputElem i with
  | none => 0
  | some e => e.operates

/-- The verdict of an assessment with the measured value its result carries (R138, R139). -/
def Visit.judge (v : Visit) (a : Assessment) : Verdict × Option Nat :=
  match a.kind with
  | .noOperate i => if v.operates i = 0 then (.pass, none) else (.fail, v.measured a)
  | _ =>
    match v.measured a with
    | none => (.notMeasured, none)
    | some m => (if a.passes m then .pass else .fail, some m)

/-- One assessment's result: in a visit whose shot was cut short the verdict is VOID, and the measured value is carried where
it is present (R136, R140). -/
def Visit.result (v : Visit) (cutShort : Bool) (slot : Nat) (a : Assessment) : Result :=
  { state := v.state, visit := v.number, slot := slot, kind := a.kind,
    verdict := if cutShort then .void else (v.judge a).1,
    measured := if cutShort then v.measured a else (v.judge a).2 }

/-- The results of a list of assessments from slot `n` on, in slot order. -/
def Visit.resultsFrom (v : Visit) (cutShort : Bool) : Nat → List Assessment → List Result
  | _, [] => []
  | n, a :: as => v.result cutShort n a :: v.resultsFrom cutShort (n + 1) as

/-- One verdict counted in the header (R136). -/
def Header.count (h : Header) : Verdict → Header
  | .pass => { h with pass := h.pass + 1 }
  | .fail => { h with fail := h.fail + 1 }
  | .notMeasured => { h with notMeasured := h.notMeasured + 1 }
  | .void => { h with void := h.void + 1 }

/-- Results appended to a report, each counted in its header (R136). -/
def Report.append (r : Report) (rs : List Result) : Report :=
  { r with results := r.results ++ rs, header := rs.foldl (fun h x => h.count x.verdict) r.header }

/-- The end reasons under which the last visit is judged like any other (R140). -/
def EndReason.judged : EndReason → Bool
  | .completed => true
  | .visitLimit => true
  | _ => false

/-- The last visit of a shot that ended for another reason is cut short (R140). -/
def Report.cutShort (r : Report) (v : Visit) : Bool :=
  v.number + 1 == r.header.visitCount &&
    match r.header.endReason with
    | none => false
    | some e => !e.judged

/-- Visit `n` closes (R94): its assessments, read from its state entry, are judged and their results appended (R136). -/
def Report.closeVisit (r : Report) (n : Nat) (assessments : Fin 64 → List Assessment) : Report :=
  match r.visit? n with
  | none => r
  | some v =>
    (r.onVisit n fun v => { v with closeAt := none }).append
      (v.resultsFrom (r.cutShort v) 0 (assessments v.state))

/-- The visits that have been left and not yet closed, in visit order (R94). -/
def Report.unclosed (r : Report) : List Nat :=
  (r.visits.filter fun v => v.closeAt.isSome).map fun v => v.number

/-- The results a completed report keeps (R142). -/
def keptResults : ReportMode → List Result → List Result
  | .full, rs => rs
  | .verdicts, rs => rs
  | .failures, rs => rs.filter fun x => x.verdict ≠ .pass

/-- The report mode applied (R142). -/
def Report.applyMode (r : Report) : Report :=
  match r.header.mode with
  | .full => r
  | m => { r with visits := [], timeline := [], results := keptResults m r.results }

/-- The links whose subscription is ON (R141 step 5). -/
def State.subscribers (s : State) : LinkSet :=
  setOf fun i => (if i = 0 then s.links.plan else if i = 1 then s.links.panel else s.links.supervision).subscribed

/-- The report completed (R141 steps 2 to 4). -/
def Report.complete (r : Report) (untriggered : Bool) (ref : Option CaptureRef) : Report :=
  (r.onHeader fun h =>
    { h with anyClip := r.visits.any fun v => v.clip ≠ 0, untriggered := untriggered, capture := ref }).applyMode

/-- All visits of the shot that are still to close, closed in visit order (R64 step 1, R94). -/
def State.closeRest (s : State) (slot : Fin 16) : State :=
  s.onReport slot fun r =>
    r.unclosed.foldl (fun r n => r.closeVisit n fun i => (s.entry i).assessments) r

/-- The slot and the half handed on at completion: COMPLETE and HELD for a report with subscribers, EMPTY and FREE for one
without (R141 steps 5 and 6, R160). -/
def State.handOn (s : State) (sh : Shot) : State :=
  match s.reports[sh.slot] with
  | .building r =>
    if s.subscribers = 0 then
      { s with reports := s.reports.set sh.slot .empty }.onHalf sh.half fun _ => .free
    else
      { s with reports := s.reports.set sh.slot (.complete r s.subscribers) }.onHalf sh.half
        fun h => { h with state := .held sh.slot sh.serial }
  | _ => s

/-- The report completed at the teardown, and the slot and half handed on (R64 step 2, R141, R160). -/
def State.completeReport (s : State) (sh : Shot) : State :=
  (s.onReport sh.slot fun r => r.complete (s.halfUntriggered sh.half) (s.captureRef sh.half)).handOn sh

/-- A link taken out of the pending set of a slot: a COMPLETE slot whose set becomes empty becomes EMPTY (R149, R150). -/
def Slot.retire (l : Link) : Slot → Slot
  | .complete r w => if excluding w l.number = 0 then .empty else .complete r (excluding w l.number)
  | x => x

end Sys2Proof.Machine
end

