-- ==== Sys2Proof/Machine/Arbiter.lean ====
section
/-! DEFINITION. The Shot Queue and the Grant Arbiter (chapter 2): the ticket counter, eligibility, the choice at a grant,
the grant itself, and the removal of queued requests. -/

namespace Sys2Proof.Machine

/-! ## Tickets and serials (R22, R34) -/

/-- The tickets in use: those of the queued requests and of the granted shot (R22). -/
def State.ticketsInUse (s : State) : List Nat :=
  (s.queue.requests.map fun r => r.ticket) ++ (s.engine.shot?.map fun sh => sh.req.ticket).toList

/-- The ticket after `n`, 255 followed by 1 (R22). -/
def ticketAfter (n : Nat) : Nat := if n < 255 then n + 1 else 1

/-- The first ticket after `last` that is not in use, looking at most `fuel` numbers on (R22). -/
def nextTicket (inUse : List Nat) : Nat → Nat → Nat
  | 0, last => ticketAfter last
  | fuel + 1, last =>
    if inUse.contains (ticketAfter last) then nextTicket inUse fuel (ticketAfter last) else ticketAfter last

/-- The ticket a SUBMIT_SHOT receives (R22). -/
def State.freshTicket (s : State) : Nat := nextTicket s.ticketsInUse 255 s.queue.lastTicket

/-- The serial after `n`, 65,535 followed by 1 (R34). -/
def serialAfter (n : Nat) : Nat := if n < 65535 then n + 1 else 1

/-! ## Eligibility (R30) and the waiting cause (R39) -/

/-- Half the heat limit of a current lane, L/2, in mA² × ticks (R125, R126). -/
def SupSettings.halfLimit (x : SupSettings) : Nat := x.heatLimit * Config.heatUnit / 2

/-- The current lane `i` as a lane. -/
def currentLane (i : Fin 6) : Fin 12 := ⟨i.val, by omega⟩

/-- The heat account of current lane `i` stands above half its limit (R30 condition 4). -/
def State.hot (s : State) (i : Fin 6) : Bool :=
  (s.sup.lanes[currentLane i]).settings.halfLimit < s.sup.heat[i]

/-- The lane is FAULTED (R118). -/
def State.faulted (s : State) (i : Fin 12) : Bool := s.sup.lanes[i].condition ≠ .ready

/-- A report slot is EMPTY (R30 condition 2). -/
def State.emptySlot (s : State) : Option (Fin 16) := lowest fun i => s.reports[i] == .empty

/-- The lowest-numbered FAULTED lane of a lane-use mask (R39). -/
def State.faultedIn (s : State) (m : LaneSet) : Option (Fin 12) := lowest fun i => has m i && s.faulted i

/-- The lowest-numbered current lane of a lane-use mask whose account stands above half its limit (R39). -/
def State.hotIn (s : State) (m : LaneSet) : Option (Fin 6) := lowest fun i => has m (currentLane i) && s.hot i

/-- INHIBIT keeps a request with this lane-use mask from a grant (R30 condition 5). -/
def State.inhibits (s : State) (m : LaneSet) : Bool := s.sup.inhibit && !(s.sup.override && m == 0)

/-- The waiting cause of a request: the first condition of R30 that fails for it (R39); none when it is eligible. -/
def State.cause (s : State) (r : Request) : Option Cause :=
  if !s.engine.isIdle then some .engineBusy
  else if s.emptySlot.isNone then some .noSlot
  else match s.faultedIn r.laneUse with
    | some i => some (.laneFault i)
    | none =>
      match s.hotIn r.laneUse with
      | some i => some (.heat (currentLane i))
      | none => if s.inhibits r.laneUse then some .inhibit else none

/-- A request is eligible when every condition of R30 holds. -/
def State.eligible (s : State) (r : Request) : Bool := (s.cause r).isNone

/-! ## The choice (R32) -/

/-- The priority and max-wait of a request's link as they stand. -/
def State.priorityOf (s : State) (r : Request) : Priority :=
  ((s.link r.link).priority).getD { priority := 0, maxWait := 0 }

/-- A request is aged when its link's max-wait is 1–15 and its passed-over count is at or above it (R32 step 1). -/
def State.aged (s : State) (r : Request) : Bool :=
  0 < (s.priorityOf r).maxWait && (s.priorityOf r).maxWait ≤ r.passed

/-- The lowest priority number among the eligible requests (R32 step 2). -/
def State.bestPriority (s : State) : List Request → Nat
  | [] => 0
  | r :: rs => rs.foldl (fun p x => min p (s.priorityOf x).priority) (s.priorityOf r).priority

/-- The request the arbiter chooses: the oldest aged eligible request, or else the oldest eligible request of the link with
the lowest priority number (R32). -/
def State.choice (s : State) : Option Request :=
  let es := s.queue.requests.filter s.eligible
  match es.find? s.aged with
  | some r => some r
  | none => es.find? fun r => (s.priorityOf r).priority == s.bestPriority es

/-! ## The grant (R33) -/

/-- The passed-over count of a request raised by one, saturating at 15 (R33 step 2). -/
def Request.passOver (r : Request) : Request := { r with passed := saturateSucc Config.maxPassedOver r.passed }

/-- The header a grant writes into the report slot (R33 step 6). -/
def Header.granted (r : Request) (serial : Nat) (time : Clock) (absent : Bool) : Header :=
  { serial := serial, ticket := r.ticket, link := r.link, start := r.start, profile := r.profile,
    condition := r.condition, mode := r.mode, grantTime := time, startTime := none, quality := none, endTime := none,
    endReason := none, visitCount := 0, pass := 0, fail := 0, notMeasured := 0, void := 0, truncated := false,
    captureAbsent := absent, untriggered := false, cutShort := false, anyClip := false, capture := none }

/-- The half a grant of a request takes, none when capture is not enabled or no half is FREE (R33 step 5). -/
def State.halfFor (s : State) (r : Request) : Option HalfId := if r.capture then s.captures.toTake else none

/-- The start latch at the grant: IMMEDIATE is met at the grant (R45). -/
def State.latchAtGrant (s : State) (r : Request) : Option Clock :=
  match r.condition with
  | .immediate => some s.now
  | _ => none

/-- The grant of a request into a report slot, in the one action of R33. -/
def State.grantInto (s : State) (r : Request) (slot : Fin 16) : State :=
  let serial := serialAfter s.queue.lastSerial
  let half := s.halfFor r
  let rest := (s.queue.requests.erase r).map Request.passOver
  let report : Report :=
    { header := .granted r serial s.now (r.capture && half.isNone), visits := [], results := [], timeline := [] }
  let t : State :=
    { s with queue := { s.queue with requests := rest, lastSerial := serial },
             reports := s.reports.set slot (.building report),
             engine := .armed { req := r, serial := serial, slot := slot, half := half } (s.latchAtGrant r) }
  (t.onHalf half fun _ => .taken r).raiseGranted r.link

/-- The time quality lets no SECOND shot wait (R23 stage 7, R35). -/
def Quality.lost : Quality → Bool
  | .disabled => true
  | .free => true
  | _ => false

/-! ## Removing queued requests (R40, R41) -/

/-- A queued request removed with its locks (R40). -/
def State.removeQueued (s : State) (r : Request) : State :=
  { s with queue := { s.queue with requests := s.queue.requests.erase r },
           tables := s.tables.releaseFor r }

/-- Every queued request of a link removed with its locks (R41). -/
def State.removeQueuedOf (s : State) (l : Link) : State :=
  { s with queue := { s.queue with requests := s.queue.requests.filter fun x => x.link ≠ l },
           tables := (s.queue.requests.filter fun x => x.link = l).foldl Tables.releaseFor s.tables }

end Sys2Proof.Machine
end

