-- ==== Sys2Proof/Machine/ShotEnd.lean ====
section
/-! DEFINITION. The end of a shot and what follows it (R58 to R64): an end taken from ARMED, an end at a tick, the teardown,
the moment of a grant, and the end requests of the other blocks. -/

namespace Sys2Proof.Machine

/-- The debounce horizon of a shot (R63). -/
def State.horizon (s : State) (sh : Shot) : Nat := (s.profile sh.req.profile).horizon

/-- The end time and the end reason written into the report header, with the cut-short mark of the half (R60 step 5, R135). -/
def State.writeEnd (s : State) (sh : Shot) (r : EndReason) : State :=
  s.onReport sh.slot fun rep => rep.onHeader fun h =>
    { h with endTime := some s.now, endReason := some r, cutShort := s.halfCutShort sh.half }

/-- The teardown (R64): the last visit closes, the report completes, the locks are released, the engine becomes IDLE and
SHOT_ENDED is raised on the submitting link. -/
def State.tearDown (s : State) (sh : Shot) : State :=
  let t := (s.closeRest sh.slot).completeReport sh
  { t with tables := t.tables.releaseFor sh.req, engine := .idle }.raiseEnded sh.req.link

/-- The entry into SETTLING at the present microsecond; with a horizon of 0 µs the teardown comes in the same action (R63). -/
def State.settle (s : State) (sh : Shot) (startTime : Option Clock) : State :=
  if s.horizon sh = 0 then { s with engine := .settling sh startTime s.now }.tearDown sh
  else { s with engine := .settling sh startTime s.now }

/-- A shot ended from ARMED, at the moment the end is taken (R59). -/
def State.endArmed (s : State) (sh : Shot) (r : EndReason) : State :=
  (((s.onHalf sh.half Half.stop).writeEnd sh r).settle sh none)

/-- Grants made while the engine is IDLE and a request is eligible (R31, R33). A SECOND shot granted while the time quality
is DISABLED or FREE is ended at once with TIME_LOST (R35), and when its teardown comes in the same action the arbiter
chooses again; each turn takes a request from the queue, so `fuel` is the length of the queue. -/
def State.grantLoop : Nat → State → State
  | 0, s => s
  | fuel + 1, s =>
    match s.choice, s.emptySlot with
    | some r, some slot =>
      let t := s.grantInto r slot
      if r.condition = .second ∧ s.clock.quality.lost then
        match t.engine with
        | .armed sh _ => State.grantLoop fuel (t.endArmed sh .timeLost)
        | _ => t
      else t
    | _, _ => s

/-- A moment at which a grant can be made (R31): a grant is made when the engine is IDLE and a request is eligible. -/
def State.grantMoment (s : State) : State := State.grantLoop s.queue.requests.length s

/-- An end requested of the granted shot (R58): from ARMED it ends at once, and the engine's becoming IDLE is a moment for a
grant; from RUNNING the reason becomes the pending end unless one is pending; otherwise nothing happens. -/
def State.requestEnd (s : State) (r : EndReason) : State :=
  match s.engine with
  | .armed sh _ => (s.endArmed sh r).grantMoment
  | .running sh run =>
    match run.pendingEnd with
    | none => { s with engine := .running sh { run with pendingEnd := some r } }
    | some _ => s
  | _ => s

/-- The judgement of the granted shot under INHIBIT with the override clear (R128). -/
def State.judgeInhibit (s : State) : State :=
  if s.sup.inhibit && !s.sup.override then s.requestEnd .inhibited else s

/-- The adjust step counts a visit record receives when the visit is left (R50). -/
def State.adjustCounts (s : State) (sh : Shot) : Option (Vector Int 12) :=
  if sh.req.adjust then some (Vector.ofFn fun i => s.synth.lanes[i].adjust) else none

/-- A visit left at the present tick (R50): its exit time, exit cause, deferral length and adjust step counts, and its close
time, the exit time plus the debounce horizon (R94). -/
def State.leaveVisit (s : State) (sh : Shot) (run : Run) (cause : ExitCause) (deferral : Nat) : State :=
  s.onReport sh.slot fun rep => rep.onVisit run.visit fun v =>
    { v with exit := some (s.offset run.startTime), cause := some cause, deferral := deferral,
             adjust := s.adjustCounts sh, closeAt := some (later s.now (s.horizon sh)) }

/-- The breaker elements that waited for this tick, written into the current visit (R113). -/
def State.flushInto (s : State) (sh : Shot) (run : Run) : State :=
  s.onReport sh.slot fun rep => rep.onVisit run.visit fun v =>
    v.addFresh (s.since run.startTime run.entry) run.fresh

/-- A simulator stopped at the position it holds, its timer discarded (R114). -/
def Simulator.stop (b : Simulator) : Simulator := { b with timer := none }

/-- The deferral length of a visit left by an end: the time since the tick of the exit while DEFERRING, and otherwise 0
(R57). -/
def State.deferralAtEnd (s : State) (run : Run) : Nat :=
  match run.deferral with
  | none => 0
  | some d => s.since run.startTime d.offset

/-- The end of a RUNNING shot at its end tick (R60): the current visit is left, the simulators stop and re-energising requests
lapse, the capture half stops, the end is written into the header and the engine settles. -/
def State.endRunning (s : State) (sh : Shot) (run : Run) (r : EndReason) (cause : ExitCause) : State :=
  let t := (s.flushInto sh run).leaveVisit sh run cause (s.deferralAtEnd run)
  let t : State :=
    { t with breakers := Vector.ofFn fun k => t.breakers[k].stop,
             synth := { t.synth with
               lanes := Vector.ofFn fun i => { t.synth.lanes[i] with reenergise := none } } }
  ((t.onHalf sh.half Half.stop).writeEnd sh r).settle sh (some run.startTime)

/-- The notices of a change of the time quality, and the end of a waiting SECOND shot when the quality is lost (R171). -/
def State.qualityChanged (s : State) : State :=
  let t := (s.raiseTimeQuality .plan).raiseTimeQuality .panel
  match t.engine with
  | .armed sh none =>
    if sh.req.condition = .second ∧ t.clock.quality.lost then t.requestEnd .timeLost else t
  | _ => t

/-- The time quality set, and the change handed on when it is one (R171). -/
def State.setQuality (s : State) (q : Quality) : State :=
  let t : State := { s with clock := { s.clock with quality := q } }
  if s.clock.quality = q then t else t.qualityChanged

end Sys2Proof.Machine
end

