-- ==== Sys2Proof/Machine/BreakerUnit.lean ====
section
/-! DEFINITION. The Breaker Simulator Unit (chapter 6): standing commands, moves and their completion, cut and re-energising
requests, breaker activity elements. -/

namespace Sys2Proof.Machine

/-- The inactive level of an input setting (R89). -/
def InputSetting.inactive (x : InputSetting) : Level :=
  match x.active with
  | .closed => .opened
  | .opened => .closed

/-- An input stands at its active level in the accepted levels (R52, R103). -/
def Contact.operated (c : Contact) : Bool := c.accepted == c.setting.active

/-- A command through an input stands: the input is named, enabled in the settings in force, and at its active level (R103). -/
def State.stands (s : State) : Option (Fin 16) → Bool
  | none => false
  | some i => s.contacts[i].setting.enabled && s.contacts[i].operated

/-- Simulator `k` replaced. -/
def State.setBreaker (s : State) (k : Fin 4) (b : Simulator) : State :=
  { s with breakers := s.breakers.set k b }

/-- Lane `i` of the Synthesizer replaced. -/
def State.setLane (s : State) (i : Fin 12) (x : SynthLane) : State :=
  { s with synth := { s.synth with lanes := s.synth.lanes.set i x } }

/-- A breaker activity element written (R113). At a microsecond whose tick is still to come it waits for that tick, because a
change at the microsecond of a visit entry belongs to the entered visit; otherwise it joins the current visit. -/
def State.writeElem (s : State) (k : Fin 4) (c : BreakerChange) : State :=
  match s.engine with
  | .running sh run =>
    if s.engineDue then { s with engine := .running sh { run with fresh := run.fresh ++ [(k, c)] } }
    else s.onReport sh.slot fun rep => rep.onVisit run.visit fun v =>
      v.addElem { sim := k, change := c, time := s.since run.startTime run.entry }
  | _ => s

/-- Simulator settings bind a lane (R110). -/
def BreakerSetting.binds (b : BreakerSetting) (i : Fin 12) : Bool :=
  if h : i.val < 6 then has b.lanes ⟨i.val, h⟩ else false

/-- An enabled simulator holds lane `i`: it binds it and its interrupting flag is set (R110). -/
def Simulator.holds (b : Simulator) (i : Fin 12) : Bool :=
  b.setting.enabled && b.setting.binds i && b.interrupting

/-- A cut request of simulator `k` at a lane, made at `now` (R80): a LIVE lane becomes CUTTING, nothing happens to a CUTTING lane,
and for a CUT lane it withdraws a re-energising request. A CUTTING lane's request of an earlier microsecond stands: DEDUCED
(notes/assumptions/13.md). One of this microsecond stands when `stands` says so: when no other simulator than one that made it holds
the lane. DEDUCED (notes/assumptions/45.md). Of two simulators that reach OPEN in one microsecond, the first taken starts the
cutting of a LIVE lane. DESIGN CHOICE (notes/assumptions/44.md). -/
def SynthLane.requestCut (x : SynthLane) (k : Fin 4) (now : Clock) (stands : Bool) : SynthLane :=
  match x.cut with
  | .live => { x with cut := .cutting k 0 }
  | .cutting _ _ => if x.reenergise = some now ∧ stands = false then { x with reenergise := none } else x
  | .cut => { x with reenergise := none }

/-- A re-energising request at a lane, made at `now`; it does nothing to a LIVE lane and is not kept for it (R80, R112). DEDUCED
(notes/assumptions/14.md). A request that waits already
names the earlier tick and stands: the lane it makes LIVE there needs no second one (R80). -/
def SynthLane.requestReenergise (x : SynthLane) (now : Clock) : SynthLane :=
  match x.cut with
  | .live => x
  | _ => { x with reenergise := some (x.reenergise.getD now) }

/-- Another enabled simulator than `k` holds lane `i` (R110). -/
def State.heldByOther (s : State) (k : Fin 4) (i : Fin 12) : Bool :=
  (List.finRange 4).any fun j => j != k && s.breakers[j].holds i

/-- A simulator whose reaching CLOSED at this microsecond counts for lane `i`, and beside which no other holds it: its re-energising
request of this microsecond is to be made (R110). -/
def State.released (s : State) (i : Fin 12) : Bool :=
  (List.finRange 4).any fun m => has s.tick.moves.asked[i] m && !s.heldByOther m i

/-- Simulator `k` and the lanes whose cutting its cut requests begin noted (R80, R110). -/
def State.noteOpened (s : State) (k : Fin 4) : State :=
  { s with tick := { s.tick with moves := { s.tick.moves with
      opened := including s.tick.moves.opened k,
      begun := setOf fun i => has s.tick.moves.begun i ||
        (s.breakers[k].setting.binds i && s.synth.lanes[i].cut == .live) } } }

/-- Simulator `k`, which reaches CLOSED, counts for lane `i`: it binds the lane, and the lane is not LIVE. A lane whose cutting
began at this microsecond was LIVE at it too, and `k` counts for it only when it has reached OPEN at it: of the requests of two
simulators at such a lane the re-energising one comes first. DEDUCED (notes/assumptions/45.md). -/
def State.counts (s : State) (k : Fin 4) (i : Fin 12) : Bool :=
  s.breakers[k].setting.binds i && s.synth.lanes[i].cut != .live && (!has s.tick.moves.begun i || has s.tick.moves.opened k)

/-- Simulator `k` noted for the lanes that its reaching CLOSED at this microsecond counts for. -/
def State.noteClosed (s : State) (k : Fin 4) : State :=
  { s with tick := { s.tick with moves := { s.tick.moves with
      asked := Vector.ofFn fun i =>
        if s.counts k i then including s.tick.moves.asked[i] k else s.tick.moves.asked[i] } } }

/-- A re-energising request is made at lane `i` when simulator `k` reaches CLOSED (R110): at a CUTTING lane when the request of any
simulator of this microsecond is to be made, so that no order of the simulators counts (R107, R115), and else when no other
simulator holds it. DEDUCED (notes/assumptions/45.md). -/
def State.asksAt (s : State) (k : Fin 4) (i : Fin 12) : Bool :=
  match s.synth.lanes[i].cut with
  | .cutting _ _ => s.released i
  | _ => !s.heldByOther k i

/-- Cut requests for every lane simulator `k` binds (R110). -/
def State.cutRequests (s : State) (k : Fin 4) : State :=
  let lanes := Vector.ofFn fun i =>
    if s.breakers[k].setting.binds i then s.synth.lanes[i].requestCut k s.now (s.released i) else s.synth.lanes[i]
  { s.noteOpened k with synth := { s.synth with lanes := lanes } }

/-- Re-energising requests when simulator `k` reaches CLOSED, for the lanes it binds (R110). -/
def State.reenergiseRequests (s : State) (k : Fin 4) : State :=
  let t := s.noteClosed k
  let lanes := Vector.ofFn fun i =>
    if s.breakers[k].setting.binds i && t.asksAt k i then s.synth.lanes[i].requestReenergise s.now else s.synth.lanes[i]
  { t with synth := { s.synth with lanes := lanes } }

/-- Simulator `k` becomes OPENING with a due time (R102, R104): an OPENING element is written. -/
def State.beginOpening (s : State) (k : Fin 4) (due : Clock) : State :=
  (s.setBreaker k { s.breakers[k] with position := .opening, timer := some (due, .opened) }).writeElem k .opening

/-- Simulator `k` becomes CLOSING with a due time (R102, R105): a CLOSING element is written. -/
def State.beginClosing (s : State) (k : Fin 4) (due : Clock) : State :=
  (s.setBreaker k { s.breakers[k] with position := .closing, timer := some (due, .closed) }).writeElem k .closing

/-- Simulator `k` takes position OPEN (R106): the steps of its completion but for the cut requests. -/
def State.takeOpen (s : State) (k : Fin 4) : State :=
  let b := s.breakers[k]
  let t := (s.setBreaker k
    { b with position := .opened, timer := none, interrupting := true,
             tripLatch := b.tripLatch || s.stands b.setting.trip }).writeElem k .opened
  if s.stands b.setting.close && !b.closeLatch then t.beginClosing k (later s.now b.setting.closeTime) else t

/-- Simulator `k` takes position CLOSED (R106): the steps of its completion but for the re-energising requests. -/
def State.takeClosed (s : State) (k : Fin 4) : State :=
  let b := s.breakers[k]
  let t := (s.setBreaker k
    { b with position := .closed, timer := none, interrupting := false,
             closeLatch := b.closeLatch || s.stands b.setting.close }).writeElem k .closed
  if s.stands b.setting.trip && !b.tripLatch then t.beginOpening k (later s.now b.setting.openTime) else t

/-- Simulator `k` reaches OPEN (R106): its cut requests are made. -/
def State.reachOpen (s : State) (k : Fin 4) : State := (s.takeOpen k).cutRequests k

/-- Simulator `k` reaches CLOSED (R106): its re-energising requests are made. -/
def State.reachClosed (s : State) (k : Fin 4) : State := (s.takeClosed k).reenergiseRequests k

/-- The move of simulator `k` completes at its due time, in RUNNING (R102, R106). -/
def State.completeMove (s : State) (k : Fin 4) : State :=
  match s.breakers[k].timer with
  | some (due, target) =>
    if s.engine.isRunning && due == s.now then
      match target with
      | .opened => s.reachOpen k
      | .closed => s.reachClosed k
    else s
  | none => s

/-- The start of a move: the event time, or the start time of the shot where the event time lies before it (R104, R105). -/
def moveStart (run : Run) (event now : Clock) : Clock :=
  if elapsed run.startTime now < elapsed event now then run.startTime else event

/-- A trip operate at simulator `k` accepted in RUNNING (R104), but for the cut requests of a move that has run its course. -/
def State.trip (s : State) (k : Fin 4) (run : Run) (event : Clock) : State :=
  let b := s.breakers[k]
  let start := moveStart run event s.now
  if (b.position = .closed ∨ b.position = .closing) ∧ !b.tripLatch then
    let t := s.beginOpening k (later start b.setting.openTime)
    if b.setting.openTime ≤ elapsed start s.now then t.takeOpen k else t
  else s

/-- A close operate at simulator `k` accepted in RUNNING (R105), but for the re-energising requests of a move that has run its
course. -/
def State.close (s : State) (k : Fin 4) (run : Run) (event : Clock) : State :=
  let b := s.breakers[k]
  let start := moveStart run event s.now
  match b.position with
  | .opened =>
    if b.closeLatch then s
    else
      let t := s.beginClosing k (later start b.setting.closeTime)
      if b.setting.closeTime ≤ elapsed start s.now then t.takeClosed k else t
  | .opening => s.writeElem k .closeRefused
  | .closing => s.writeElem k .closeRefused
  | .closed => s

/-- An accepted event of input `i` at simulator `k` in RUNNING (R103, R104, R105): an operate of the trip or close input trips
or closes it, a reset clears the latch. -/
def State.breakerEvent (s : State) (run : Run) (i : Fin 16) (d : Direction) (event : Clock) (k : Fin 4) : State :=
  let b := s.breakers[k]
  if !b.setting.enabled then s
  else match d with
    | .operate =>
      if b.setting.trip = some i then s.trip k run event
      else if b.setting.close = some i then s.close k run event
      else s
    | .reset =>
      s.setBreaker k
        { b with tripLatch := b.tripLatch && !(b.setting.trip == some i),
                 closeLatch := b.closeLatch && !(b.setting.close == some i) }

/-- The position that simulator `k` reaches at once at an accepted event, because the move has already run its course (R104, R105).
-/
def State.runsTo (s : State) (run : Run) (i : Fin 16) (d : Direction) (event : Clock) (k : Fin 4) : Option Level :=
  let b := s.breakers[k]
  let past := elapsed (moveStart run event s.now) s.now
  if !b.setting.enabled then none
  else match d with
    | .operate =>
      if b.setting.trip = some i then
        if (b.position = .closed ∨ b.position = .closing) ∧ !b.tripLatch ∧ b.setting.openTime ≤ past then some .opened else none
      else if b.setting.close = some i then
        if b.position = .opened ∧ !b.closeLatch ∧ b.setting.closeTime ≤ past then some .closed else none
      else none
    | .reset => none

/-- A simulator as the start tick of a shot leaves it (R101): the setting of its number, and when it is enabled its initial
position, no timer, clear latches and the interrupting flag set when it starts OPEN; a disabled one is out of service
(R100). -/
def Simulator.start (x : BreakerSetting) : Simulator :=
  { setting := x, position := if x.enabled && x.initial == .closed then .closed else .opened, timer := none,
    tripLatch := false, closeLatch := false, interrupting := x.enabled && x.initial == .opened }

end Sys2Proof.Machine
end

