-- ==== Sys2Proof/Machine/ContactUnit.lean ====
section
/-! DEFINITION. The Contact Input Unit (chapter 5): episodes, accepted events, their hand-over to the engine, the
simulators and the capture, and their recording in the visits and the timeline of a shot. -/

namespace Sys2Proof.Machine

/-! ## Episodes (R87, R88) -/

/-- Contact input `i` replaced. -/
def State.setContact (s : State) (i : Fin 16) (c : Contact) : State := { s with contacts := s.contacts.set i c }

/-- The sample of an enabled input with no episode: one begins at `now` when the raw level differs from the accepted level
(R88). -/
def Contact.begin (c : Contact) (now : Clock) : Contact :=
  if c.setting.enabled ∧ c.episode = none ∧ c.pin ≠ c.accepted then { c with episode := some ⟨now, now⟩ } else c

/-- A raw change within an episode: the time of the last raw change becomes the time of this sample (R88). -/
def Contact.change (c : Contact) (now : Clock) : Contact :=
  match c.episode with
  | some e => if c.setting.enabled ∧ c.prevRaw ≠ some c.pin then { c with episode := some { e with last := now } } else c
  | none => c

/-- The sample of an input that finds the raw level `l` (R88): an episode goes on with its raw change, or one begins. -/
def Contact.sample (c : Contact) (l : Level) (now : Clock) : Contact :=
  if c.episode = none then { c with pin := l }.begin now else { c with pin := l }.change now

/-- The episode of an enabled input whose raw level has stood for the debounce in force ends at this sample (R88). -/
def Contact.ends (c : Contact) (now : Clock) : Option Episode :=
  match c.episode with
  | some e => if c.setting.enabled ∧ c.setting.debounce ≤ elapsed e.last now then some e else none
  | none => none

/-- A contact input as it stood before its episode ended at this microsecond's sample, where one has (R87). DEDUCED
(notes/assumptions/38.md). -/
def State.unjudged (s : State) (i : Fin 16) : Contact :=
  match s.tick.ended.find? fun x => x.1 == i with
  | some (_, level, e) => { s.contacts[i] with accepted := level, episode := some e }
  | none => s.contacts[i]

/-- A contact input as it passes to the settings of a shot at its start tick (R87): a disabled input drops its episode and takes its
new inactive level. The start tick's sample comes after it, under the new settings: it is the CONTACT_RAW_EDGE of that microsecond,
or with none the due sample of the level that stands on the line. DESIGN CHOICE (notes/assumptions/12.md). -/
def Contact.start (c : Contact) (x : InputSetting) : Contact :=
  if x.enabled then { c with setting := x }
  else { c with setting := x, episode := none, accepted := x.inactive }

/-! ## Recording (R92 to R98) -/

/-- An event attributed to a visit entered into the element of its input, at a time from the visit's entry (R96). -/
def InputElem.add (e : InputElem) (d : Direction) (time : Nat) : InputElem :=
  match d with
  | .operate =>
    { e with firstOperate := some (e.firstOperate.getD time), operates := saturateSucc Config.maxCount e.operates }
  | .reset => { e with firstReset := some (e.firstReset.getD time) }

/-- An input activity list with an event entered: the element of the input is found or created, in ascending input order
(R96). -/
def addInput (i : Fin 16) (d : Direction) (time : Nat) : List InputElem → List InputElem
  | [] => [({ input := i, firstOperate := none, width := none, firstReset := none, operates := 0 } : InputElem).add d time]
  | e :: es =>
    if e.input = i then e.add d time :: es
    else if i < e.input then
      ({ input := i, firstOperate := none, width := none, firstReset := none, operates := 0 } : InputElem).add d time
        :: e :: es
    else e :: addInput i d time es

/-- A visit has closed: it has been left and waits for no close time (R94). -/
def Visit.closed (v : Visit) : Bool := v.exit.isSome && v.closeAt.isNone

/-- The interval of a visit of a shot holds an event time: its entry included, its exit excluded (R93). The times are compared by
the time that has passed since each, modulo 2⁴⁸ (R163). -/
def Visit.holds (v : Visit) (start now event : Clock) : Bool :=
  decide (elapsed event now ≤ elapsed (later start v.entry) now) &&
    match v.exit with
    | none => true
    | some x => decide (elapsed (later start x) now < elapsed event now)

/-- An event attributed to the visit whose interval holds it; an event whose visit has closed is late and enters none (R93,
R95). -/
def Report.attribute (r : Report) (start now : Clock) (i : Fin 16) (d : Direction) (event : Clock) : Report :=
  { r with visits := r.visits.map fun v =>
      if v.holds start now event && !v.closed then
        { v with inputs := addInput i d (elapsed (later start v.entry) event) v.inputs }
      else v }

/-- A first operate width, in a visit entered at `entry`, written by the reset that follows the operate (R97). -/
def InputElem.fillWidth (e : InputElem) (i : Fin 16) (entry event : Clock) : InputElem :=
  match e.firstOperate, e.width with
  | some o, none => if e.input = i then { e with width := some (elapsed (later entry o) event) } else e
  | _, _ => e

/-- The first operate widths that a reset of an input writes, whichever visit holds their elements (R97). -/
def Report.fillWidths (r : Report) (start : Clock) (i : Fin 16) (event : Clock) : Report :=
  { r with visits := r.visits.map fun v =>
      { v with inputs := v.inputs.map fun e => e.fillWidth i (later start v.entry) event } }

/-- An event at its place in the timeline: in order of time, and at equal times in ascending input order (R98). -/
def insertEvent (e : TimelineEvent) : List TimelineEvent → List TimelineEvent
  | [] => [e]
  | x :: xs =>
    if e.time < x.time ∨ (e.time = x.time ∧ e.input < x.input) then e :: x :: xs else x :: insertEvent e xs

/-- An event of the shot joins the timeline, or sets the truncated flag when 32 events are held (R98). Of two events accepted in one
microsecond the one recorded first takes the last place. DESIGN CHOICE (notes/assumptions/39.md). -/
def Report.joinTimeline (r : Report) (e : TimelineEvent) : Report :=
  if r.timeline.length < Config.timelineSize then { r with timeline := insertEvent e r.timeline }
  else r.onHeader fun h => { h with truncated := true }

/-- An event of the shot that started at `start`, accepted at `now`, recorded in the report (R92): the widths it completes, its
visit, and the timeline. -/
def Report.record (r : Report) (start now : Clock) (i : Fin 16) (d : Direction) (event : Clock) : Report :=
  let r := match d with
    | .operate => r
    | .reset => r.fillWidths start i event
  (r.attribute start now i d event).joinTimeline { input := i, direction := d, time := elapsed start event }

/-- An accepted event with event time `event` recorded, when it is an event of the granted shot: at or after the start time
and before the end time (R92), compared by the time that has passed since each (R163, notes/assumptions/43.md). -/
def State.recordEvent (s : State) (i : Fin 16) (d : Direction) (event : Clock) : State :=
  match s.engine with
  | .running sh run =>
    if elapsed event s.now ≤ elapsed run.startTime s.now then
      s.onReport sh.slot fun r => r.record run.startTime s.now i d event
    else s
  | .settling sh (some start) finish =>
    if elapsed event s.now ≤ elapsed start s.now ∧ elapsed finish s.now < elapsed event s.now then
      s.onReport sh.slot fun r => r.record start s.now i d event
    else s
  | _ => s

/-- An event dated to the present microsecond waits for a tick of the running shot that is still to come in it, because that tick
decides which visit holds it, or whether it is an event of the shot at all (R92, R93, R99). It is thus recorded after the events
dated earlier that are accepted in the same microsecond. DESIGN CHOICE for a timeline that fills there (notes/assumptions/39.md). -/
def State.fileEvent (s : State) (i : Fin 16) (d : Direction) (event : Clock) : State :=
  if event == s.now && s.engine.isRunning && s.engineDue then
    { s with tick := { s.tick with events := s.tick.events ++ [(i, d)] } }
  else s.recordEvent i d event

/-- The events that waited for this tick recorded, after the engine's work at it. -/
def State.fileWaiting (s : State) : State :=
  let t := s.tick.events.foldl (fun s e => s.recordEvent e.1 e.2 s.now) s
  { t with tick := { t.tick with events := [] } }

/-! ## Accepted events (R89, R91) -/

/-- The direction of a change to a new accepted level (R89). -/
def InputSetting.direction (x : InputSetting) (l : Level) : Direction := if l = x.active then .operate else .reset

/-- The exit slots of a list whose kind is INPUT_EDGE with an input in its mask (R53). -/
def edgeSlots (es : List Exit) (i : Fin 16) : BitVec 4 :=
  setOf fun n =>
    match es[n.val]? with
    | some { kind := .inputEdge mask, .. } => has mask i
    | _ => false

/-- The edge latches an operate sets: in RUNNING outside DEFERRING, for an event time at or after the visit entry (R53). -/
def State.latchEdges (s : State) (i : Fin 16) (d : Direction) (event : Clock) : State :=
  match s.engine, d with
  | .running sh run, .operate =>
    if run.deferral = none ∧ elapsed event s.now ≤ s.since run.startTime run.entry then
      { s with engine := .running sh { run with edges := run.edges ||| edgeSlots (s.entry run.inForce).exits i } }
    else s
  | _, _ => s

/-- An accepted event handed to the four simulators, in RUNNING (R91, R104, R105). The simulators that reach a position at once make
their requests once all four have handled the event, so that they need no order among them (R110, R115). -/
def State.informBreakers (s : State) (i : Fin 16) (d : Direction) (event : Clock) : State :=
  match s.engine with
  | .running _ run =>
    let t := (List.finRange 4).foldl (fun t k => t.breakerEvent run i d event k) s
    let t := (List.finRange 4).foldl (fun t k => if s.runsTo run i d event k = some .opened then t.cutRequests k else t) t
    (List.finRange 4).foldl (fun t k => if s.runsTo run i d event k = some .closed then t.reenergiseRequests k else t) t
  | _ => s

/-- An operate of an input in the trigger mask triggers the half of the granted shot, in RUNNING (R157). -/
def State.informCapture (s : State) (i : Fin 16) (d : Direction) : State :=
  match s.engine, d with
  | .running sh run, .operate =>
    s.onHalf sh.half fun h => if has h.trigMask i then h.noteTrigger (s.nextTickOffset run.startTime) else h
  | _, _ => s

/-- An accepted event handed on to the blocks that use it (R91). -/
def State.handOver (s : State) (i : Fin 16) (d : Direction) (event : Clock) : State :=
  (((s.latchEdges i d event).informBreakers i d event).informCapture i d).fileEvent i d event

/-- The end of an episode noted with the accepted level before it, for a shot that starts at this microsecond (R87). -/
def State.noteEnded (s : State) (i : Fin 16) (level : Level) (e : Episode) : State :=
  { s with tick := { s.tick with ended := s.tick.ended ++ [(i, level, e)] } }

/-- An ended episode `e` of input `i` (R88): with the raw level away from the accepted level the change is accepted and handed
on, and otherwise nothing is. -/
def State.endEpisode (s : State) (i : Fin 16) (e : Episode) : State :=
  let c := s.contacts[i]
  let t := (s.noteEnded i c.accepted e).setContact i { c with episode := none, accepted := c.pin }
  if c.pin = c.accepted then t else t.handOver i (c.setting.direction c.pin) e.start

end Sys2Proof.Machine
end

