-- ==== Sys2Proof/Machine/Synthesizer.lean ====
section
/-! DEFINITION. The Waveform Synthesizer (chapter 4): phase, magnitude, the decaying offset, value and code, the cut test of
chapter 6, and one lane's work at a tick. -/

namespace Sys2Proof.Machine

/-! ## Phase and magnitude (R69 to R73) -/

/-- The phase increment of a frequency in mHz (R69). -/
def phaseIncrement (f : Nat) : Phase := BitVec.ofInt 32 (roundDiv (f * 4294967296 : Nat) 20000000)

/-- The angle offset of an angle in centidegrees (R69). -/
def angleOffset (a : Nat) : Phase := BitVec.ofInt 32 (roundDiv (a * 4294967296 : Nat) 36000)

/-- The sine value of a phase: the top twelve bits index the table (R71). -/
def sineOf (p : Phase) : Int := sine (p.toNat / 1048576)

/-- The sum of a magnitude and the adjust steps before it is clamped (R72). -/
def magnitudeSum (rms step : Nat) (count : Int) : Int := rms + count * step

/-- The effective rms E of lane `i` (R72). -/
def effectiveRms (i : Fin 12) (rms step : Nat) (count : Int) : Int :=
  clampInt 0 (Config.laneMax i) (magnitudeSum rms step count)

/-- The peak of an effective rms (R73). -/
def peak (e : Int) : Int := roundDiv (e * 46341) 32768

/-- The value s of a lane setting at an accumulator, for an effective rms: the AC value, or the DC value at frequency 0
(R73). -/
def acValue (x : LaneSetting) (e : Int) (accum : Phase) : Int :=
  roundDiv ((if x.freq = 0 then e else peak e) * sineOf (accum + angleOffset x.angle)) 32767

/-- The adjust step size of lane `i` in a shot's profile (R72). -/
def State.stepSize (s : State) (sh : Shot) (i : Fin 12) : Nat := (s.profile sh.req.profile).steps[i]

/-- The effective rms of lane `i` in a state (R72). -/
def State.laneRms (s : State) (sh : Shot) (n : Fin 64) (i : Fin 12) : Int :=
  effectiveRms i ((s.entry n).lanes[i]).rms (s.stepSize sh i) (s.synth.lanes[i]).adjust

/-- The value s of lane `i` in a state, at the present accumulator and adjust steps (R73). -/
def State.laneAc (s : State) (sh : Shot) (n : Fin 64) (i : Fin 12) : Int :=
  acValue ((s.entry n).lanes[i]) (s.laneRms sh n i) (s.synth.lanes[i]).accum

/-! ## The decaying offset (R74 to R76) -/

/-- The decay coefficient of a time constant in ms (R75). -/
def decayCoefficient (tau : Nat) : Int := roundDiv 3276800 (tau * 1000)

/-- A residue after one tick's decay (R75): it becomes 0 when the decrement rounds to 0. -/
def decay (d c : Int) : Int := if roundDiv (d * c) 65536 = 0 then 0 else d - roundDiv (d * c) 65536

/-- The residue of a lane after this tick's decay in a state with setting `x`; with offset off it is left as it is (R75). -/
def decayed (x : LaneSetting) (d : Int) : Int := if x.tau = 0 then d else decay d (decayCoefficient x.tau)

/-- The residue an entry sets: with offset on the step from `old` to `new`, clamped to twice the full scale, and with offset
off 0 (R74). -/
def entryResidue (i : Fin 12) (x : LaneSetting) (old new : Int) : Int :=
  if x.tau = 0 then 0
  else clampInt (-(2 * Config.fullScale i * 65536)) (2 * Config.fullScale i * 65536) (65536 * (old - new))

/-- The value the outgoing state would have produced on lane `i` at this tick (R74): 0 under INHIBIT. -/
def State.oldValue (s : State) (sh : Shot) (old : Fin 64) (i : Fin 12) : Int :=
  if s.sup.inhibit then 0
  else s.laneAc sh old i + roundDiv (decayed ((s.entry old).lanes[i]) (s.synth.lanes[i]).residue) 65536

/-- The value lane `i` had been playing at an entry: there is no outgoing state at the start tick (R74). -/
def State.valueLeft (s : State) (sh : Shot) (old : Option (Fin 64)) (i : Fin 12) : Int :=
  match old with
  | none => 0
  | some n => s.oldValue sh n i

/-- The residues set at the entry of state `new` from state `old`, none at the start tick (R74); a CUT lane is left (R76). They are
computed in the engine's stage of the tick. DESIGN CHOICE (notes/assumptions/46.md). -/
def State.setResidues (s : State) (sh : Shot) (old : Option (Fin 64)) (new : Fin 64) : State :=
  { s with
    synth := { s.synth with lanes := Vector.ofFn fun i =>
      let x := s.synth.lanes[i]
      if x.cut = .cut then x
      else
        { x with residue := entryResidue i ((s.entry new).lanes[i]) (s.valueLeft sh old i) (s.laneAc sh new i) } }
    tick := { s.tick with residueSet := BitVec.allOnes 12 } }

/-! ## The cut state at a tick (R80, R111, R112) -/

/-- A re-energising request of the lane names this tick: it was made at an earlier microsecond (R112). -/
def SynthLane.reenergiseDue (x : SynthLane) (now : Clock) : Bool :=
  match x.reenergise with
  | some c => c != now
  | none => false

/-- A lane re-energised (R76, R80, R112): a CUT lane becomes LIVE with its residue set as at an entry from value 0, and a
CUTTING lane becomes LIVE as it stands. The residue is computed when the request is acted on in the tick. DESIGN CHOICE
(notes/assumptions/46.md). -/
def SynthLane.live (x : SynthLane) (i : Fin 12) (set : LaneSetting) (ac : Int) : SynthLane :=
  match x.cut with
  | .cut => { x with cut := .live, reenergise := none, residue := entryResidue i set 0 ac }
  | _ => { x with cut := .live, reenergise := none }

/-- Lane `i` with a due re-energising request acted on; the tick counts as an entry for the residue of a lane that was CUT
(R76, R112). -/
def State.reenergiseLane (s : State) (sh : Shot) (run : Run) (i : Fin 12) : State :=
  let x := s.synth.lanes[i]
  let t := s.setLane i (x.live i ((s.entry run.inForce).lanes[i]) (s.laneAc sh run.inForce i))
  if x.cut = .cut then { t with tick := { t.tick with residueSet := including t.tick.residueSet i } } else t

/-- The residue lane `i` has at this tick: decayed unless the tick set it as a visit entry, and 0 while CUT (R75, R76). -/
def State.laneResidue (s : State) (run : Run) (i : Fin 12) : Int :=
  let x := s.synth.lanes[i]
  if x.cut = .cut then 0
  else if has s.tick.residueSet i then x.residue
  else decayed ((s.entry run.inForce).lanes[i]) x.residue

/-- The value v of lane `i` at this tick in RUNNING (R77). -/
def State.laneValue (s : State) (sh : Shot) (run : Run) (i : Fin 12) : Int :=
  if (s.synth.lanes[i]).cut = .cut ∨ s.sup.inhibit then 0
  else s.laneAc sh run.inForce i + roundDiv (s.laneResidue run i) 65536

/-- A value touches or crosses zero: it is 0, or it and the previous value are nonzero with opposite signs (R111). -/
def crossesZero (prev v : Int) : Bool := v = 0 || (0 < prev && v < 0) || (prev < 0 && 0 < v)

/-- The cut of a CUTTING lane takes effect at this tick by its value (R111). -/
def State.cutByValue (s : State) (sh : Shot) (run : Run) (i : Fin 12) : Bool :=
  match (s.synth.lanes[i]).cut with
  | .cutting _ _ => crossesZero (s.synth.lanes[i]).prev (s.laneValue sh run i)
  | _ => false

/-- This tick is the cut-limit-th tested tick of a CUTTING lane, under the limit of the simulator whose request started the
cutting (R111). -/
def State.cutByLimit (s : State) (i : Fin 12) : Bool :=
  match (s.synth.lanes[i]).cut with
  | .cutting k tested => decide ((s.breakers[k]).setting.cutLimit ≤ tested + 1)
  | _ => false

/-- A lane made CUT (R76, R80). -/
def SynthLane.makeCut (x : SynthLane) : SynthLane := { x with cut := .cut, residue := 0 }

/-- A lane tested at a tick at which its cut does not take effect (R111). -/
def SynthLane.tested (x : SynthLane) : SynthLane :=
  match x.cut with
  | .cutting k n => { x with cut := .cutting k (n + 1) }
  | _ => x

/-! ## Value, code and the frame of a tick (R77 to R79) -/

/-- The output code before the clamp (R78). -/
def rawCode (i : Fin 12) (v : Int) : Int := roundDiv (v * 32767) (Config.fullScale i)

/-- The output code of a value (R78). -/
def laneCode (i : Fin 12) (v : Int) : Int := clampInt (-Config.maxCode) Config.maxCode (rawCode i v)

/-- The clamp on the code acts (R78). -/
def clips (i : Fin 12) (v : Int) : Bool := decide (Config.maxCode < rawCode i v) || decide (rawCode i v < -Config.maxCode)

/-- The commanded value: the value the code stands for (R78). -/
def commandedValue (i : Fin 12) (v : Int) : Int :=
  if Config.maxCode < rawCode i v then Config.fullScale i
  else if rawCode i v < -Config.maxCode then -Config.fullScale i
  else v

/-- What a lane gives at a tick: its items after the tick, and what it hands on (R79). -/
structure LaneTick where
  lane : SynthLane
  code : Int
  commanded : Int
  heatIn : Nat
  clip : Bool
  deriving DecidableEq, Repr

/-- Lane `i` at a tick in RUNNING, once any re-energising request has been acted on (R68, R77, R78, R79, R111): the cut test,
the value and code, the previous value and the advance of the accumulator. -/
def State.laneTick (s : State) (sh : Shot) (run : Run) (i : Fin 12) : LaneTick :=
  let x := s.synth.lanes[i]
  let cut := s.cutByValue sh run i || s.cutByLimit i
  let v := if cut then 0 else s.laneValue sh run i
  let y := if cut then x.makeCut else { x.tested with residue := s.laneResidue run i }
  { lane := { y with prev := v, accum := x.accum + phaseIncrement ((s.entry run.inForce).lanes[i]).freq },
    code := laneCode i v, commanded := commandedValue i v, clip := clips i v,
    heatIn := if y.cut = .cut ∨ s.sup.inhibit then 0 else (s.laneRms sh run.inForce i).toNat }

/-- Every lane with a due re-energising request acted on (R112). -/
def State.reenergiseDue (s : State) (sh : Shot) (run : Run) : State :=
  (List.finRange 12).foldl
    (fun s i => if (s.synth.lanes[i]).reenergiseDue s.now then s.reenergiseLane sh run i else s) s

/-- The frame of a tick at which the engine is RUNNING (R68, R79), with the clipping lanes added to the current visit's clip
lane mask (R78). -/
def State.playLanes (s : State) (sh : Shot) (run : Run) : State :=
  let s := s.reenergiseDue sh run
  let out := Vector.ofFn fun i => s.laneTick sh run i
  let t : State :=
    { s with synth := { lanes := Vector.ofFn fun i => out[i].lane, codes := Vector.ofFn fun i => out[i].code,
                        commanded := Vector.ofFn fun i => out[i].commanded,
                        heatIn := Vector.ofFn fun i => out[currentLane i].heatIn } }
  t.onReport sh.slot fun r => r.onVisit run.visit fun v => { v with clip := v.clip ||| setOf fun i => out[i].clip }

/-- The frame of a tick outside RUNNING: every code, commanded value and heat input is 0, and no lane item changes (R68,
R79). -/
def State.restLanes (s : State) : State :=
  { s with synth := { s.synth with codes := Vector.replicate 12 0, commanded := Vector.replicate 12 0,
                                   heatIn := Vector.replicate 6 0 } }

/-- The Synthesizer's work at a tick (R68, R79). -/
def State.synthesise (s : State) : State :=
  match s.engine with
  | .running sh run => s.playLanes sh run
  | _ => s.restLanes

end Sys2Proof.Machine
end

