-- ==== Sys2Proof/Machine/SupervisionUnit.lean ====
section
/-! DEFINITION. The Output Supervision Unit (chapter 7): the readback comparison, deviation faults, heat accounts and the
ends they request, and the changes of a lane's condition. -/

namespace Sys2Proof.Machine

/-- Supervision lane `i` replaced. -/
def State.setSup (s : State) (i : Fin 12) (x : SupLane) : State :=
  { s with sup := { s.sup with lanes := s.sup.lanes.set i x } }

/-- The supervised lanes of the granted shot: the lanes of its lane-use mask whose supervision is enabled (R122). -/
def State.supervised (s : State) (i : Fin 12) : Bool :=
  match s.engine.shot? with
  | none => false
  | some sh => has sh.req.laneUse i && (s.sup.lanes[i]).settings.enabled

/-- The present tick is a compared tick: its previous tick was a tick of the shot in RUNNING (R122). -/
def State.comparedTick (s : State) : Bool := s.tick.previous.isSome

/-- Lane `i` is still to be compared at this tick (R122). -/
def State.toCompare (s : State) (i : Fin 12) : Bool :=
  s.comparedTick && s.supervised i && !has s.tick.compared i

/-- The tick is a match on lane `i`: it has a frame, and the difference from the commanded value of the previous tick is
within the deviation limit (R122). -/
def State.matches (s : State) (i : Fin 12) : Bool :=
  match s.tick.frame with
  | none => false
  | some f => decide ((f[i] - s.synth.commanded[i]).natAbs ≤ (s.sup.lanes[i]).settings.deviation)

/-- The miss run of lane `i` after this tick's comparison (R122). -/
def State.missRunNext (s : State) (i : Fin 12) : Nat :=
  if s.matches i then 0 else saturateSucc Config.maxCount (s.sup.lanes[i]).missRun

/-- The miss run of lane `i` rises to its miss limit at this tick: a deviation fault (R123). -/
def State.deviates (s : State) (i : Fin 12) : Bool :=
  s.toCompare i && decide ((s.sup.lanes[i]).missRun < s.missRunNext i) &&
    s.missRunNext i == (s.sup.lanes[i]).settings.missLimit

/-- A lane's condition after a deviation fault (R118). -/
def Condition.onDeviation : Condition → Condition
  | .ready => .deviation
  | c => c

/-- A lane's condition after DECLARE_LANE_FAULT (R118). -/
def Condition.onDeclare : Condition → Condition
  | _ => .declared

/-- A lane's condition set, with the LANE_FAULT notice when the lane becomes FAULTED or changes cause (R118). -/
def State.setCondition (s : State) (i : Fin 12) (c : Condition) : State :=
  let t := s.setSup i { s.sup.lanes[i] with condition := c }
  if c ≠ .ready ∧ (s.sup.lanes[i]).condition ≠ c then t.raiseLaneFault else t

/-- Lane `i` compared at this tick (R122), its condition changed when its miss run rises to the limit (R123). -/
def State.compareLane (s : State) (i : Fin 12) : State :=
  if s.toCompare i then
    let t := s.setSup i { s.sup.lanes[i] with missRun := s.missRunNext i }
    let t : State := { t with tick := { t.tick with compared := including t.tick.compared i } }
    if s.deviates i then t.setCondition i (t.sup.lanes[i]).condition.onDeviation else t
  else s

/-- Every lane compared at this tick, and the tick's comparison done (R122). -/
def State.compareLanes (s : State) : State :=
  let t := (List.finRange 12).foldl State.compareLane s
  { t with tick := { t.tick with compared := BitVec.allOnes 12 } }

/-- The lowest-numbered lane with a deviation fault at this tick (R123). -/
def State.deviating (s : State) : Option (Fin 12) := lowest s.deviates

/-- The comparison at a tick that goes on, with the end it requests (R123). -/
def State.compareAll (s : State) : State :=
  match s.deviating with
  | some i => s.compareLanes.requestEnd (.deviation i)
  | none => s.compareLanes

/-- A heat account updated with a heat input and a continuous rating (R124). -/
def heatNext (account input rating : Nat) : Nat :=
  if rating < input then account + (input * input - rating * rating) else account - (rating * rating - input * input)

/-- The heat account of current lane `i` after this tick's update (R124). -/
def State.heatAfter (s : State) (i : Fin 6) : Nat :=
  heatNext s.sup.heat[i] s.synth.heatIn[i] (s.sup.lanes[currentLane i]).settings.rating

/-- Every heat account updated with the heat input of the previous tick (R124). -/
def State.heatAccounts (s : State) : State :=
  { s with
    sup := { s.sup with heat := Vector.ofFn s.heatAfter }
    tick := { s.tick with heat := true } }

/-- The heat limit L of a lane in mA² × ticks (R125). -/
def SupSettings.limit (x : SupSettings) : Nat := x.heatLimit * Config.heatUnit

/-- The lowest-numbered current lane of the running shot's lane-use mask whose account stands at or above its limit (R125). -/
def State.overheated (s : State) : Option (Fin 6) :=
  match s.engine with
  | .running sh _ => lowest fun i =>
      has sh.req.laneUse (currentLane i) && decide ((s.sup.lanes[currentLane i]).settings.limit ≤ s.sup.heat[i])
  | _ => none

/-- The heat update at a tick that goes on, with the end it requests (R124, R125). -/
def State.heatAll (s : State) : State :=
  if s.tick.heat then s
  else match s.heatAccounts.overheated with
    | some i => s.heatAccounts.requestEnd (.heat (currentLane i))
    | none => s.heatAccounts

/-- The comparison and the heat update of a tick at which the shot is already ending: its end reason stands (R122, R123,
R125). -/
def State.superviseEnd (s : State) : State :=
  if s.tick.heat then s.compareLanes else s.compareLanes.heatAccounts

end Sys2Proof.Machine
end

