-- ==== Sys2Proof/Machine/TickEngine.lean ====
section
/-! DEFINITION. The Shot Engine at a sample tick (chapter 3): the tick's opening, what the engine does at it, the start of a
shot, the entry of a state, and the tick as a whole. -/

namespace Sys2Proof.Machine

/-! ## The opening of a tick -/

/-- The first work of a tick: its frame is the complete frame received since the previous tick (R121), and the sample record
of the previous tick is written (R155, R156). -/
def State.openTick (s : State) : State :=
  if s.tick.opened then s
  else
    let t : State := { s with tick := { s.tick with opened := true, frame := s.sup.frameIn },
                              sup := { s.sup with frameIn := none } }
    t.writeCapture

/-- The moves of simulator `k` due at this microsecond completed: a move that its completion begins with a time of 0 is due at
the same microsecond (R106 step 5), and the latches let no third follow (R103). -/
def State.completeBoth (s : State) (k : Fin 4) : State := (s.completeMove k).completeMove k

/-- The moves due at this microsecond completed, so that the tick finds the new positions (R107). -/
def State.completeMoves (s : State) : State := (List.finRange 4).foldl State.completeBoth s

/-- An end is pending (R58). -/
def State.endPending (s : State) : Bool :=
  match s.engine with
  | .running _ run => run.pendingEnd.isSome
  | _ => false

/-! ## Exits and deferrals (R51, R52, R55, R56) -/

/-- An input stands at its active level in the accepted levels (R52). -/
def State.inputActive (s : State) (i : Fin 16) : Bool := (s.contacts[i]).operated

/-- A simulator stands at a named position (R52). -/
def Position.is (p : Position) (l : Level) : Bool :=
  match l with
  | .closed => p == .closed
  | .opened => p == .opened

/-- The condition of an exit holds at this tick (R52). -/
def State.exitHolds (s : State) (run : Run) (slot : Nat) (k : ExitKind) : Bool :=
  match k with
  | .time limit => decide (limit ≤ s.since run.startTime run.entry)
  | .inputLevel mask all =>
    if all then (members mask).all s.inputActive else (members mask).any s.inputActive
  | .inputEdge _ => run.edges.getLsbD slot
  | .trigger => run.trigLatch
  | .panelStep => run.stepLatch
  | .breaker k position => (s.breakers[k]).position.is position

/-- The exits of a list from slot `n` on, searched for the first whose condition holds (R51). -/
def State.firstExit (s : State) (run : Run) : Nat → List Exit → Option (Nat × Exit)
  | _, [] => none
  | n, e :: es => if s.exitHolds run n e.kind then some (n, e) else s.firstExit run (n + 1) es

/-- The exit taken at this tick (R51). -/
def State.taken (s : State) (run : Run) : Option (Nat × Exit) := s.firstExit run 0 (s.entry run.inForce).exits

/-- The reference lane has reached the point on the wave of the target state, in the outgoing state's settings (R56); a state
without a point-on-wave entry, or a reference lane of frequency 0, needs no wait (R55, R56). -/
def State.reached (s : State) (run : Run) (target : Fin 64) : Bool :=
  match (s.entry target).pow with
  | none => true
  | some p =>
    let x := (s.entry run.inForce).lanes[p.lane]
    let present := (s.synth.lanes[p.lane]).accum + angleOffset x.angle
    phaseIncrement x.freq == 0 || decide (present - angleOffset p.angle < phaseIncrement x.freq)

/-! ## What the engine does at a tick -/

/-- What the engine does at a tick: nothing outside a shot, the start of the shot, its end, the entry of a state, the start of
a deferral, or playing on. -/
inductive Action where
  | rest
  | start (sh : Shot)
  | finish (sh : Shot) (run : Run) (r : EndReason) (cause : ExitCause)
  | enter (sh : Shot) (run : Run) (target : Fin 64) (cause : ExitCause) (deferral : Nat)
  | defer (sh : Shot) (run : Run) (d : Deferral)
  | stay
  deriving DecidableEq, Repr

/-- What an exit taken at this tick leads to (R55, R56). -/
def State.follow (s : State) (sh : Shot) (run : Run) (slot : Nat) (e : Exit) : Action :=
  match e.target with
  | .finish => .finish sh run .completed (.exit slot e.kind)
  | .state t =>
    if Config.maxVisits ≤ run.visit + 1 then .finish sh run .visitLimit (.finish .visitLimit)
    else if s.reached run t then .enter sh run t (.exit slot e.kind) 0
    else .defer sh run { target := t, slot := slot, kind := e.kind, offset := s.offset run.startTime }

/-- What the engine does at this tick, made ready (R45, R51, R55, R56, R58). -/
def State.action (s : State) : Action :=
  match s.engine with
  | .armed sh (some c) => if c = s.now then .rest else .start sh
  | .running sh run =>
    match run.pendingEnd with
    | some r => .finish sh run r (.finish r)
    | none =>
      match run.deferral with
      | some d =>
        if s.reached run d.target then
          .enter sh run d.target (.exit d.slot d.kind) (s.since run.startTime d.offset)
        else .stay
      | none =>
        match s.taken run with
        | none => .stay
        | some (slot, e) => s.follow sh run slot e
  | _ => .rest

/-- The end an action brings, with the exit cause it gives the last visit. -/
def Action.ending : Action → Option (EndReason × ExitCause)
  | .finish _ _ r cause => some (r, cause)
  | _ => none

/-- The tick made ready for the engine's work. A move due at the end tick has not run out when the end is taken first, and is then
discarded (R114, R115); the end must then be the one that the positions of this microsecond give (R107). -/
def State.prepare (s : State) : State :=
  if s.openTick.action.ending.isSome ∧ s.openTick.action.ending = s.openTick.completeMoves.action.ending then s.openTick
  else s.openTick.completeMoves

/-! ## Visits and the start of a shot (R48, R49) -/

/-- A new visit record (R49). -/
def Visit.opened (number : Nat) (state : Fin 64) (label entry : Nat) : Visit :=
  { number := number, state := state, label := label, entry := entry, exit := none, cause := none, deferral := 0,
    clip := 0, adjust := none, inputs := [], breakers := [], truncated := false, closeAt := none }

/-- A visit record opened in the shot's report, and the Capture Memory told of the entry (R49, R157). -/
def State.openVisit (s : State) (sh : Shot) (number : Nat) (state : Fin 64) (entry : Nat) : State :=
  let t := s.onReport sh.slot fun r =>
    { r.onHeader fun h => { h with visitCount := h.visitCount + 1 } with
      visits := r.visits ++ [.opened number state (s.entry state).label entry] }
  t.onHalf sh.half fun h => if (s.entry state).captureMark then h.noteTrigger entry else h

/-- A state entered from the state in force at this tick (R49, R74): every exit latch is cleared. The residues of the entry are set here,
in the engine's stage of the tick, from the adjust steps, the INHIBIT state and the cut states found here: an ADJUST or an INHIBIT edge
commanded between this stage and the value that SAMPLE_TICK gives the tick changes that value and not the residue. DESIGN CHOICE
(notes/assumptions/46.md). -/
def State.enterState (s : State) (sh : Shot) (run : Run) (target : Fin 64) : State :=
  let offset := s.offset run.startTime
  let t := s.setResidues sh (some run.inForce) target
  let run' : Run := { run with visit := run.visit + 1, inForce := target, entry := offset, trigLatch := false,
                               stepLatch := false, edges := 0, deferral := none }
  let t : State := { t with engine := .running sh run' }
  t.openVisit sh (run.visit + 1) target offset

/-- A lane as the start tick of a shot leaves it (R67). -/
def SynthLane.start (cut : Bool) : SynthLane :=
  { accum := 0, residue := 0, adjust := 0, cut := if cut then .cut else .live, prev := 0, reenergise := none }

/-- The blocks that read the profile at the start tick (R48 steps 2 to 4, R67, R86, R101, R122). The profile's settings govern
this microsecond's sample (R87), so an episode that has ended at it under the old ones is in progress again and is judged anew.
DEDUCED (notes/assumptions/38.md). -/
def State.loadProfile (s : State) (sh : Shot) : State :=
  let p := s.profile sh.req.profile
  let t : State := { s with
    breakers := Vector.ofFn fun k => Simulator.start p.breakers[k],
    contacts := Vector.ofFn fun i => (s.unjudged i).start p.inputs[i],
    sup := { s.sup with lanes := Vector.ofFn fun i => { s.sup.lanes[i] with missRun := 0 } },
    tick := { s.tick with previous := none, events := [], ended := [], moves := .none } }
  let held (i : Fin 12) : Bool := (List.finRange 4).any fun k => (t.breakers[k]).holds i
  { t with synth := { t.synth with lanes := Vector.ofFn fun i => .start (held i) } }

/-- The running record of a shot that starts at `now` in state `start`, with visit 0 open (R48). -/
def Run.begin (now : Clock) (start : Fin 64) : Run :=
  { startTime := now, visit := 0, inForce := start, entry := 0, trigLatch := false, stepLatch := false, edges := 0,
    deferral := none, pendingEnd := none, fresh := [] }

/-- The start of a shot at its start tick (R48). The residues of the entry of visit 0 are set in the engine's stage of the tick, as in
`State.enterState`. DESIGN CHOICE (notes/assumptions/46.md). -/
def State.startShot (s : State) (sh : Shot) : State :=
  let t := s.onReport sh.slot fun r => r.onHeader fun h =>
    { h with startTime := some s.now, quality := some s.clock.quality }
  let t := (t.loadProfile sh).onHalf sh.half Half.begin
  let t : State := { t with engine := .running sh (.begin s.now sh.req.start) }
  (t.setResidues sh none sh.req.start).openVisit sh 0 sh.req.start 0

/-! ## The engine's work at a tick -/

/-- What the engine does, done. -/
def State.perform (s : State) : Action → State
  | .rest => s
  | .start sh => s.startShot sh
  | .finish sh run r cause => (s.superviseEnd.endRunning sh run r cause).grantMoment
  | .enter sh run target cause deferral => (s.leaveVisit sh run cause deferral).enterState sh run target
  | .defer sh run d => { s with engine := .running sh { run with deferral := some d } }
  | .stay => s

/-- The breaker elements that waited for this tick written into the visit now open (R113). -/
def State.flushElems (s : State) : State :=
  match s.engine with
  | .running sh run =>
    { s.flushInto sh run with engine := .running sh { run with fresh := [] } }
  | _ => s

/-- What follows the engine's work at a tick: the elements and events that waited for it are written. -/
def State.settleTick (s : State) : State :=
  let t := s.flushElems.fileWaiting
  { t with tick := { t.tick with engine := true } }

/-- The engine's work at this microsecond's tick, done once (R51, R55 to R58). A move that an event has begun since then, and that is
due at this microsecond too, completes, so that the rest of the tick finds its new position (R107). -/
def State.engineWork (s : State) : State :=
  if s.engineDue then (s.prepare.perform s.prepare.action).settleTick
  else if s.tickDue then s.completeMoves
  else s

/-- What the engine will do at this microsecond's tick, nothing when its work is not to come. -/
def State.dueAction (s : State) : Action := if s.engineDue then s.prepare.action else .rest

/-! ## The tick as a whole (R68, R79, R155) -/

/-- The levels at a tick in RUNNING that the next tick's sample record shows (R155). -/
def State.levels (s : State) : Option TickLevels :=
  match s.engine with
  | .running _ run =>
    some { offset := s.offset run.startTime, inputs := s.acceptedLevels, outputs := s.outputs }
  | _ => none

/-- The tick finished: the Synthesizer's frame goes out and the levels are kept for the sample record (R79, R155). -/
def State.closeTick (s : State) : State :=
  let t := s.synthesise
  { t with tick := { t.tick with synth := true, previous := t.levels } }

/-- The whole of this microsecond's tick, whatever of it has been done already: the engine, the comparison, the heat accounts,
the Synthesizer, and a grant that the tick makes possible (R31, R51, R68, R122, R124, R126). -/
def State.runTick (s : State) : State :=
  if s.tickDue then s.engineWork.compareAll.heatAll.closeTick.grantMoment else s

end Sys2Proof.Machine
end

