-- ==== Sys2Proof/Machine/LinkRequests.lean ====
section
/-! DEFINITION. The requests the Link Unit owns (R177): NOP, PEEK_NOTICES, TAKE_NOTICES, CLEAR_FAULT and LINK_RESET. -/

namespace Sys2Proof.Machine

/-- NOP (R175): OK with an empty body. -/
def execNop (l : Link) (tag : Byte) (s : State) : Host.Outcome State Fault Refusal :=
  .next (respond l .nop tag s (.ok (s, .empty)))

/-- The notices of a link as a reply carries them (R179). -/
def State.noticeBody (s : State) (l : Link) : ReplyBody :=
  .notices (s.link l).notices (s.reportReady l) (s.link l).fault

/-- PEEK_NOTICES (R179): the flags, the REPORT_READY condition and the fault record. -/
def execPeekNotices (l : Link) (tag : Byte) (s : State) : Host.Outcome State Fault Refusal :=
  .next (respond l .peekNotices tag s (.ok (s, s.noticeBody l)))

/-- The four flags TAKE_NOTICES clears; LINK_FAULT stays (R179). -/
def Notices.take (n : Notices) : Notices := { Notices.clear with linkFault := n.linkFault }

/-- The notices of a link taken (R179). -/
def State.takeNotices (s : State) (l : Link) : State :=
  s.setLink l { s.link l with notices := (s.link l).notices.take }

/-- TAKE_NOTICES (R179): as PEEK_NOTICES, and then four flags are cleared. -/
def execTakeNotices (l : Link) (tag : Byte) (s : State) : Host.Outcome State Fault Refusal :=
  .next (respond l .takeNotices tag s (.ok (s.takeNotices l, s.noticeBody l)))

/-- The fault record of a link emptied and its LINK_FAULT flag cleared (R178). -/
def State.clearFault (s : State) (l : Link) : State :=
  s.setLink l { s.link l with fault := none, notices := { (s.link l).notices with linkFault := false } }

/-- CLEAR_FAULT (R178): the record as it stood before is returned. -/
def execClearFault (l : Link) (tag : Byte) (s : State) : Host.Outcome State Fault Refusal :=
  .next (respond l .clearFault tag s (.ok (s.clearFault l, .fault (s.link l).fault)))

/-! ## LINK_RESET (R181) -/

/-- The link's own items returned to their defaults (R181 steps 2 and 3, R36); subscription and threshold are kept. -/
def LinkState.linkReset (l : Link) (x : LinkState) : LinkState :=
  { x with reply := none, notices := .clear, fault := none, priority := defaultPriority l }

/-- The records the link holds freed or orphaned (R18). -/
def State.resetRecords (s : State) (l : Link) : State := { s with tables := s.tables.linkReset l }

/-- A granted shot of the link that is ARMED for GO with its start latch clear ended with LINK_RESET (R62). -/
def State.endGoWait (s : State) (l : Link) : State :=
  match s.engine with
  | .armed sh none => if sh.req.link = l ∧ sh.req.condition = .go then s.requestEnd .linkReset else s
  | _ => s

/-- The override latch cleared; when it was set and INHIBIT is asserted the granted shot is judged (R128, R130, R131). -/
def State.clearOverride (s : State) : State :=
  let t : State := { s with sup := { s.sup with override := false } }
  if s.sup.override then t.judgeInhibit else t

/-- The effects of a link reset of `l`, in the order of R181. -/
def State.linkReset (s : State) (l : Link) : State :=
  let t := s.setLink l ((s.link l).linkReset l)
  let t := ((t.removeQueuedOf l).resetRecords l).endGoWait l
  match l with
  | .supervision => t.clearOverride
  | _ => t

/-- LINK_RESET (R181). -/
def execLinkReset (l : Link) (tag : Byte) (s : State) : Host.Outcome State Fault Refusal :=
  .next (respond l .linkReset tag s (.ok (s.linkReset l, .empty)))

end Sys2Proof.Machine
end

