-- ==== Sys2Proof/Machine/TableRequests.lean ====
section
/-! DEFINITION. The requests on the Programme Tables (chapter 1). -/

namespace Sys2Proof.Machine

/-- The ownership check of a LOAD (R12 stage 3). -/
def Rec.loadDenial {α : Type} (l : Link) : Rec α → Option Denial
  | .free => none
  | .loaded h n _ => if h = some l then (if n = 0 then none else some .locked) else some .held

/-- The ownership check of a FREE (R14). -/
def Rec.freeDenial {α : Type} (l : Link) (index : Nat) : Rec α → Option Denial
  | .free => some (.notLoaded index)
  | .loaded h n _ => if h = some l then (if n = 0 then none else some .locked) else some .held

/-- Whether a LOAD_STATE is taken, and its effect (R12, R13); a body shorter than 10 bytes fails check 7 of R176. -/
def loadState (l : Link) (body : List Byte) (s : State) : Except Denial (State × ReplyBody) :=
  if body.length < lanesAt then .error (.badField { part := .bodyLength, field := 0 })
  else if l = .supervision then .error .notPermitted
  else match index? 64 (field body 0 1) with
    | none => .error (.badField { part := .stateIndex, field := 0 })
    | some i =>
      match (s.tables.states[i]).loadDenial l with
      | some d => .error d
      | none =>
        match stateBad body with
        | some r => .error (.badField r)
        | none => .ok (s.setEntry i (.loaded (some l) 0 (readState body)), .loaded i.val l 0)

/-- LOAD_STATE (R12). -/
def execLoadState (l : Link) (tag : Byte) (body : List Byte) (s : State) : Host.Outcome State Fault Refusal :=
  .next (respond l .loadState tag s (loadState l body s))

/-- Whether a LOAD_PROFILE is taken, and its effect (R12); a body that is not 161 bytes long fails check 7 of R176. -/
def loadProfile (l : Link) (body : List Byte) (s : State) : Except Denial (State × ReplyBody) :=
  if body.length ≠ 161 then .error (.badField { part := .bodyLength, field := 0 })
  else if l = .supervision then .error .notPermitted
  else match index? 4 (field body 0 1) with
    | none => .error (.badField { part := .profileIndex, field := 0 })
    | some i =>
      match (s.tables.profiles[i]).loadDenial l with
      | some d => .error d
      | none =>
        match profileBad body with
        | some r => .error (.badField r)
        | none => .ok (s.setProfile i (.loaded (some l) 0 (readProfile body)), .loaded i.val l 0)

/-- LOAD_PROFILE (R12). -/
def execLoadProfile (l : Link) (tag : Byte) (body : List Byte) (s : State) : Host.Outcome State Fault Refusal :=
  .next (respond l .loadProfile tag s (loadProfile l body s))

/-- Whether a FREE_STATE is taken, and its effect (R14). -/
def freeState (l : Link) (index : Byte) (s : State) : Except Denial (State × ReplyBody) :=
  if l = .supervision then .error .notPermitted
  else match index? 64 index.toNat with
    | none => .error (badRequest 0)
    | some i =>
      match (s.tables.states[i]).freeDenial l i.val with
      | some d => .error d
      | none => .ok (s.setEntry i .free, .index i.val)

/-- FREE_STATE (R14). -/
def execFreeState (l : Link) (tag : Byte) (index : Byte) (s : State) : Host.Outcome State Fault Refusal :=
  .next (respond l .freeState tag s (freeState l index s))

/-- Whether a FREE_PROFILE is taken, and its effect (R14). -/
def freeProfile (l : Link) (index : Byte) (s : State) : Except Denial (State × ReplyBody) :=
  if l = .supervision then .error .notPermitted
  else match index? 4 index.toNat with
    | none => .error (badRequest 0)
    | some i =>
      match (s.tables.profiles[i]).freeDenial l i.val with
      | some d => .error d
      | none => .ok (s.setProfile i .free, .index i.val)

/-- FREE_PROFILE (R14). -/
def execFreeProfile (l : Link) (tag : Byte) (index : Byte) (s : State) : Host.Outcome State Fault Refusal :=
  .next (respond l .freeProfile tag s (freeProfile l index s))

/-- Whether a READ_STATE is taken, and its reply (R15). -/
def readStateRecord (index : Byte) (s : State) : Except Denial (State × ReplyBody) :=
  match index? 64 index.toNat with
  | none => .error (badRequest 0)
  | some i => .ok (s, .stateRecord i s.tables.states[i])

/-- READ_STATE (R15). -/
def execReadState (l : Link) (tag : Byte) (index : Byte) (s : State) : Host.Outcome State Fault Refusal :=
  .next (respond l .readState tag s (readStateRecord index s))

/-- Whether a READ_PROFILE is taken, and its reply (R15). -/
def readProfileRecord (index : Byte) (s : State) : Except Denial (State × ReplyBody) :=
  match index? 4 index.toNat with
  | none => .error (badRequest 0)
  | some i => .ok (s, .profileRecord i s.tables.profiles[i])

/-- READ_PROFILE (R15). -/
def execReadProfile (l : Link) (tag : Byte) (index : Byte) (s : State) : Host.Outcome State Fault Refusal :=
  .next (respond l .readProfile tag s (readProfileRecord index s))

/-- The 68 rows of a TABLE_STATUS reply (R16). -/
def State.tableRows (s : State) : List TableRow :=
  (s.tables.states.toList.map fun r => r.row (some r.entry.label)) ++ (s.tables.profiles.toList.map fun r => r.row none)

/-- TABLE_STATUS (R16). -/
def execTableStatus (l : Link) (tag : Byte) (s : State) : Host.Outcome State Fault Refusal :=
  .next (respond l .tableStatus tag s (.ok (s, .tableStatus s.tableRows)))

end Sys2Proof.Machine
end

