-- ==== Sys2Proof/Machine/QueueRequests.lean ====
section
/-! DEFINITION. SUBMIT_SHOT, ABORT, SET_LINK_PRIORITY, QUEUE_STATUS and the grant (chapter 2, R61). -/

namespace Sys2Proof.Machine

/-! ## The submit checks (R23 to R27) -/

/-- The states an entry's exits target, slot 0 first (R24). A FREE entry has no exits. -/
def State.targets (s : State) (i : Fin 64) : List (Fin 64) :=
  (s.entry i).exits.filterMap fun e =>
    match e.target with
    | .state t => some t
    | .finish => none

/-- The reachability walk from a list of entries still to be looked at (R24). -/
def State.walk (s : State) : Nat → List (Fin 64) → StateSet → StateSet
  | 0, _, seen => seen
  | _, [], seen => seen
  | fuel + 1, i :: rest, seen =>
    if has seen i then s.walk fuel rest seen else s.walk fuel (s.targets i ++ rest) (including seen i)

/-- Enough turns for any walk: one for the start state and one for each exit in the table. -/
def State.walkFuel (s : State) : Nat := 1 + ((List.finRange 64).map fun i => (s.targets i).length).sum

/-- The reachable set from a start state (R24). -/
def State.reachable (s : State) (start : Fin 64) : StateSet := s.walk s.walkFuel [start] 0

/-- The ownership check of a record at a submit, naming its index (R23 stages 4 and 5). -/
def Rec.submitDenial {α : Type} (l : Link) (index : Nat) : Rec α → Option Denial
  | .free => some (.notLoaded index)
  | .loaded h _ _ => if h = some l then none else some (.notHolder index)

/-- An exit passes stage 6: every input and simulator it names is enabled in the profile (R25). -/
def Exit.passes (e : Exit) (p : Profile) : Bool :=
  match e.kind with
  | .inputLevel mask _ => (members mask).all fun i => p.inputs[i].enabled
  | .inputEdge mask => (members mask).all fun i => p.inputs[i].enabled
  | .breaker k _ => p.breakers[k].enabled
  | _ => true

/-- An assessment passes stage 6 (R25). -/
def Assessment.passesProfile (a : Assessment) (p : Profile) : Bool :=
  match a.kind with
  | .operate i => p.inputs[i].enabled
  | .reset i => p.inputs[i].enabled
  | .noOperate i => p.inputs[i].enabled
  | .breakerOpen k => p.breakers[k].enabled
  | .breakerClose k => p.breakers[k].enabled

/-- The slot of the first element of a list that fails a check. -/
def firstFailing {α : Type} (ok : α → Bool) : List α → Option Nat
  | [] => none
  | x :: xs => if ok x then (firstFailing ok xs).map (· + 1) else some 0

/-- The first record of an entry that conflicts with a profile (R25). -/
def StateEntry.conflict (e : StateEntry) (i : Fin 64) (p : Profile) : Option Denial :=
  match firstFailing (fun x : Exit => x.passes p) e.exits with
  | some n => some (.conflict i .exits n)
  | none => (firstFailing (fun x : Assessment => x.passesProfile p) e.assessments).map fun n => .conflict i .assessments n

/-- The lane-use mask of a request (R27). -/
def State.laneUse (s : State) (reach : StateSet) (p : Profile) (adjust : Bool) : LaneSet :=
  setOf fun i => (members reach).any (fun n => (s.entry n).lanes[i].rms != 0) || (adjust && p.steps[i] != 0)

/-- The fields of a SUBMIT_SHOT as it carries them. -/
structure Submit where
  start : Byte
  profile : Byte
  condition : Byte
  mode : Byte
  adjust : Byte
  capture : Byte
  trigMask : Half16
  preCount : Half16
  capLanes : Half16
  deriving DecidableEq, Repr

/-- The field stage 2 of R23 names, by its position in the body; the capture fields are checked with capture enabled. -/
def Submit.bad (x : Submit) : Option Nat :=
  firstBad [failsAt 0 (64 ≤ x.start.toNat), failsAt 1 (4 ≤ x.profile.toNat),
            failsAt 2 (startCondition? x.condition.toNat).isNone, failsAt 3 (reportMode? x.mode.toNat).isNone,
            failsAt 7 (yes x.capture && decide (Config.maxPreTrigger < x.preCount.toNat)),
            failsAt 8 (yes x.capture && decide (4096 ≤ x.capLanes.toNat))]

/-- The request a SUBMIT_SHOT that passes stage 2 stands for, its ticket and derived fields still to come; the capture
settings of a request without capture are stored as zero (R21). -/
def Submit.request (x : Submit) (l : Link) : Request :=
  { ticket := 0, link := l, start := Fin.ofNat 64 x.start.toNat, profile := Fin.ofNat 4 x.profile.toNat,
    condition := (startCondition? x.condition.toNat).getD .immediate, mode := (reportMode? x.mode.toNat).getD .full,
    adjust := yes x.adjust, capture := yes x.capture,
    trigMask := if yes x.capture then x.trigMask else 0,
    preCount := if yes x.capture then x.preCount.toNat else 0,
    capLanes := if yes x.capture then BitVec.ofNat 12 x.capLanes.toNat else 0,
    reach := 0, laneUse := 0, passed := 0 }

/-- The denial of the first entry of a reachable set that is FREE or not held by the submitter (R23 stage 5, R24). -/
def State.holderDenial (s : State) (l : Link) (reach : StateSet) : Option Denial :=
  (members reach).findSome? fun i => (s.tables.states[i]).submitDenial l i.val

/-- The first conflict of a reachable set with a profile (R23 stage 6, R25). -/
def State.conflictDenial (s : State) (reach : StateSet) (p : Profile) : Option Denial :=
  (members reach).findSome? fun i => (s.entry i).conflict i p

/-- The denial of stages 3 to 7 of R23, for a request that passes stage 2. -/
def State.submitDenial (s : State) (l : Link) (r : Request) : Option Denial :=
  if Config.queueSize ≤ s.queue.requests.length then some .queueFull
  else match (s.tables.profiles[r.profile]).submitDenial l r.profile.val with
    | some d => some d
    | none =>
      match s.holderDenial l (s.reachable r.start) with
      | some d => some d
      | none =>
        match s.conflictDenial (s.reachable r.start) (s.profile r.profile) with
        | some d => some d
        | none => if r.condition = .second ∧ s.clock.quality.lost then some (.noTime s.clock.quality) else none

/-- The request with its ticket and derived fields, as it joins the queue (R21, R22, R24, R27). -/
def State.completeRequest (s : State) (r : Request) : Request :=
  { r with ticket := s.freshTicket, reach := s.reachable r.start,
           laneUse := s.laneUse (s.reachable r.start) (s.profile r.profile) r.adjust }

/-- A request taken (R26): the ticket is issued, the locks are raised and the request joins the tail. -/
def State.enqueue (s : State) (r : Request) : State :=
  { s with tables := s.tables.lockFor r,
           queue := { s.queue with requests := s.queue.requests ++ [r], lastTicket := r.ticket } }

/-- Whether a SUBMIT_SHOT is taken, and its effect (R23, R26); the request's joining is a moment for a grant (R31). -/
def submitShot (l : Link) (x : Submit) (s : State) : Except Denial (State × ReplyBody) :=
  if l = .supervision then .error .notPermitted
  else match x.bad with
    | some n => .error (badRequest n)
    | none =>
      match s.submitDenial l (x.request l) with
      | some d => .error d
      | none =>
        let r := s.completeRequest (x.request l)
        .ok ((s.enqueue r).grantMoment, .submitted r.ticket r.laneUse r.reach)

/-- SUBMIT_SHOT (R23). -/
def execSubmitShot (l : Link) (tag : Byte) (start profile condition mode adjust capture : Byte)
    (trigMask preCount capLanes : Half16) (s : State) : Host.Outcome State Fault Refusal :=
  .next (respond l .submitShot tag s
    (submitShot l { start := start, profile := profile, condition := condition, mode := mode, adjust := adjust,
                    capture := capture, trigMask := trigMask, preCount := preCount, capLanes := capLanes } s))

/-! ## ABORT (R40, R61) -/

/-- The granted shot an ABORT's ticket names: its own ticket, or 0 (R40). -/
def State.abortNames (s : State) (ticket : Nat) : Option Shot :=
  match s.engine.shot? with
  | none => none
  | some sh => if ticket = 0 ∨ ticket = sh.req.ticket then some sh else none

/-- The end reason that stands for a shot after an ABORT from `l` is taken: the one already pending, or the abort's (R61). -/
def State.standingReason (s : State) (l : Link) : EndReason :=
  match s.engine with
  | .running _ run => run.pendingEnd.getD (.abort l)
  | _ => .abort l

/-- The engine is SETTLING. -/
def Engine.isSettling : Engine → Bool
  | .settling _ _ _ => true
  | _ => false

/-- An ABORT of the granted shot (R61). -/
def abortGranted (l : Link) (sh : Shot) (s : State) : Except Denial (State × ReplyBody) :=
  if s.engine.isSettling then .error .noShot
  else if l = .plan ∧ sh.req.link = .panel then .error .notPermitted
  else .ok (s.requestEnd (.abort l), .aborted sh.req.ticket s.engine.name (s.standingReason l))

/-- Whether an ABORT is taken, and its effect (R40, R61). -/
def abort (l : Link) (ticket : Byte) (s : State) : Except Denial (State × ReplyBody) :=
  match s.queue.requests.find? fun r => r.ticket == ticket.toNat with
  | some r =>
    if l = .plan ∧ r.link = .panel then .error .notPermitted
    else .ok (s.removeQueued r, .removed r.ticket)
  | none =>
    match s.abortNames ticket.toNat with
    | some sh => abortGranted l sh s
    | none => .error .noShot

/-- ABORT (R40). -/
def execAbort (l : Link) (tag : Byte) (ticket : Byte) (s : State) : Host.Outcome State Fault Refusal :=
  .next (respond l .abort tag s (abort l ticket s))

/-! ## Link priority and queue status (R37, R38) -/

/-- A priority and max-wait clamped to 0–7 and 0–15 (R37). -/
def clampPriority (priority maxWait : Byte) : Priority :=
  { priority := min priority.toNat 7, maxWait := min maxWait.toNat 15 }

/-- Whether a SET_LINK_PRIORITY is taken, and its effect (R37). -/
def setLinkPriority (l : Link) (priority maxWait : Byte) (s : State) : Except Denial (State × ReplyBody) :=
  if l = .supervision then .error .notPermitted
  else
    .ok (s.setLink l { s.link l with priority := some (clampPriority priority maxWait) },
         .priority (clampPriority priority maxWait) (7 < priority.toNat) (15 < maxWait.toNat))

/-- SET_LINK_PRIORITY (R37). -/
def execSetLinkPriority (l : Link) (tag : Byte) (priority maxWait : Byte) (s : State) :
    Host.Outcome State Fault Refusal :=
  .next (respond l .setLinkPriority tag s (setLinkPriority l priority maxWait s))

/-- One row of a QUEUE_STATUS reply (R38). -/
def State.queueRow (s : State) (r : Request) : QueueRow :=
  { ticket := r.ticket, link := r.link, start := r.start, profile := r.profile, condition := r.condition,
    laneUse := r.laneUse, passed := r.passed, aged := s.aged r, cause := s.cause r }

/-- The engine's occupancy (R38). -/
def State.occupancy (s : State) : Option (Nat × Link × EngineName) :=
  s.engine.shot?.map fun sh => (sh.req.ticket, sh.req.link, s.engine.name)

/-- QUEUE_STATUS (R38). -/
def execQueueStatus (l : Link) (tag : Byte) (s : State) : Host.Outcome State Fault Refusal :=
  .next (respond l .queueStatus tag s
    (.ok (s, .queueStatus s.occupancy (s.link .plan).priority (s.link .panel).priority
      (s.queue.requests.map s.queueRow))))

/-- GRANT (R33): a grant is made when the engine is IDLE and a request is eligible. -/
def execGrant (s : State) : Host.Outcome State Fault Refusal := .next s.grantMoment

end Sys2Proof.Machine
end

