-- ==== Sys2Proof/Machine/EngineRequests.lean ====
section
/-! DEFINITION. GO, STEP and ADJUST (R46, R54, R81, R82). -/

namespace Sys2Proof.Machine

/-- Whether a GO is taken, and its effect (R46). -/
def go (l : Link) (s : State) : Except Denial (State × ReplyBody) :=
  match s.engine with
  | .armed sh none =>
    if sh.req.condition ≠ .go then .error .notArmed
    else if sh.req.link ≠ l then .error .notOwner
    else .ok ({ s with engine := .armed sh (some s.now) }, .started sh.req.ticket sh.serial)
  | _ => .error .notArmed

/-- GO (R46). -/
def execGo (l : Link) (tag : Byte) (s : State) : Host.Outcome State Fault Refusal := .next (respond l .go tag s (go l s))

/-- An exit of kind PANEL_STEP. -/
def Exit.isPanelStep (e : Exit) : Bool := e.kind == .panelStep

/-- Whether a STEP is taken, and its effect (R54). -/
def panelStep (l : Link) (s : State) : Except Denial (State × ReplyBody) :=
  if l ≠ .panel then .error .notPermitted
  else match s.engine with
    | .running sh run =>
      if run.deferral ≠ none ∨ !(s.entry run.inForce).exits.any Exit.isPanelStep then .error .noStepExit
      else .ok ({ s with engine := .running sh { run with stepLatch := true } }, .stepped run.visit run.inForce)
    | _ => .error .noShot

/-- STEP (R54). -/
def execPanelStep (l : Link) (tag : Byte) (s : State) : Host.Outcome State Fault Refusal :=
  .next (respond l .step tag s (panelStep l s))

/-- An adjust step count with a delta added, saturated to −4,095 to +4,095 (R82). -/
def adjustCount (count delta : Int) : Int := clampInt (-Config.maxAdjust) Config.maxAdjust (count + delta)

/-- A taken ADJUST on lane `i` of the running shot: the new count and what the reply carries (R82). -/
def State.adjustLane (s : State) (sh : Shot) (run : Run) (i : Fin 12) (delta : Int) : State × ReplyBody :=
  let x := s.synth.lanes[i]
  let count := adjustCount x.adjust delta
  let sum := magnitudeSum ((s.entry run.inForce).lanes[i]).rms (s.stepSize sh i) count
  (s.setLane i { x with adjust := count },
   .adjusted i count (count ≠ x.adjust + delta) (clampInt 0 (Config.laneMax i) sum).toNat
     (clampInt 0 (Config.laneMax i) sum ≠ sum) run.visit)

/-- Whether an ADJUST is taken, and its effect (R81, R82). -/
def adjust (l : Link) (lane delta : Byte) (s : State) : Except Denial (State × ReplyBody) :=
  if l ≠ .panel then .error .notPermitted
  else match index? 12 lane.toNat with
    | none => .error (badRequest 0)
    | some i =>
      if Config.maxDelta < delta.toInt ∨ delta.toInt < -Config.maxDelta then .error (badRequest 1)
      else match s.engine with
        | .running sh run =>
          if !sh.req.adjust then .error .notPermitted
          else if !has sh.req.laneUse i then .error .notInMask
          else if s.stepSize sh i = 0 then .error .notAdjustable
          else .ok (s.adjustLane sh run i delta.toInt)
        | _ => .error .noShot

/-- ADJUST (R82). -/
def execAdjust (l : Link) (tag : Byte) (lane delta : Byte) (s : State) : Host.Outcome State Fault Refusal :=
  .next (respond l .adjust tag s (adjust l lane delta s))

end Sys2Proof.Machine
end

