-- ==== Sys2Proof/Machine/SupervisionRequests.lean ====
section
/-! DEFINITION. The requests on the Output Supervision Unit (chapter 7). -/

namespace Sys2Proof.Machine

/-- The field of a SET_SUPERVISION that fails first, in the order of R116: the continuous rating and the heat limit of a
voltage lane are not checked. -/
def supervisionBad (i : Fin 12) (missLimit : Byte) (rating heatLimit : Half16) : Option Nat :=
  firstBad [failsAt 3 (missLimit.toNat == 0),
            failsAt 4 (Config.isCurrentLane i && (rating.toNat == 0 || decide (Config.laneMax i < rating.toNat))),
            failsAt 5 (Config.isCurrentLane i &&
              (heatLimit.toNat == 0 || decide (Config.maxHeatLimit < heatLimit.toNat)))]

/-- The settings a SET_SUPERVISION carries for lane `i`; for a voltage lane the rating and the heat limit are stored as 0
(R116). -/
def supervisionSettings (i : Fin 12) (enabled : Byte) (deviation : Half16) (missLimit : Byte)
    (rating heatLimit : Half16) : SupSettings :=
  { enabled := yes enabled, deviation := deviation.toNat, missLimit := missLimit.toNat,
    rating := if Config.isCurrentLane i then rating.toNat else 0,
    heatLimit := if Config.isCurrentLane i then heatLimit.toNat else 0 }

/-- The heat account of a current lane with half a heat limit (R117). -/
def State.heatReply (s : State) (i : Fin 12) (x : SupSettings) : Option (Nat × Nat) :=
  (index? 6 i.val).map fun j => (s.sup.heat[j], x.halfLimit)

/-- Whether a SET_SUPERVISION is taken, and its effect (R117): the account may then stand at or below half the new limit,
which is a moment for a grant (R31). -/
def setSupervision (l : Link) (lane enabled : Byte) (deviation : Half16) (missLimit : Byte) (rating heatLimit : Half16)
    (s : State) : Except Denial (State × ReplyBody) :=
  if l ≠ .supervision then .error .notPermitted
  else match index? 12 lane.toNat with
    | none => .error (badRequest 0)
    | some i =>
      if !s.engine.isIdle then .error .locked
      else match supervisionBad i missLimit rating heatLimit with
        | some n => .error (badRequest n)
        | none =>
          let x := supervisionSettings i enabled deviation missLimit rating heatLimit
          .ok ((s.setSup i { s.sup.lanes[i] with settings := x, missRun := 0 }).grantMoment,
               .supervision i x (s.heatReply i x))

/-- SET_SUPERVISION (R117). -/
def execSetSupervision (l : Link) (tag : Byte) (lane enabled : Byte) (deviation : Half16) (missLimit : Byte)
    (rating heatLimit : Half16) (s : State) : Host.Outcome State Fault Refusal :=
  .next (respond l .setSupervision tag s (setSupervision l lane enabled deviation missLimit rating heatLimit s))

/-- A declared fault of lane `i` ends the granted shot: it is ARMED or RUNNING and the lane is in its lane-use mask (R119). -/
def State.endsByFault (s : State) (i : Fin 12) : Bool :=
  match s.engine with
  | .armed sh _ => has sh.req.laneUse i
  | .running sh _ => has sh.req.laneUse i
  | _ => false

/-- A lane declared FAULTED, with the end it requests (R119). -/
def State.declareFault (s : State) (i : Fin 12) : State :=
  let t := s.setCondition i (s.sup.lanes[i]).condition.onDeclare
  if s.endsByFault i then t.requestEnd (.laneFault i) else t

/-- Whether a DECLARE_LANE_FAULT is taken, and its effect (R119). -/
def declareLaneFault (l : Link) (lane : Byte) (s : State) : Except Denial (State × ReplyBody) :=
  if l ≠ .supervision then .error .notPermitted
  else match index? 12 lane.toNat with
    | none => .error (badRequest 0)
    | some i => .ok (s.declareFault i, .declared i (s.sup.lanes[i]).condition (s.endsByFault i))

/-- DECLARE_LANE_FAULT (R119). -/
def execDeclareLaneFault (l : Link) (tag : Byte) (lane : Byte) (s : State) : Host.Outcome State Fault Refusal :=
  .next (respond l .declareLaneFault tag s (declareLaneFault l lane s))

/-- Whether a CLEAR_LANE_FAULT is taken, and its effect (R120): a FAULTED lane's return to READY is a moment for a grant
(R31). -/
def clearLaneFault (l : Link) (lane : Byte) (s : State) : Except Denial (State × ReplyBody) :=
  if l ≠ .supervision then .error .notPermitted
  else match index? 12 lane.toNat with
    | none => .error (badRequest 0)
    | some i =>
      .ok ((s.setSup i { s.sup.lanes[i] with condition := .ready, missRun := 0 }).grantMoment,
           .cleared i (s.sup.lanes[i]).condition)

/-- CLEAR_LANE_FAULT (R120). -/
def execClearLaneFault (l : Link) (tag : Byte) (lane : Byte) (s : State) : Host.Outcome State Fault Refusal :=
  .next (respond l .clearLaneFault tag s (clearLaneFault l lane s))

/-- The override latch after an action: SET 0, CLEAR 1, TOGGLE 2; no other code is an action (R130, R183). -/
def overrideAfter (action : Nat) (latch : Bool) : Option Bool :=
  match action with
  | 0 => some true
  | 1 => some false
  | 2 => some !latch
  | _ => none

/-- The override latch set: when it becomes set while INHIBIT is asserted, that is a moment for a grant (R31, R130). -/
def State.setOverrideLatch (s : State) : State :=
  let t : State := { s with sup := { s.sup with override := true } }
  if s.sup.inhibit && !s.sup.override then t.grantMoment else t

/-- Whether a SET_OVERRIDE is taken, and its effect (R130). -/
def setOverride (l : Link) (action : Byte) (s : State) : Except Denial (State × ReplyBody) :=
  if l ≠ .supervision then .error .notPermitted
  else match overrideAfter action.toNat s.sup.override with
    | none => .error (badRequest 0)
    | some true => .ok (s.setOverrideLatch, .override s.sup.override true s.sup.inhibit)
    | some false => .ok (s.clearOverride, .override s.sup.override false s.sup.inhibit)

/-- SET_OVERRIDE (R130). -/
def execSetOverride (l : Link) (tag : Byte) (action : Byte) (s : State) : Host.Outcome State Fault Refusal :=
  .next (respond l .setOverride tag s (setOverride l action s))

/-- One lane's row of a SUPERVISION_STATUS reply (R132). -/
def State.supRow (s : State) (i : Fin 12) : SupRow :=
  { settings := (s.sup.lanes[i]).settings, condition := (s.sup.lanes[i]).condition,
    missRun := (s.sup.lanes[i]).missRun, supervised := s.supervised i }

/-- One current lane's heat row of a SUPERVISION_STATUS reply (R132). -/
def State.heatRow (s : State) (i : Fin 6) : HeatRow :=
  { account := s.sup.heat[i], half := (s.sup.lanes[currentLane i]).settings.halfLimit, above := s.hot i }

/-- SUPERVISION_STATUS (R132). -/
def execSupervisionStatus (l : Link) (tag : Byte) (s : State) : Host.Outcome State Fault Refusal :=
  .next (respond l .supervisionStatus tag s
    (.ok (s, .supervisionStatus s.sup.inhibit s.sup.override ((List.finRange 12).map s.supRow)
      ((List.finRange 6).map s.heatRow) s.sup.lastFrame.toList)))

end Sys2Proof.Machine
end

