-- ==== Sys2Proof/Machine/ReportRequests.lean ====
section
/-! DEFINITION. The requests on the Report Store and the Capture Memory (R145 to R150, R161). -/

namespace Sys2Proof.Machine

/-! ## SUBSCRIBE (R145) -/

/-- A report threshold clamped to 1–16 (R145). -/
def clampThreshold (n : Nat) : Nat := if n < 1 then 1 else if 16 < n then 16 else n

/-- The slots that an unsubscription of `l` empties: the COMPLETE slots whose pending set holds `l` alone (R145, R150). -/
def State.emptiedBy (s : State) (l : Link) : SlotSet :=
  setOf fun k =>
    match s.reports[k] with
    | .complete _ w => has w l.number && excluding w l.number == 0
    | _ => false

/-- A link taken out of the pending set of every COMPLETE slot that holds it (R145). -/
def State.leaveAll (s : State) (l : Link) : State :=
  { s with
    reports := Vector.ofFn fun k => if has s.reports[k].waiting l.number then s.reports[k].retire l else s.reports[k]
    captures := (members (s.emptiedBy l)).foldl Captures.freeBound s.captures }

/-- The subscription and the threshold of a link set (R145). -/
def State.setSubscription (s : State) (l : Link) (on : Bool) (threshold : Nat) : State :=
  s.setLink l { s.link l with subscribed := on, threshold := clampThreshold threshold }

/-- Whether a SUBSCRIBE is taken, and its effect (R145); an emptied slot is a moment for a grant (R31, R150). -/
def subscribe (l : Link) (subscription threshold : Byte) (s : State) : Except Denial (State × ReplyBody) :=
  let t := clampThreshold threshold.toNat
  match subscription.toNat with
  | 0 =>
    .ok (((s.leaveAll l).setSubscription l false threshold.toNat).grantMoment,
         .subscribed false t (t ≠ threshold.toNat) (s.emptiedBy l))
  | 1 => .ok (s.setSubscription l true threshold.toNat, .subscribed true t (t ≠ threshold.toNat) 0)
  | _ => .error (badRequest 0)

/-- SUBSCRIBE (R145). -/
def execSubscribe (l : Link) (tag : Byte) (subscription threshold : Byte) (s : State) :
    Host.Outcome State Fault Refusal :=
  .next (respond l .subscribe tag s (subscribe l subscription threshold s))

/-! ## REPORT_STATUS (R147) -/

/-- One row of a REPORT_STATUS reply (R147). -/
def Slot.row : Slot → SlotRow
  | .empty => .empty
  | .building r => .building r.header.serial r.header.ticket r.header.link
  | .complete r w =>
    .complete r.header.serial r.header.ticket r.header.link
      { endReason := r.header.endReason, mode := r.header.mode, pass := r.header.pass, fail := r.header.fail,
        notMeasured := r.header.notMeasured, void := r.header.void, waiting := w }

/-- REPORT_STATUS (R147). -/
def execReportStatus (l : Link) (tag : Byte) (s : State) : Host.Outcome State Fault Refusal :=
  .next (respond l .reportStatus tag s
    (.ok (s, .reportStatus (s.reports.toList.map Slot.row) (s.link l).subscribed (s.link l).threshold
      (s.pendingCount l) (s.reportReady l))))

/-! ## READ_REPORT (R148) -/

/-- One part of a completed report (R148 checks 5 and 6): the parts HEADER 0, VISIT 1, RESULTS 2 and TIMELINE 3. -/
def Report.part (r : Report) (part visit first count : Nat) : Except Denial ReplyBody :=
  match part with
  | 0 => .ok (.header r.header)
  | 1 =>
    if r.header.mode ≠ .full then .error (badRequest 2)
    else match r.visits[visit]? with
      | none => .error (badRequest 3)
      | some v => .ok (.visit r.header.serial v)
  | 2 =>
    if count < 1 ∨ Config.maxRead < count then .error (badRequest 5)
    else if r.results.length < first then .error (badRequest 4)
    else .ok (.results r.header.serial ((r.results.drop first).take count))
  | 3 => if r.header.mode ≠ .full then .error (badRequest 2) else .ok (.timeline r.header.serial r.timeline)
  | _ => .error (badRequest 2)

/-- Whether a READ_REPORT is taken, and its reply (R148). -/
def readReport (slot : Byte) (serial : Half16) (part visit : Byte) (first : Half16) (count : Byte) (s : State) :
    Except Denial (State × ReplyBody) :=
  match index? 16 slot.toNat with
  | none => .error (badRequest 0)
  | some k =>
    match s.reports[k] with
    | .empty => .error .noReport
    | .building _ => .error .notReady
    | .complete r _ =>
      if serial.toNat ≠ 0 ∧ serial.toNat ≠ r.header.serial then .error .noReport
      else match r.part part.toNat visit.toNat first.toNat count.toNat with
        | .error d => .error d
        | .ok b => .ok (s, b)

/-- READ_REPORT (R148). -/
def execReadReport (l : Link) (tag : Byte) (slot : Byte) (serial : Half16) (part visit : Byte) (first : Half16)
    (count : Byte) (s : State) : Host.Outcome State Fault Refusal :=
  .next (respond l .readReport tag s (readReport slot serial part visit first count s))

/-! ## RETIRE_REPORT (R149) -/

/-- A link retired from the report in a slot: a slot whose pending set becomes empty becomes EMPTY and its half FREE, and that
is a moment for a grant (R31, R149, R150). -/
def State.retire (s : State) (k : Fin 16) (l : Link) (w : LinkSet) : State :=
  let t : State := { s with reports := s.reports.set k (s.reports[k].retire l) }
  if excluding w l.number = 0 then { t with captures := t.captures.freeBound k }.grantMoment else t

/-- Whether a RETIRE_REPORT is taken, and its effect (R149). -/
def retireReport (l : Link) (slot : Byte) (serial : Half16) (s : State) : Except Denial (State × ReplyBody) :=
  match index? 16 slot.toNat with
  | none => .error (badRequest 0)
  | some k =>
    match s.reports[k] with
    | .complete r w =>
      if serial.toNat ≠ r.header.serial ∨ !has w l.number then .error .noReport
      else .ok (s.retire k l w, .retired k serial.toNat (excluding w l.number) (excluding w l.number = 0))
    | _ => .error .noReport

/-- RETIRE_REPORT (R149). -/
def execRetireReport (l : Link) (tag : Byte) (slot : Byte) (serial : Half16) (s : State) :
    Host.Outcome State Fault Refusal :=
  .next (respond l .retireReport tag s (retireReport l slot serial s))

/-! ## READ_CAPTURE (R161) -/

/-- The most sample records that fit after the 18-byte head of a READ_CAPTURE reply in 1,024 bytes, each 4 bytes and 3 for
each capture lane (R183). -/
def recordsThatFit (lanes : LaneSet) : Nat := (Config.maxBody - 18) / (4 + 3 * (members lanes).length)

/-- The half of a code: A 0, B 1 (R183). -/
def halfOf : Nat → Option HalfId
  | 0 => some .a
  | 1 => some .b
  | _ => none

/-- Whether a READ_CAPTURE is taken, and its reply (R161, R183). -/
def readCapture (half : Byte) (first : Half16) (count : Byte) (s : State) : Except Denial (State × ReplyBody) :=
  match halfOf half.toNat with
  | none => .error (badRequest 0)
  | some h =>
    let x := s.captures.get h
    match x.state with
    | .held slot serial =>
      if count.toNat < 1 ∨ Config.maxRead < count.toNat then .error (badRequest 2)
      else if x.records.length < first.toNat then .error (badRequest 1)
      else
        .ok (s, .capture h slot serial x.records.length x.trigger x.lanes
          ((x.records.drop first.toNat).take (min count.toNat (recordsThatFit x.lanes))))
    | _ => .error .noCapture

/-- READ_CAPTURE (R161). -/
def execReadCapture (l : Link) (tag : Byte) (half : Byte) (first : Half16) (count : Byte) (s : State) :
    Host.Outcome State Fault Refusal :=
  .next (respond l .readCapture tag s (readCapture half first count s))

end Sys2Proof.Machine
end

