-- ==== Sys2Proof/Machine/ClockUnit.lean ====
section
/-! DEFINITION. The Test Clock (chapter 10): discipline, second marks, the quality machine, expiries, TIME_STATUS. -/

namespace Sys2Proof.Machine

/-! ## SET_DISCIPLINE and TIME_STATUS (R166, R172) -/

/-- The Test Clock's items when discipline is turned on or off: the reference is absent and the count 0; the deviation and the
anchor are kept (R166). -/
def State.switchDiscipline (s : State) (on : Bool) : State :=
  { s with clock := { s.clock with discipline := on, reference := none, count := 0 } }

/-- The discipline set (R166): nothing changes when it already stands so. -/
def State.setDiscipline (s : State) (on : Bool) : State :=
  if s.clock.discipline = on then s
  else (s.switchDiscipline on).setQuality (if on then .free else .disabled)

/-- Whether a SET_DISCIPLINE is taken, and its effect (R166): the settings are OFF 0 and ON 1. -/
def setDiscipline (l : Link) (setting : Byte) (s : State) : Except Denial (State × ReplyBody) :=
  if l ≠ .plan then .error .notPermitted
  else if 1 < setting.toNat then .error (badRequest 0)
  else
    let t := s.setDiscipline (setting ≠ 0)
    .ok (t, .discipline t.clock.discipline t.clock.quality)

/-- SET_DISCIPLINE (R166). -/
def execSetDiscipline (l : Link) (tag : Byte) (setting : Byte) (s : State) : Host.Outcome State Fault Refusal :=
  .next (respond l .setDiscipline tag s (setDiscipline l setting s))

/-- The time from the reference to the expiry of a quality; none in FREE and DISABLED (R168). -/
def Quality.expiry : Quality → Option Nat
  | .acquiring => some Config.missedMark
  | .locked => some Config.missedMark
  | .holdover => some Config.holdoverEnd
  | _ => none

/-- The clock value of the next expiry (R172). -/
def TestClock.nextExpiry (c : TestClock) : Option Clock :=
  match c.reference, c.quality.expiry with
  | some r, some n => some (later r n)
  | _, _ => none

/-- The grid is held fixed because the engine is RUNNING or SETTLING (R164, R170). -/
def Engine.holdsGrid : Engine → Bool
  | .running _ _ => true
  | .settling _ _ _ => true
  | _ => false

/-- TIME_STATUS (R172). -/
def execTimeStatus (l : Link) (tag : Byte) (s : State) : Host.Outcome State Fault Refusal :=
  .next (respond l .timeStatus tag s
    (.ok (s, .timeStatus s.now s.clock.anchor s.engine.holdsGrid s.clock.discipline s.clock.quality s.clock.count
      s.clock.reference s.clock.deviation s.clock.nextExpiry)))

/-! ## Marks (R165, R167 to R170) -/

/-- The place of a mark in the table of R167: the number of seconds n, 1 to 10, whose window holds the time since the
reference. -/
def markSecond (delta : Nat) : Option Nat :=
  (List.range' 1 10).find? fun n =>
    decide (n * Config.second ≤ delta + Config.markWindow) && decide (delta ≤ n * Config.second + Config.markWindow)

/-- What an accepted mark makes of the quality, the count and the deviation (R167, R169). -/
structure Acceptance where
  quality : Quality
  count : Nat
  deviation : Option Int
  deriving DecidableEq, Repr

/-- The handling of a mark by the quality, with the time since the reference where there is one; none is an ignored mark
(R167, R169). -/
def acceptance (q : Quality) (count : Nat) (delta : Option Nat) : Option Acceptance :=
  match q, delta with
  | .disabled, _ => none
  | .free, _ => some { quality := .acquiring, count := 0, deviation := none }
  | .acquiring, some d =>
    if markSecond d = some 1 then
      some { quality := if count + 1 = 3 then .locked else .acquiring, count := count + 1,
             deviation := some ((d : Int) - Config.second) }
    else some { quality := .acquiring, count := 0, deviation := some ((d : Int) - Config.second) }
  | .locked, some d =>
    if markSecond d = some 1 then
      some { quality := .locked, count := count, deviation := some ((d : Int) - Config.second) }
    else none
  | .holdover, some d =>
    match markSecond d with
    | some n =>
      if 2 ≤ n then some { quality := .locked, count := count, deviation := some ((d : Int) - n * Config.second) }
      else none
    | none => none
  | _, none => none

/-- The tick anchor re-anchored to the present microsecond, unless the engine holds the grid (R164, R170). -/
def State.reanchor (s : State) : State :=
  if s.engine.holdsGrid then s
  else { s with clock := { s.clock with anchor := s.now.toNat % Config.tickPeriod } }

/-- The accepted mark that starts an ARMED SECOND shot with its start latch clear: its microsecond is the start tick (R47,
R48, R170). -/
def State.startSecond (s : State) : State :=
  match s.engine with
  | .armed sh none =>
    if sh.req.condition = .second then
      let t := (s.openTick.startShot sh).settleTick
      { t with tick := { t.tick with synth := false } }
    else s
  | _ => s

/-- A mark accepted (R167, R169, R170, R171). -/
def State.acceptMark (s : State) (a : Acceptance) : State :=
  let t := s.reanchor
  let t : State := { t with clock := { t.clock with reference := some s.now, count := a.count, deviation := a.deviation } }
  (t.setQuality a.quality).startSecond

/-- A mark handled by the quality machine (R165, R167): with discipline OFF it is ignored. -/
def State.handleMark (s : State) : State :=
  if s.clock.discipline then
    match acceptance s.clock.quality s.clock.count (s.clock.reference.map fun r => elapsed r s.now) with
    | some a => s.acceptMark a
    | none => s
  else s

/-- MARK (R165, R167): this microsecond's sample finds MARK high; it is a mark when the previous sample found it low. -/
def execMark (s : State) : Host.Outcome State Fault Refusal :=
  let t : State := { s with clock := { s.clock with markNow := true } }
  .next (if s.clock.markPrev = some false ∧ s.clock.markNow = false then t.handleMark else t)

/-! ## Expiry and wrap (R164, R168) -/

/-- The expiry of the quality is due (R168). -/
def State.expiryDue (s : State) : Bool :=
  match s.clock.reference, s.clock.quality.expiry with
  | some r, some n => decide (n ≤ elapsed r s.now)
  | _, _ => false

/-- The expiry of the quality taken (R168): LOCKED falls to HOLDOVER with its reference kept, the others to FREE. -/
def State.expire (s : State) : State :=
  match s.clock.quality with
  | .locked => s.setQuality .holdover
  | _ => { s with clock := { s.clock with reference := none, count := 0 } }.setQuality .free

/-- QUALITY_EXPIRY (R168). -/
def execQualityExpiry (s : State) : Host.Outcome State Fault Refusal := .next (if s.expiryDue then s.expire else s)

end Sys2Proof.Machine
end

