-- ==== Sys2Proof/Machine/PinEvents.lean ====
section
/-! DEFINITION. The events on the part's pins and of its simulators (R44, R65, R88, R106, R121, R127 to R129). -/

namespace Sys2Proof.Machine

/-- The part after power-on reset (R65), with what the reset does not reach kept: the waiting commands, and the levels that
stand on the contact input lines and on the INHIBIT line. -/
def State.powerOn (s : State) : State :=
  { State.reset with
    pending := s.pending,
    contacts := Vector.ofFn fun i => .reset (s.contacts[i]).pin,
    sup := { State.reset.sup with pin := s.sup.pin } }

/-- POWER_ON_RESET (R65). -/
def execPowerOnReset (s : State) : Host.Outcome State Fault Refusal := .next s.powerOn

/-- A rising edge of TRIG at the engine (R44, R45, R53). -/
def State.takeTrig (s : State) : State :=
  match s.engine with
  | .armed sh none => if sh.req.condition = .trigger then { s with engine := .armed sh (some s.now) } else s
  | .running sh run =>
    if run.deferral = none then { s with engine := .running sh { run with trigLatch := true } } else s
  | _ => s

/-- TRIG_EDGE (R44): this microsecond's sample finds TRIG high; it is an edge when the previous sample found it low. -/
def execTrigEdge (s : State) : Host.Outcome State Fault Refusal :=
  let t : State := { s with trig := { s.trig with now := true } }
  .next (if s.trig.prev = some false ∧ s.trig.now = false then t.takeTrig else t)

/-- INHIBIT_ASSERT (R127, R128, R131): at an assertion edge the override is cleared first, and the granted shot is judged. -/
def execInhibitAssert (s : State) : Host.Outcome State Fault Refusal :=
  let t : State := { s with sup := { s.sup with pin := true } }
  .next (if s.sup.inhibit then t
         else { t with sup := { t.sup with inhibit := true, override := false } }.judgeInhibit)

/-- INHIBIT_DEASSERT (R127, R129): a deassertion edge is a moment for a grant (R31). -/
def execInhibitDeassert (s : State) : Host.Outcome State Fault Refusal :=
  let t : State := { s with sup := { s.sup with pin := false } }
  .next (if s.sup.inhibit then { t with sup := { t.sup with inhibit := false } }.grantMoment else t)

/-- CONTACT_RAW_EDGE (R88): this microsecond's sample finds an input at a raw level. -/
def execContactRawEdge (i : Fin 16) (level : Level) (s : State) : Host.Outcome State Fault Refusal :=
  .next (s.setContact i ((s.contacts[i]).sample level s.now))

/-- EPISODE_END (R88, R89, R91). -/
def execEpisodeEnd (i : Fin 16) (s : State) : Host.Outcome State Fault Refusal :=
  .next (match (s.contacts[i]).ends s.now with
    | some e => s.endEpisode i e
    | none => s)

/-- MOVE_COMPLETE (R102, R106). -/
def execMoveComplete (k : Fin 4) (s : State) : Host.Outcome State Fault Refusal := .next (s.completeMove k)

/-- The signed values of a frame of the readback input stream (R121). -/
def frameValues (f : Frame) : Vector Int 12 := Vector.ofFn fun i => (f[i]).toInt

/-- READBACK_FRAME (R121): the frame becomes the frame of the coming tick, in place of one received before it in the same
interval, and the last readback frame. -/
def execReadbackFrame (frame : Frame) (s : State) : Host.Outcome State Fault Refusal :=
  .next { s with sup := { s.sup with lastFrame := frameValues frame, frameIn := some (frameValues frame) } }

end Sys2Proof.Machine
end

