-- ==== Sys2Proof/Machine/TickEvents.lean ====
section
/-! DEFINITION. The events of a sample tick and of a shot's closing, each at the moment it falls due and without effect at any
other (R48, R52, R56, R60, R64, R68, R94, R111, R112, R123). -/

namespace Sys2Proof.Machine

/-! ## The tick and the engine's events at it -/

/-- SAMPLE_TICK (R68): the whole of this microsecond's tick, as far as it is still to be done. -/
def execSampleTick (s : State) : Host.Outcome State Fault Refusal := .next s.runTick

/-- The exit that will be taken at this microsecond's tick, once its moves are completed: none outside RUNNING, while
DEFERRING and with an end pending (R51). -/
def State.dueExit (s : State) : Option (Nat × Exit) :=
  if s.engineDue then
    match s.prepare.engine with
    | .running _ run => if run.pendingEnd = none ∧ run.deferral = none then s.prepare.taken run else none
    | _ => none
  else none

/-- The exit is a TIME exit (R52). -/
def Exit.isTime (e : Exit) : Bool :=
  match e.kind with
  | .time _ => true
  | _ => false

/-- The exit taken at this microsecond's tick is a TIME exit. -/
def State.timeExitDue (s : State) : Bool :=
  match s.dueExit with
  | some (_, e) => e.isTime
  | none => false

/-- TIME_EXIT (R52, R55): the engine's work at a tick at which a TIME exit is taken. -/
def execTimeExit (s : State) : Host.Outcome State Fault Refusal := .next (if s.timeExitDue then s.engineWork else s)

/-- A deferral of an earlier tick ends at this microsecond's tick: the reference lane has reached the target (R56). -/
def State.deferralEndDue (s : State) : Bool :=
  s.engineDue &&
    match s.prepare.engine with
    | .running _ run =>
      match run.pendingEnd, run.deferral with
      | none, some d => s.prepare.reached run d.target
      | _, _ => false
    | _ => false

/-- DEFERRAL_END (R56): the engine's work at a tick at which a deferral ends. -/
def execDeferralEnd (s : State) : Host.Outcome State Fault Refusal := .next (if s.deferralEndDue then s.engineWork else s)

/-- The granted shot starts at this microsecond's tick (R45). -/
def Action.isStart : Action → Bool
  | .start _ => true
  | _ => false

/-- SHOT_START (R48): the engine's work at the start tick. -/
def execShotStart (s : State) : Host.Outcome State Fault Refusal := .next (if s.dueAction.isStart then s.engineWork else s)

/-- The shot ends at this microsecond's tick (R58, R60). -/
def Action.isFinish : Action → Bool
  | .finish _ _ _ _ => true
  | _ => false

/-- SHOT_END (R60): the engine's work at the end tick. A shot ended from ARMED ends in the action of its end request (R59). -/
def execShotEnd (s : State) : Host.Outcome State Fault Refusal := .next (if s.dueAction.isFinish then s.engineWork else s)

/-! ## The lanes' events at a tick (R111, R112, R123) -/

/-- DEVIATION_FAULT (R123): a supervised lane's miss run rises to its miss limit at this tick. The comparison of the tick is one:
every lane is compared, each that rises to its limit is FAULTED, and the end is requested for the lowest-numbered of them. At the
end tick the engine's work, which compares the lanes before the shot ends, leaves the lane FAULTED, and the end reason stands. -/
def State.deviationFault (s : State) (i : Fin 12) : State :=
  if s.dueAction.isFinish then (if s.openTick.deviates i then s.engineWork else s)
  else if s.tickDue && s.engineWork.deviates i then s.engineWork.compareAll
  else s

/-- DEVIATION_FAULT (R123). -/
def execDeviationFault (lane : Fin 12) (s : State) : Host.Outcome State Fault Refusal := .next (s.deviationFault lane)

/-- An event of lane `i` at this microsecond's tick, once the engine has done its work there: it acts when `due` holds of the
running shot. -/
def State.laneEvent (s : State) (due : State → Shot → Run → Bool) (act : State → Shot → Run → State) : State :=
  if s.tickDue then
    match s.engineWork.engine with
    | .running sh run => if due s.engineWork sh run then act s.engineWork sh run else s
    | _ => s
  else s

/-- A lane's cut made to take effect (R76, R80, R111). -/
def State.cutLane (s : State) (i : Fin 12) : State := s.setLane i (s.synth.lanes[i]).makeCut

/-- The lane has no re-energising request that names this tick, so that it is tested (R112). -/
def State.isTested (s : State) (i : Fin 12) : Bool := !(s.synth.lanes[i]).reenergiseDue s.now

/-- CUT_TAKES_EFFECT (R111): a CUTTING lane whose value is 0 or has changed sign becomes CUT. -/
def execCutTakesEffect (lane : Fin 12) (s : State) : Host.Outcome State Fault Refusal :=
  .next (s.laneEvent (fun s sh run => s.isTested lane && s.cutByValue sh run lane) fun s _ _ => s.cutLane lane)

/-- CUT_LIMIT (R111): a CUTTING lane at the cut-limit-th tested tick becomes CUT. -/
def execCutLimit (lane : Fin 12) (s : State) : Host.Outcome State Fault Refusal :=
  .next (s.laneEvent (fun s _ _ => s.isTested lane && s.cutByLimit lane) fun s _ _ => s.cutLane lane)

/-- REENERGISE (R112): a lane with a re-energising request that names this tick becomes LIVE. -/
def execReenergise (lane : Fin 12) (s : State) : Host.Outcome State Fault Refusal :=
  .next (s.laneEvent (fun s _ _ => (s.synth.lanes[lane]).reenergiseDue s.now) fun s sh run => s.reenergiseLane sh run lane)

/-! ## The closing of visits and the teardown (R63, R64, R94) -/

/-- The visits of the granted shot whose closing VISIT_CLOSE brings about: every visit of a RUNNING shot that has been left,
and of a SETTLING shot every such visit but the last, which the teardown closes (R64 step 1, R94). -/
def State.closing (s : State) : Option (Fin 16 × List Visit) :=
  match s.engine with
  | .running sh _ =>
    match s.reports[sh.slot] with
    | .building r => some (sh.slot, r.visits)
    | _ => none
  | .settling sh _ _ =>
    match s.reports[sh.slot] with
    | .building r => some (sh.slot, r.visits.filter fun v => v.number + 1 ≠ r.header.visitCount)
    | _ => none
  | _ => none

/-- The close time of a visit has come (R94). -/
def Visit.closesAt (v : Visit) (now : Clock) : Bool := v.closeAt == some now

/-- The first visit that closes at this microsecond (R94). -/
def State.visitDue (s : State) : Option (Fin 16 × Nat) :=
  match s.closing with
  | some (slot, vs) => (vs.find? fun v => v.closesAt s.now).map fun v => (slot, v.number)
  | none => none

/-- VISIT_CLOSE (R94, R136). -/
def execVisitClose (s : State) : Host.Outcome State Fault Refusal :=
  .next (match s.visitDue with
    | some (slot, n) => s.onReport slot fun r => r.closeVisit n fun i => (s.entry i).assessments
    | none => s)

/-- The teardown of the SETTLING shot is due (R63). -/
def State.teardownDue (s : State) : Option Shot :=
  match s.engine with
  | .settling sh _ finish => if s.horizon sh ≤ elapsed finish s.now then some sh else none
  | _ => none

/-- TEARDOWN (R64): the engine's becoming IDLE is a moment for a grant (R31). -/
def execTeardown (s : State) : Host.Outcome State Fault Refusal :=
  .next (match s.teardownDue with
    | some sh => (s.tearDown sh).grantMoment
    | none => s)

end Sys2Proof.Machine
end

