-- ==== Sys2Proof/Machine/Frames.lean ====
section
/-! DEFINITION. Request frames (R175, R176): the CRC, the seven checks, the request a frame carries, and BAD_FRAME, the
judgement of the bytes of a finished transaction. -/

namespace Sys2Proof.Machine

/-! ## The cyclic check (R176) -/

/-- One bit of the CRC with generator polynomial 0x1021, most significant bit first. -/
def crcBit (c : BitVec 16) : BitVec 16 := if c.msb then c <<< 1 ^^^ 0x1021#16 else c <<< 1

/-- Eight bits of the CRC. -/
def crcShift (c : BitVec 16) : BitVec 16 := crcBit (crcBit (crcBit (crcBit (crcBit (crcBit (crcBit (crcBit c)))))))

/-- One byte of the CRC. -/
def crcByte (c : BitVec 16) (b : Byte) : BitVec 16 := crcShift (c ^^^ (b.setWidth 16 <<< 8))

/-- The CRC of a run of bytes, with initial value 0xFFFF (R176). -/
def crc (bytes : List Byte) : BitVec 16 := bytes.foldl crcByte 0xFFFF#16

/-! ## The seven checks (R176) -/

/-- The sync byte of a request frame (R183). -/
def syncRequest : Byte := 0xA5

/-- The length field of a request frame (R183). -/
def frameLength (bytes : List Byte) : Nat := field bytes 3 2

/-- The body of a request frame. -/
def frameBody (bytes : List Byte) : List Byte := (bytes.drop 5).take (frameLength bytes)

/-- The CRC a request frame carries, sent low byte first. -/
def frameCrc (bytes : List Byte) : Nat := field bytes (5 + frameLength bytes) 2

/-- The CRC of a request frame matches: it covers the kind byte through the last body byte (R176). -/
def crcMatches (bytes : List Byte) : Bool := (crc ((bytes.drop 1).take (4 + frameLength bytes))).toNat == frameCrc bytes

/-- Checks 1 to 5 of R176 pass. -/
def frameSound (bytes : List Byte) : Bool :=
  7 ≤ bytes.length && bytes.head? == some syncRequest && frameLength bytes ≤ Config.maxBody &&
    7 + frameLength bytes ≤ bytes.length && crcMatches bytes

/-- The body length the layout of a kind gives (R183); none for LOAD_STATE, whose body gives its own length. -/
def bodyLength : Kind → Option Nat
  | .loadState => none
  | .loadProfile => some 161
  | .freeState => some 1
  | .freeProfile => some 1
  | .readState => some 1
  | .readProfile => some 1
  | .submitShot => some 12
  | .abort => some 1
  | .setLinkPriority => some 2
  | .adjust => some 2
  | .setSupervision => some 9
  | .declareLaneFault => some 1
  | .clearLaneFault => some 1
  | .setOverride => some 1
  | .subscribe => some 2
  | .readReport => some 8
  | .retireReport => some 3
  | .readCapture => some 4
  | .setDiscipline => some 1
  | _ => some 0

/-- Check 7 of R176: the body length is the one the layout gives; a LOAD_STATE body is at least 10 bytes long. -/
def lengthFits (k : Kind) (body : List Byte) : Bool :=
  match bodyLength k with
  | some n => body.length == n
  | none => decide (lanesAt ≤ body.length)

/-- The judgement of the bytes of a transaction (R176): the kind and the body of the request, or the refusal. -/
def judgeFrame (bytes : List Byte) : Except Denial (Kind × List Byte) :=
  if !frameSound bytes then .error .badFrame
  else match Kind.ofCode (bytes.getD 1 0) with
    | none => .error .badKind
    | some k =>
      if lengthFits k (frameBody bytes) then .ok (k, frameBody bytes)
      else .error (.badField { part := .bodyLength, field := 0 })

/-! ## The request a frame carries (R177, R183) -/

/-- Byte `n` of a body. -/
def byteAt (body : List Byte) (n : Nat) : Byte := body.getD n 0

/-- The two-byte integer at byte `n` of a body, low byte first (R183). -/
def halfAt (body : List Byte) (n : Nat) : Half16 := byteAt body (n + 1) ++ byteAt body n

/-- A request that has passed the seven checks, handed to the block that owns its kind (R177). -/
def runRequest (l : Link) (k : Kind) (tag : Byte) (body : List Byte) (s : State) : Host.Outcome State Fault Refusal :=
  match k with
  | .nop => execNop l tag s
  | .peekNotices => execPeekNotices l tag s
  | .takeNotices => execTakeNotices l tag s
  | .clearFault => execClearFault l tag s
  | .linkReset => execLinkReset l tag s
  | .loadState => execLoadState l tag body s
  | .loadProfile => execLoadProfile l tag body s
  | .freeState => execFreeState l tag (byteAt body 0) s
  | .freeProfile => execFreeProfile l tag (byteAt body 0) s
  | .readState => execReadState l tag (byteAt body 0) s
  | .readProfile => execReadProfile l tag (byteAt body 0) s
  | .tableStatus => execTableStatus l tag s
  | .submitShot =>
    execSubmitShot l tag (byteAt body 0) (byteAt body 1) (byteAt body 2) (byteAt body 3) (byteAt body 4) (byteAt body 5)
      (halfAt body 6) (halfAt body 8) (halfAt body 10) s
  | .abort => execAbort l tag (byteAt body 0) s
  | .setLinkPriority => execSetLinkPriority l tag (byteAt body 0) (byteAt body 1) s
  | .queueStatus => execQueueStatus l tag s
  | .go => execGo l tag s
  | .step => execPanelStep l tag s
  | .adjust => execAdjust l tag (byteAt body 0) (byteAt body 1) s
  | .setSupervision =>
    execSetSupervision l tag (byteAt body 0) (byteAt body 1) (halfAt body 2) (byteAt body 4) (halfAt body 5)
      (halfAt body 7) s
  | .declareLaneFault => execDeclareLaneFault l tag (byteAt body 0) s
  | .clearLaneFault => execClearLaneFault l tag (byteAt body 0) s
  | .setOverride => execSetOverride l tag (byteAt body 0) s
  | .supervisionStatus => execSupervisionStatus l tag s
  | .subscribe => execSubscribe l tag (byteAt body 0) (byteAt body 1) s
  | .reportStatus => execReportStatus l tag s
  | .readReport =>
    execReadReport l tag (byteAt body 0) (halfAt body 1) (byteAt body 3) (byteAt body 4) (halfAt body 5)
      (byteAt body 7) s
  | .retireReport => execRetireReport l tag (byteAt body 0) (halfAt body 1) s
  | .readCapture => execReadCapture l tag (byteAt body 0) (halfAt body 1) (byteAt body 3) s
  | .setDiscipline => execSetDiscipline l tag (byteAt body 0) s
  | .timeStatus => execTimeStatus l tag s

/-- BAD_FRAME (R175, R176): the bytes of a finished transaction are judged as a request frame. A transaction without a whole
byte is not counted; a refusal at the frame checks echoes the bytes in the kind and tag positions, 0 for one not clocked in;
bytes that pass every check are the request they spell. DESIGN CHOICE: R176 gives that 0 for the reply only, and the fault
record latches it too, where R178 leaves it open (notes/assumptions/47.md). Unsafe. -/
def execBadFrame (l : Link) (bytes : List Byte) (s : State) : Host.Outcome State Fault Refusal :=
  if bytes = [] then .next s
  else match judgeFrame bytes with
    | .error d => .next (s.refuse l (byteAt bytes 1) (byteAt bytes 2) d)
    | .ok (k, body) => runRequest l k (byteAt bytes 2) body s

/-! ## Building a frame (R183) -/

/-- The two bytes of an integer, low byte first (R183). -/
def halfBytes (h : Half16) : List Byte := [h.setWidth 8, (h >>> 8).setWidth 8]

/-- The request frame of a kind, a tag and a body (R183). -/
def requestFrame (k : Kind) (tag : Byte) (body : List Byte) : List Byte :=
  let covered := [k.code, tag] ++ halfBytes (BitVec.ofNat 16 body.length) ++ body
  [syncRequest] ++ covered ++ halfBytes (crc covered)

end Sys2Proof.Machine
end

