-- ==== Sys2Proof/Machine/Replies.lean ====
section
/-! DEFINITION. Reply frames (R175, R183): the codes of the enumeration table, the bytes of each reply body, the reply frame
and the bytes a link clocks out in a transaction. -/

namespace Sys2Proof.Machine

/-! ## Codes (R183) -/

/-- The code of a status: the statuses run from 0x00 in the order R183 lists them. -/
def Status.code : Status → Byte
  | .ok => 0x00
  | .badFrame => 0x01
  | .badKind => 0x02
  | .badField => 0x03
  | .notPermitted => 0x04
  | .held => 0x05
  | .locked => 0x06
  | .notLoaded => 0x07
  | .notHolder => 0x08
  | .conflict => 0x09
  | .queueFull => 0x0A
  | .noTime => 0x0B
  | .notArmed => 0x0C
  | .notOwner => 0x0D
  | .noShot => 0x0E
  | .noStepExit => 0x0F
  | .notInMask => 0x10
  | .notAdjustable => 0x11
  | .notReady => 0x12
  | .noReport => 0x13
  | .noCapture => 0x14

/-- One byte that holds a number. -/
def b1 (n : Nat) : List Byte := leBytes 1 n

/-- One byte that holds a yes or no (R183). -/
def bBool (b : Bool) : List Byte := b1 b.toNat

/-- A signed value in `n` bytes, two's complement, low byte first (R183). -/
def signed (n : Nat) (v : Int) : List Byte := leBytes n (v % (256 ^ n : Nat)).toNat

/-- The bits of a flags or presence byte, the first listed in bit 0. R183 gives the bit numbers of the state entry's flags; of the
other flags and presence bytes it lists the members alone, and that the first listed stands in bit 0 is a DESIGN CHOICE
(notes/assumptions/25.md). -/
def presence : List Bool → Nat
  | [] => 0
  | b :: bs => b.toNat + 2 * presence bs

/-- The holder's code: a link 0–2, 0x0E NONE, 0xFF absent (R183). -/
def holderCode : Option (Option Link) → Nat
  | none => 0xFF
  | some none => 0x0E
  | some (some l) => l.number.val

/-- The code of a time quality (R183). -/
def Quality.code : Quality → Nat
  | .disabled => 0
  | .free => 1
  | .acquiring => 2
  | .locked => 3
  | .holdover => 4

/-- The code of a start condition (R183). -/
def StartCondition.code : StartCondition → Nat
  | .immediate => 0
  | .go => 1
  | .trigger => 2
  | .second => 3

/-- The code of a report mode (R183). -/
def ReportMode.code : ReportMode → Nat
  | .full => 0
  | .verdicts => 1
  | .failures => 2

/-- The code of an end reason (R183); the aborts follow the link they came from. -/
def EndReason.code : EndReason → Nat
  | .completed => 0
  | .visitLimit => 1
  | .abort .plan => 2
  | .abort .panel => 3
  | .abort .supervision => 4
  | .inhibited => 5
  | .deviation _ => 6
  | .heat _ => 7
  | .laneFault _ => 8
  | .timeLost => 9
  | .linkReset => 10

/-- The lane an end reason names (R58). -/
def EndReason.lane : EndReason → Option (Fin 12)
  | .deviation i => some i
  | .heat i => some i
  | .laneFault i => some i
  | _ => none

/-- The code of an exit kind (R183). -/
def ExitKind.code : ExitKind → Nat
  | .time _ => 0
  | .inputLevel _ _ => 1
  | .inputEdge _ => 2
  | .trigger => 3
  | .panelStep => 4
  | .breaker _ _ => 5

/-- The code of an assessment kind (R183). -/
def AssessKind.code : AssessKind → Nat
  | .operate _ => 0
  | .reset _ => 1
  | .noOperate _ => 2
  | .breakerOpen _ => 3
  | .breakerClose _ => 4

/-- The input or simulator an assessment kind names. -/
def AssessKind.operand : AssessKind → Nat
  | .operate i => i.val
  | .reset i => i.val
  | .noOperate i => i.val
  | .breakerOpen k => k.val
  | .breakerClose k => k.val

/-- The code of a compare mode (R183). -/
def CompareMode.code : CompareMode → Nat
  | .below => 0
  | .above => 1
  | .inside => 2
  | .outside => 3

/-- The code of an origin (R183). -/
def Origin.code : Origin → Nat
  | .visitEntry => 0
  | .shotStart => 1

/-- The code of a verdict (R183). -/
def Verdict.code : Verdict → Nat
  | .pass => 0
  | .fail => 1
  | .notMeasured => 2
  | .void => 3

/-- The code of a breaker element (R183). -/
def BreakerChange.code : BreakerChange → Nat
  | .closed => 0
  | .opening => 1
  | .opened => 2
  | .closing => 3
  | .closeRefused => 4

/-- The code of an engine state in a reply: IDLE, ARMED, RUNNING, SETTLING from 0. -/
def EngineName.code : EngineName → Nat
  | .idle => 0
  | .armed => 1
  | .running => 2
  | .settling => 3

/-- The code of a lane condition: READY, FAULTED(DEVIATION), FAULTED(DECLARED) from 0. -/
def Condition.code : Condition → Nat
  | .ready => 0
  | .deviation => 1
  | .declared => 2

/-- A waiting cause: its code from 0 in the order of R39, and the lane it names, 0xFF for none. -/
def Cause.bytes : Cause → List Byte
  | .engineBusy => b1 0 ++ b1 0xFF
  | .noSlot => b1 1 ++ b1 0xFF
  | .laneFault i => b1 2 ++ b1 i.val
  | .heat i => b1 3 ++ b1 i.val
  | .inhibit => b1 4 ++ b1 0xFF

/-- The code of a capture half (R183). -/
def HalfId.code : HalfId → Nat
  | .a => 0
  | .b => 1

/-- The part byte and the index byte of a field reference (R183). -/
def FieldPart.codes : FieldPart → Nat × Nat
  | .stateIndex => (0, 0xFF)
  | .lane i => (1, i)
  | .pointOnWave => (2, 0xFF)
  | .exitCount => (3, 0xFF)
  | .exit n => (4, n)
  | .assessCount => (5, 0xFF)
  | .assess n => (6, n)
  | .profileIndex => (0, 0xFF)
  | .input i => (1, i)
  | .breaker k => (2, k)
  | .stepSize i => (3, i)
  | .request => (7, 0xFF)
  | .bodyLength => (8, 0xFF)

/-- A field reference of three bytes: part, index, field (R183). -/
def FieldRef.bytes (r : FieldRef) : List Byte := b1 r.part.codes.1 ++ b1 r.part.codes.2 ++ b1 r.field

/-! ## The record layouts (R183) -/

/-- A lane setting (R183). -/
def LaneSetting.bytes (x : LaneSetting) : List Byte := leBytes 2 x.rms ++ leBytes 2 x.angle ++ leBytes 4 x.freq ++ leBytes 2 x.tau

/-- The target of an exit: 0xFF is END (R183). -/
def Target.code : Target → Nat
  | .state i => i.val
  | .finish => 0xFF

/-- The code of a position: OPEN 0, CLOSED 1 (R183). -/
def positionCode : Level → Nat
  | .opened => 0
  | .closed => 1

/-- The parameters of an exit in their 4 bytes (R183). -/
def ExitKind.params : ExitKind → List Byte
  | .time limit => leBytes 4 limit
  | .inputLevel mask all => leBytes 2 mask.toNat ++ bBool all ++ b1 0
  | .inputEdge mask => leBytes 2 mask.toNat ++ leBytes 2 0
  | .trigger => leBytes 4 0
  | .panelStep => leBytes 4 0
  | .breaker k p => b1 k.val ++ b1 (positionCode p) ++ leBytes 2 0

/-- An exit record (R183). -/
def Exit.bytes (e : Exit) : List Byte := b1 e.kind.code ++ b1 e.target.code ++ e.kind.params

/-- An assessment record (R183). -/
def Assessment.bytes (a : Assessment) : List Byte :=
  b1 a.kind.code ++ b1 a.kind.operand ++ b1 a.origin.code ++ b1 a.mode.code ++ leBytes 4 a.low ++ leBytes 4 a.high

/-- The point-on-wave entry, sent as zero when absent (R6, R183). -/
def powBytes : Option PointOnWave → List Byte
  | none => b1 0 ++ leBytes 2 0
  | some p => b1 p.lane.val ++ leBytes 2 p.angle

/-- The state entry layout with its index (R183). -/
def StateEntry.bytes (e : StateEntry) (index : Nat) : List Byte :=
  b1 index ++ leBytes 2 e.label ++ b1 e.pattern.toNat ++ b1 (presence [e.captureMark, e.pow.isSome]) ++ powBytes e.pow ++
    b1 e.exits.length ++ b1 e.assessments.length ++ e.lanes.toList.flatMap LaneSetting.bytes ++
    e.exits.flatMap Exit.bytes ++ e.assessments.flatMap Assessment.bytes

/-- The code of an active level: CLOSED 0, OPEN 1 (R183). -/
def levelCode : Level → Nat
  | .closed => 0
  | .opened => 1

/-- An index that may be none: 0xFF is none (R183). -/
def optCode {n : Nat} : Option (Fin n) → Nat
  | none => 0xFF
  | some i => i.val

/-- An input setting (R183). -/
def InputSetting.bytes (x : InputSetting) : List Byte := bBool x.enabled ++ b1 (levelCode x.active) ++ leBytes 2 x.debounce

/-- A breaker setting (R183). -/
def BreakerSetting.bytes (x : BreakerSetting) : List Byte :=
  bBool x.enabled ++ b1 (optCode x.trip) ++ b1 (optCode x.close) ++ leBytes 4 x.openTime ++ leBytes 4 x.closeTime ++
    b1 (optCode x.aOut) ++ b1 (optCode x.bOut) ++ leBytes 2 x.lanes.toNat ++ b1 (positionCode x.initial) ++
    leBytes 2 x.cutLimit

/-- The rig profile layout with its index (R183), as LOAD_PROFILE carries it; that a READ_PROFILE reply carries the index byte too
is a DESIGN CHOICE (notes/assumptions/25.md). -/
def Profile.bytes (p : Profile) (index : Nat) : List Byte :=
  b1 index ++ p.inputs.toList.flatMap InputSetting.bytes ++ p.breakers.toList.flatMap BreakerSetting.bytes ++
    p.steps.toList.flatMap (leBytes 2)

/-- The status, holder and lock count of a record (R15, R16). The status codes FREE 0 and LOADED 1 are a DESIGN CHOICE
(notes/assumptions/25.md). -/
def recHead {α : Type} : Rec α → List Byte
  | .free => b1 0 ++ b1 0xFF ++ b1 0
  | .loaded h n _ => b1 1 ++ b1 (holderCode (some h)) ++ b1 n

/-! ## Report parts and capture records (R183) -/

/-- A value that may be absent, as a number: an absent field is sent as zero (R183). -/
def orZero (n : Option Nat) : Nat := n.getD 0

/-- The report header, 45 bytes (R143, R183). An absent lane, half or trigger index is sent as 0, as the convention on optional
fields has it, and not as the 0xFF of the convention on index values: both conventions speak of them, and the choice is a DESIGN
CHOICE (notes/assumptions/25.md). So are the bit positions in the flags and presence bytes, the first listed in bit 0. -/
def Header.bytes (h : Header) : List Byte :=
  leBytes 2 h.serial ++ b1 h.ticket ++ b1 h.link.number.val ++ b1 h.start.val ++ b1 h.profile.val ++ b1 h.condition.code ++
    b1 h.mode.code ++ leBytes 6 h.grantTime.toNat ++ leBytes 6 (orZero (h.startTime.map BitVec.toNat)) ++
    b1 (orZero (h.quality.map Quality.code)) ++ leBytes 6 (orZero (h.endTime.map BitVec.toNat)) ++
    b1 (orZero (h.endReason.map EndReason.code)) ++ b1 (orZero ((h.endReason.bind EndReason.lane).map Fin.val)) ++
    b1 h.visitCount ++ leBytes 2 h.pass ++ leBytes 2 h.fail ++ leBytes 2 h.notMeasured ++ leBytes 2 h.void ++
    b1 (presence [h.truncated, h.captureAbsent, h.untriggered, h.cutShort, h.anyClip]) ++
    b1 (orZero (h.capture.map fun c => c.half.code)) ++ leBytes 2 (orZero (h.capture.map fun c => c.count)) ++
    leBytes 2 (orZero (h.capture.bind fun c => c.trigger)) ++
    b1 (presence [h.startTime.isSome, (h.endReason.bind EndReason.lane).isSome, h.capture.isSome,
                  (h.capture.bind fun c => c.trigger).isSome])

/-- The exit cause of a visit in 2 bytes: the slot and the exit kind, or 0x80 and the end reason (R183). -/
def ExitCause.bytes : ExitCause → List Byte
  | .exit slot k => b1 slot ++ b1 k.code
  | .finish r => b1 0x80 ++ b1 r.code

/-- An input element, 21 bytes (R183). R183 gives its presence byte no bit numbers: first operate in bit 0, width in bit 1 and first
reset in bit 2 are a DESIGN CHOICE (notes/assumptions/25.md). -/
def InputElem.bytes (e : InputElem) : List Byte :=
  b1 e.input.val ++ b1 (presence [e.firstOperate.isSome, e.width.isSome, e.firstReset.isSome]) ++
    leBytes 6 (orZero e.firstOperate) ++ leBytes 6 (orZero e.width) ++ leBytes 6 (orZero e.firstReset) ++ b1 e.operates

/-- A breaker element, 8 bytes (R183). -/
def BreakerElem.bytes (e : BreakerElem) : List Byte := b1 e.sim.val ++ b1 e.change.code ++ leBytes 6 e.time

/-- A visit record (R148, R183). In its flags byte, to which R183 gives no bit numbers, adjust present is bit 0 and breaker list
truncated bit 1, a DESIGN CHOICE (notes/assumptions/25.md). -/
def Visit.bytes (v : Visit) : List Byte :=
  b1 v.number ++ b1 v.state.val ++ leBytes 2 v.label ++ leBytes 6 v.entry ++ leBytes 6 (orZero v.exit) ++
    (v.cause.map ExitCause.bytes).getD (leBytes 2 0) ++ leBytes 4 v.deferral ++ leBytes 2 v.clip.toNat ++
    b1 (presence [v.adjust.isSome, v.truncated]) ++
    ((v.adjust.map fun a => a.toList.flatMap (signed 2)).getD (leBytes 24 0)) ++
    b1 v.inputs.length ++ b1 v.breakers.length ++ v.inputs.flatMap InputElem.bytes ++ v.breakers.flatMap BreakerElem.bytes

/-- An assessment result, 13 bytes (R183). -/
def Result.bytes (r : Result) : List Byte :=
  b1 r.state.val ++ b1 r.visit ++ b1 r.slot ++ b1 r.kind.code ++ b1 r.kind.operand ++ b1 r.verdict.code ++
    bBool r.measured.isSome ++ leBytes 6 (orZero r.measured)

/-- A timeline event, 8 bytes: OPERATE 0, RESET 1 (R183). -/
def TimelineEvent.bytes (e : TimelineEvent) : List Byte :=
  b1 e.input.val ++ b1 (match e.direction with | .operate => 0 | .reset => 1) ++ leBytes 6 e.time

/-- A sample record: 4 bytes and 3 for each of `k` capture lanes, zero when the readback is absent (R183). -/
def Sample.bytes (r : Sample) (k : Nat) : List Byte :=
  bBool r.readback.isSome ++ leBytes 2 r.inputs.toNat ++ b1 r.outputs.toNat ++
    ((r.readback.getD (List.replicate k 0)).flatMap (signed 3))

/-! ## Reply bodies (R183) -/

/-- A fault record: a presence byte, then kind, status and tag. -/
def faultBytes : Option FaultRecord → List Byte
  | none => leBytes 4 0
  | some f => b1 1 ++ [f.kind, f.status.code, f.tag]

/-- The notice flags in one byte, in the order of R179 from bit 0, a DESIGN CHOICE (notes/assumptions/25.md). -/
def Notices.bytes (n : Notices) : List Byte := b1 (presence [n.granted, n.ended, n.timeQuality, n.laneFault, n.linkFault])

/-- A priority and a max-wait. -/
def priorityBytes (p : Option Priority) : List Byte :=
  b1 (orZero (p.map fun p => p.priority)) ++ b1 (orZero (p.map fun p => p.maxWait))

/-- The supervision settings, as SET_SUPERVISION carries them (R183). -/
def SupSettings.bytes (x : SupSettings) : List Byte :=
  bBool x.enabled ++ leBytes 2 x.deviation ++ b1 x.missLimit ++ leBytes 2 x.rating ++ leBytes 2 x.heatLimit

/-- A row of a TABLE_STATUS reply (R16), the status coded as in `recHead`. -/
def TableRow.bytes (r : TableRow) : List Byte :=
  bBool r.loaded ++ b1 (holderCode r.holder) ++ b1 r.lock ++ (r.label.map (leBytes 2)).getD []

/-- A row of a QUEUE_STATUS reply (R38). -/
def QueueRow.bytes (r : QueueRow) : List Byte :=
  b1 r.ticket ++ b1 r.link.number.val ++ b1 r.start.val ++ b1 r.profile.val ++ b1 r.condition.code ++
    leBytes 2 r.laneUse.toNat ++ b1 r.passed ++ bBool r.aged ++ (r.cause.map Cause.bytes).getD (b1 0xFF ++ b1 0xFF)

/-- A lane's row of a SUPERVISION_STATUS reply (R132). -/
def SupRow.bytes (r : SupRow) : List Byte :=
  r.settings.bytes ++ b1 r.condition.code ++ b1 r.missRun ++ bBool r.supervised

/-- A heat row of a SUPERVISION_STATUS reply (R132). -/
def HeatRow.bytes (r : HeatRow) : List Byte := leBytes 8 r.account ++ leBytes 8 r.half ++ bBool r.above

/-- What a REPORT_STATUS row gives of a COMPLETE slot, 12 bytes (R147). -/
def CompleteRow.bytes (r : CompleteRow) : List Byte :=
  b1 (orZero (r.endReason.map EndReason.code)) ++ b1 ((r.endReason.bind EndReason.lane).map Fin.val |>.getD 0xFF) ++
    b1 r.mode.code ++ leBytes 2 r.pass ++ leBytes 2 r.fail ++ leBytes 2 r.notMeasured ++ leBytes 2 r.void ++
    b1 r.waiting.toNat

/-- A row of a REPORT_STATUS reply (R147): the slot's state, which says which of the optional fields stand, and the fields in
full (R183). The codes EMPTY 0, BUILDING 1 and COMPLETE 2 are a DESIGN CHOICE (notes/assumptions/25.md). -/
def SlotRow.bytes : SlotRow → List Byte
  | .empty => b1 0 ++ leBytes 16 0
  | .building serial ticket l => b1 1 ++ leBytes 2 serial ++ b1 ticket ++ b1 l.number.val ++ leBytes 12 0
  | .complete serial ticket l r =>
    b1 2 ++ leBytes 2 serial ++ b1 ticket ++ b1 l.number.val ++ r.bytes

/-- The heat account and half limit of a SET_SUPERVISION reply: a presence byte, and zeros for a voltage lane (R117, R183). -/
def heatBytes (h : Option (Nat × Nat)) : List Byte :=
  bBool h.isSome ++ leBytes 8 (orZero (h.map Prod.fst)) ++ leBytes 8 (orZero (h.map Prod.snd))

/-- The list a CONFLICT names (R25): exits 0 and assessments 1, a DESIGN CHOICE (notes/assumptions/25.md). -/
def EntryList.code : EntryList → Nat
  | .exits => 0
  | .assessments => 1

/-- The bytes of a reply body: the items the owning rule lists, in that order (R183). Where R183 gives an item no width or code
they are a DESIGN CHOICE (notes/assumptions/25.md). So is the absent trigger index of the READ_CAPTURE reply head, sent as 0 with
bit 0 of the presence byte clear, the tick offset there of a reply without records, sent as 0, and the index byte of the profile in
a READ_PROFILE reply, to which R183 gives no layout (R15). -/
def ReplyBody.bytes : ReplyBody → List Byte
  | .empty => []
  | .fieldRef r => r.bytes
  | .index i => b1 i
  | .conflict i list slot => b1 i.val ++ b1 list.code ++ b1 slot
  | .quality q => b1 q.code
  | .notices n ready f => n.bytes ++ bBool ready ++ faultBytes f
  | .fault f => faultBytes f
  | .loaded i l n => b1 i ++ b1 l.number.val ++ b1 n
  | .stateRecord i r => recHead r ++ r.entry.bytes i.val
  | .profileRecord i r => recHead r ++ r.profile.bytes i.val
  | .tableStatus rows => rows.flatMap TableRow.bytes
  | .submitted t m r => b1 t ++ leBytes 2 m.toNat ++ leBytes 8 r.toNat
  | .removed t => b1 t ++ bBool true
  | .aborted t e r => b1 t ++ b1 e.code ++ b1 r.code ++ b1 (r.lane.map Fin.val |>.getD 0xFF)
  | .priority p c1 c2 => priorityBytes (some p) ++ bBool c1 ++ bBool c2
  | .queueStatus o p1 p2 rows =>
    (match o with
      | none => leBytes 4 0
      | some (t, l, e) => b1 1 ++ b1 t ++ b1 l.number.val ++ b1 e.code) ++
      priorityBytes p1 ++ priorityBytes p2 ++ rows.flatMap QueueRow.bytes
  | .started t serial => b1 t ++ leBytes 2 serial
  | .stepped v i => b1 v ++ b1 i.val
  | .adjusted i n c e ec v => b1 i.val ++ signed 2 n ++ bBool c ++ leBytes 2 e ++ bBool ec ++ b1 v
  | .supervision i x h =>
    b1 i.val ++ x.bytes ++ heatBytes h
  | .declared i c e => b1 i.val ++ b1 c.code ++ bBool e
  | .cleared i c => b1 i.val ++ b1 c.code
  | .override a b c => bBool a ++ bBool b ++ bBool c
  | .supervisionStatus a b lanes heats f =>
    bBool a ++ bBool b ++ lanes.flatMap SupRow.bytes ++ heats.flatMap HeatRow.bytes ++ f.flatMap (signed 3)
  | .subscribed on t c m => bBool on ++ b1 t ++ bBool c ++ leBytes 2 m.toNat
  | .reportStatus rows on t n ready => rows.flatMap SlotRow.bytes ++ bBool on ++ b1 t ++ b1 n ++ bBool ready
  | .header h => leBytes 2 h.serial ++ h.bytes
  | .visit serial v => leBytes 2 serial ++ v.bytes
  | .results serial rs => leBytes 2 serial ++ b1 rs.length ++ rs.flatMap Result.bytes
  | .timeline serial es => leBytes 2 serial ++ b1 es.length ++ es.flatMap TimelineEvent.bytes
  | .retired k serial w e => b1 k.val ++ leBytes 2 serial ++ b1 w.toNat ++ bBool e
  | .capture h k serial count trigger lanes rs =>
    b1 h.code ++ b1 k.val ++ leBytes 2 serial ++ leBytes 2 count ++ leBytes 2 (orZero trigger) ++ bBool trigger.isSome ++
      leBytes 2 lanes.toNat ++ leBytes 6 (orZero (rs.head?.map fun r => r.offset)) ++ b1 rs.length ++
      rs.flatMap fun r => r.bytes (members lanes).length
  | .discipline on q => bBool on ++ b1 q.code
  | .timeStatus c anchor fixed on q n reference deviation expiry =>
    leBytes 6 c.toNat ++ b1 anchor ++ bBool fixed ++ bBool on ++ b1 q.code ++ b1 n ++
      bBool reference.isSome ++ leBytes 6 (orZero (reference.map BitVec.toNat)) ++
      bBool deviation.isSome ++ signed 4 (deviation.getD 0) ++
      bBool expiry.isSome ++ leBytes 6 (orZero (expiry.map BitVec.toNat))

/-! ## The reply frame and the bytes clocked out (R175, R183) -/

/-- The sync byte of a reply frame (R183). -/
def syncReply : Byte := 0x5A

/-- The reply frame: sync, kind and tag echoed, status, length, body, and the CRC over the kind byte through the last body
byte (R176, R183). -/
def Reply.frame (r : Reply) : List Byte :=
  let covered := [r.kind, r.tag, r.status.code] ++ leBytes 2 r.body.bytes.length ++ r.body.bytes
  [syncReply] ++ covered ++ leBytes 2 (crc covered).toNat

/-- The byte a link clocks out beside byte `n` of a transaction: its pending reply frame from the first byte, and 0x00 after
it or with no reply pending (R175). -/
def State.clockedOut (s : State) (l : Link) (n : Nat) : Byte :=
  match (s.link l).reply with
  | none => 0x00
  | some r => r.frame.getD n 0x00

end Sys2Proof.Machine
end

