-- ==== Sys2Proof/Machine/Schedule.lean ====
section
/-! DEFINITION. The passing of time: the events that are due at the present microsecond when no command waits, the end of a
microsecond, and CLOCK_WRAP (R163, R164). -/

namespace Sys2Proof.Machine

/-- The granted shot starts at this microsecond's tick (R45). -/
def State.startDue (s : State) : Bool :=
  s.engineDue &&
    match s.engine with
    | .armed _ (some c) => c != s.now
    | _ => false

/-- An enabled input with no episode whose raw level differs from its accepted level (R88). -/
def State.rawDue (s : State) (i : Fin 16) : Bool := s.contacts[i] != (s.contacts[i]).begin s.now

/-- An episode that ends at this microsecond's sample (R88). -/
def State.episodeDue (s : State) (i : Fin 16) : Bool := ((s.contacts[i]).ends s.now).isSome

/-- A simulator's timer runs out at this microsecond, in RUNNING (R102). -/
def State.moveDue (s : State) (k : Fin 4) : Bool :=
  s.engine.isRunning &&
    match (s.breakers[k]).timer with
    | some (due, _) => due == s.now
    | none => false

/-- A grant is possible (R31). -/
def State.grantDue (s : State) : Bool := s.choice.isSome

/-- The first event due at this microsecond: the sample of INHIBIT, a shot's start, the contact samples, the expiry of the
quality, ended episodes, completed moves, the tick, the closing of a visit, the teardown, a grant; of one kind, the input or simulator
with the lower number first. DESIGN CHOICE (notes/assumptions/1.md, notes/assumptions/39.md, notes/assumptions/40.md). -/
def State.dueWork (s : State) : Option Instr :=
  if s.sup.pin && !s.sup.inhibit then some .inhibitAssert
  else if s.sup.inhibit && !s.sup.pin then some .inhibitDeassert
  else if s.startDue then some .shotStart
  else if let some i := lowest s.rawDue then some (.contactRawEdge i (s.contacts[i]).pin)
  else if s.expiryDue then some .qualityExpiry
  else if let some i := lowest s.episodeDue then some (.episodeEnd i)
  else if let some k := lowest s.moveDue then some (.moveComplete k)
  else if s.tickDue then some .sampleTick
  else if s.visitDue.isSome then some .visitClose
  else if s.teardownDue.isSome then some .teardown
  else if s.grantDue then some .grant
  else none

/-- The last microsecond before the clock wraps (R163). -/
def State.atWrap (s : State) : Bool := s.now == BitVec.allOnes 48

/-- The tick anchor in the microsecond after the present one: at the wrap the grid runs on (R164). -/
def State.anchorNext (s : State) : Nat :=
  if s.atWrap then (s.clock.anchor + 44) % Config.tickPeriod else s.clock.anchor

/-- The end of a microsecond: the clock advances by one (R163), and this microsecond's samples become the previous ones (R44,
R88, R165). -/
def State.advance (s : State) : State :=
  { s with
    clock := { s.clock with clock := s.clock.clock + 1, anchor := s.anchorNext, markPrev := some s.clock.markNow,
                            markNow := false },
    trig := { prev := some s.trig.now, now := false },
    contacts := Vector.ofFn fun i => { s.contacts[i] with prevRaw := some (s.contacts[i]).pin },
    tick := { TickWork.none with previous := s.tick.previous } }

/-- CLOCK_WRAP (R163, R164): the clock goes from 2⁴⁸ − 1 to 0, once the last microsecond's work is done. -/
def execClockWrap (s : State) : Host.Outcome State Fault Refusal :=
  .next (if s.atWrap && s.dueWork.isNone then s.advance else s)

/-- What is due when no command waits, the wrap of the clock last; none lets the microsecond end. -/
def State.dueEvent (s : State) : Option Instr :=
  match s.dueWork with
  | some c => some c
  | none => if s.atWrap then some .clockWrap else none

end Sys2Proof.Machine
end

