-- ==== Sys2Proof/Machine/Dispatch.lean ====
section
/-! DEFINITION. The dispatch of a command to its meaning: one arm per constructor of `Instr`. -/

namespace Sys2Proof.Machine

def exec (i : Instr) (s : State) : Host.Outcome State Fault Refusal :=
  match i with
  | .powerOnReset => Sys2Proof.Machine.execPowerOnReset s
  | .badFrame l bytes => Sys2Proof.Machine.execBadFrame l bytes s
  | .nop l tag => Sys2Proof.Machine.execNop l tag s
  | .peekNotices l tag => Sys2Proof.Machine.execPeekNotices l tag s
  | .takeNotices l tag => Sys2Proof.Machine.execTakeNotices l tag s
  | .clearFault l tag => Sys2Proof.Machine.execClearFault l tag s
  | .linkReset l tag => Sys2Proof.Machine.execLinkReset l tag s
  | .loadState l tag body => Sys2Proof.Machine.execLoadState l tag body s
  | .loadProfile l tag body => Sys2Proof.Machine.execLoadProfile l tag body s
  | .freeState l tag index => Sys2Proof.Machine.execFreeState l tag index s
  | .freeProfile l tag index => Sys2Proof.Machine.execFreeProfile l tag index s
  | .readState l tag index => Sys2Proof.Machine.execReadState l tag index s
  | .readProfile l tag index => Sys2Proof.Machine.execReadProfile l tag index s
  | .tableStatus l tag => Sys2Proof.Machine.execTableStatus l tag s
  | .submitShot l tag start profile condition mode adjust capture trigMask preCount capLanes => Sys2Proof.Machine.execSubmitShot l tag start profile condition mode adjust capture trigMask preCount capLanes s
  | .abort l tag ticket => Sys2Proof.Machine.execAbort l tag ticket s
  | .setLinkPriority l tag priority maxWait => Sys2Proof.Machine.execSetLinkPriority l tag priority maxWait s
  | .queueStatus l tag => Sys2Proof.Machine.execQueueStatus l tag s
  | .grant => Sys2Proof.Machine.execGrant s
  | .go l tag => Sys2Proof.Machine.execGo l tag s
  | .panelStep l tag => Sys2Proof.Machine.execPanelStep l tag s
  | .adjust l tag lane delta => Sys2Proof.Machine.execAdjust l tag lane delta s
  | .setSupervision l tag lane enabled deviation missLimit rating heatLimit => Sys2Proof.Machine.execSetSupervision l tag lane enabled deviation missLimit rating heatLimit s
  | .declareLaneFault l tag lane => Sys2Proof.Machine.execDeclareLaneFault l tag lane s
  | .clearLaneFault l tag lane => Sys2Proof.Machine.execClearLaneFault l tag lane s
  | .setOverride l tag action => Sys2Proof.Machine.execSetOverride l tag action s
  | .supervisionStatus l tag => Sys2Proof.Machine.execSupervisionStatus l tag s
  | .subscribe l tag subscription threshold => Sys2Proof.Machine.execSubscribe l tag subscription threshold s
  | .reportStatus l tag => Sys2Proof.Machine.execReportStatus l tag s
  | .readReport l tag slot serial part visit first count => Sys2Proof.Machine.execReadReport l tag slot serial part visit first count s
  | .retireReport l tag slot serial => Sys2Proof.Machine.execRetireReport l tag slot serial s
  | .readCapture l tag half first count => Sys2Proof.Machine.execReadCapture l tag half first count s
  | .setDiscipline l tag setting => Sys2Proof.Machine.execSetDiscipline l tag setting s
  | .timeStatus l tag => Sys2Proof.Machine.execTimeStatus l tag s
  | .trigEdge => Sys2Proof.Machine.execTrigEdge s
  | .mark => Sys2Proof.Machine.execMark s
  | .qualityExpiry => Sys2Proof.Machine.execQualityExpiry s
  | .clockWrap => Sys2Proof.Machine.execClockWrap s
  | .inhibitAssert => Sys2Proof.Machine.execInhibitAssert s
  | .inhibitDeassert => Sys2Proof.Machine.execInhibitDeassert s
  | .contactRawEdge input level => Sys2Proof.Machine.execContactRawEdge input level s
  | .episodeEnd input => Sys2Proof.Machine.execEpisodeEnd input s
  | .moveComplete k => Sys2Proof.Machine.execMoveComplete k s
  | .readbackFrame frame => Sys2Proof.Machine.execReadbackFrame frame s
  | .sampleTick => Sys2Proof.Machine.execSampleTick s
  | .timeExit => Sys2Proof.Machine.execTimeExit s
  | .deferralEnd => Sys2Proof.Machine.execDeferralEnd s
  | .shotStart => Sys2Proof.Machine.execShotStart s
  | .shotEnd => Sys2Proof.Machine.execShotEnd s
  | .visitClose => Sys2Proof.Machine.execVisitClose s
  | .teardown => Sys2Proof.Machine.execTeardown s
  | .deviationFault lane => Sys2Proof.Machine.execDeviationFault lane s
  | .cutTakesEffect lane => Sys2Proof.Machine.execCutTakesEffect lane s
  | .cutLimit lane => Sys2Proof.Machine.execCutLimit lane s
  | .reenergise lane => Sys2Proof.Machine.execReenergise lane s

end Sys2Proof.Machine
end

