-- ==== Sys2Proof/Machine/Step.lean ====
section
/-! DEFINITION. One step of the part: the command at the front of the queue is taken, and with no command waiting the part
does what is due, or lets the microsecond end. -/

namespace Sys2Proof.Machine

/-- A state with an empty queue idles: an event that is due at this microsecond takes place, and with none due the clock
advances by one microsecond (R163). DESIGN CHOICE: the tick of the clock has no command of its own
(notes/assumptions/1.md). -/
def State.idle (s : State) : Host.Outcome State Fault Refusal :=
  match s.dueEvent with
  | some c => exec c s
  | none => .next s.advance

/-- One step: the command at the front of the queue is executed with the rest of the queue left. -/
def step (s : State) : Host.Outcome State Fault Refusal :=
  match s.pending with
  | c :: rest => exec c { s with pending := rest }
  | [] => s.idle

/-- The state with the command a word of the opcode table spells put at the front of its queue; the table gives no row bits, so
no word spells one. -/
def State.withFetchWord (s : State) (nbits w : Nat) : State :=
  match decodeTableWord nbits w with
  | some c => { s with pending := c :: s.pending }
  | none => s

end Sys2Proof.Machine
end

