-- ==== Sys2Proof/Safety.lean ====
section
/-! DEFINITION. What a sound state of the part is, in the terms the statements use: lock counts, orphans, reachable sets,
report slots, capture halves, INHIBIT, contact inputs, simulators, lanes, ranges, legal records. Also the link a request
comes from and the frame that carries it. -/

namespace Sys2Proof.Machine

/-! ## Requests and the frames that carry them (R175, R177, R183) -/

/-- The kind, tag and body of the request frame that carries a command; none for a command that is not a request. -/
def frameParts : Instr → Option (Link × Kind × Byte × List Byte)
  | .nop l tag => some (l, .nop, tag, [])
  | .peekNotices l tag => some (l, .peekNotices, tag, [])
  | .takeNotices l tag => some (l, .takeNotices, tag, [])
  | .clearFault l tag => some (l, .clearFault, tag, [])
  | .linkReset l tag => some (l, .linkReset, tag, [])
  | .loadState l tag body => some (l, .loadState, tag, body)
  | .loadProfile l tag body => some (l, .loadProfile, tag, body)
  | .freeState l tag index => some (l, .freeState, tag, [index])
  | .freeProfile l tag index => some (l, .freeProfile, tag, [index])
  | .readState l tag index => some (l, .readState, tag, [index])
  | .readProfile l tag index => some (l, .readProfile, tag, [index])
  | .tableStatus l tag => some (l, .tableStatus, tag, [])
  | .submitShot l tag start profile condition mode adjust capture trigMask preCount capLanes =>
    some (l, .submitShot, tag, [start, profile, condition, mode, adjust, capture] ++ halfBytes trigMask ++
      halfBytes preCount ++ halfBytes capLanes)
  | .abort l tag ticket => some (l, .abort, tag, [ticket])
  | .setLinkPriority l tag priority maxWait => some (l, .setLinkPriority, tag, [priority, maxWait])
  | .queueStatus l tag => some (l, .queueStatus, tag, [])
  | .go l tag => some (l, .go, tag, [])
  | .panelStep l tag => some (l, .step, tag, [])
  | .adjust l tag lane delta => some (l, .adjust, tag, [lane, delta])
  | .setSupervision l tag lane enabled deviation missLimit rating heatLimit =>
    some (l, .setSupervision, tag, [lane, enabled] ++ halfBytes deviation ++ [missLimit] ++ halfBytes rating ++
      halfBytes heatLimit)
  | .declareLaneFault l tag lane => some (l, .declareLaneFault, tag, [lane])
  | .clearLaneFault l tag lane => some (l, .clearLaneFault, tag, [lane])
  | .setOverride l tag action => some (l, .setOverride, tag, [action])
  | .supervisionStatus l tag => some (l, .supervisionStatus, tag, [])
  | .subscribe l tag subscription threshold => some (l, .subscribe, tag, [subscription, threshold])
  | .reportStatus l tag => some (l, .reportStatus, tag, [])
  | .readReport l tag slot serial part visit first count =>
    some (l, .readReport, tag, [slot] ++ halfBytes serial ++ [part, visit] ++ halfBytes first ++ [count])
  | .retireReport l tag slot serial => some (l, .retireReport, tag, [slot] ++ halfBytes serial)
  | .readCapture l tag half first count => some (l, .readCapture, tag, [half] ++ halfBytes first ++ [count])
  | .setDiscipline l tag setting => some (l, .setDiscipline, tag, [setting])
  | .timeStatus l tag => some (l, .timeStatus, tag, [])
  | .powerOnReset => none
  | .badFrame _ _ => none
  | .grant => none
  | .trigEdge => none
  | .mark => none
  | .qualityExpiry => none
  | .clockWrap => none
  | .inhibitAssert => none
  | .inhibitDeassert => none
  | .contactRawEdge _ _ => none
  | .episodeEnd _ => none
  | .moveComplete _ => none
  | .readbackFrame _ => none
  | .sampleTick => none
  | .timeExit => none
  | .deferralEnd => none
  | .shotStart => none
  | .shotEnd => none
  | .visitClose => none
  | .teardown => none
  | .deviationFault _ => none
  | .cutTakesEffect _ => none
  | .cutLimit _ => none
  | .reenergise _ => none

/-- The OK reply to a request of kind `k` (R175, R177). -/
def okReply (k : Kind) (tag : Byte) (b : ReplyBody) : Reply := { kind := k.code, tag := tag, status := .ok, body := b }

/-! ## Records and their locks (R1 to R8) -/

/-- The shot requests that lock records: the queued ones and the granted one until its teardown (R2). -/
def State.requests (s : State) : List Request := s.queue.requests ++ (s.engine.shot?.map Shot.req).toList

/-- The lock count of every record is the number of requests whose reachable set or profile includes it (R2). -/
abbrev State.LocksCounted (s : State) : Prop :=
  (∀ i : Fin 64, (s.tables.states[i]).lock = s.requests.countP fun r => has r.reach i) ∧
    ∀ i : Fin 4, (s.tables.profiles[i]).lock = s.requests.countP fun r => r.profile == i

/-- An orphan with lock count 0: R3 lets none stand. -/
def Rec.isLooseOrphan {α : Type} : Rec α → Bool
  | .loaded none 0 _ => true
  | _ => false

/-- No orphan has lock count 0 (R3). -/
abbrev State.OrphansLocked (s : State) : Prop :=
  (∀ i : Fin 64, (s.tables.states[i]).isLooseOrphan = false) ∧ ∀ i : Fin 4, (s.tables.profiles[i]).isLooseOrphan = false

/-- An exit of a state leads to another state (R24). -/
def State.leads (s : State) (a b : Fin 64) : Prop := ∃ e ∈ (s.entry a).exits, e.target = .state b

/-- A request's reachable set holds its start state and, with a state, every state its exits lead to (R24). -/
def State.ReachClosed (s : State) (r : Request) : Prop :=
  has r.reach r.start = true ∧ ∀ a b : Fin 64, has r.reach a = true → s.leads a b → has r.reach b = true

/-- The running shot is in a state of its reachable set, and a deferral leads to one (R24, R51, R56). -/
def Engine.InReach : Engine → Prop
  | .running sh run =>
    has sh.req.reach run.inForce = true ∧ ∀ d ∈ run.deferral, has sh.req.reach d.target = true
  | _ => True

/-- Every request's reachable set stays closed under the exits stored in the table, and the shot stays within its own. -/
def State.StaysInReach (s : State) : Prop := (∀ r ∈ s.requests, s.ReachClosed r) ∧ s.engine.InReach

/-- The fields of a lane setting of lane `i` are in range (R5). -/
def LaneSetting.Legal (x : LaneSetting) (i : Fin 12) : Prop :=
  x.rms ≤ Config.laneMax i ∧ x.angle ≤ 35999 ∧ x.freq ≤ 1000000 ∧ x.tau ≤ 1000

/-- The parameters of an exit are in range (R7). -/
def ExitKind.Legal : ExitKind → Prop
  | .time limit => 50 ≤ limit ∧ limit ≤ 600000000
  | .inputLevel mask _ => mask ≠ 0
  | .inputEdge mask => mask ≠ 0
  | _ => True

/-- The bounds of an assessment are in range, and in order where the compare mode reads both (R8). -/
def Assessment.Legal (a : Assessment) : Prop :=
  a.low ≤ 600000000 ∧ a.high ≤ 600000000 ∧ (a.mode = .inside ∨ a.mode = .outside → a.low ≤ a.high)

/-- A LOADED state entry is one that the checks of R4 to R8 let in. -/
def StateEntry.Legal (e : StateEntry) : Prop :=
  e.label ≤ 65535 ∧ (∀ i : Fin 12, (e.lanes[i]).Legal i) ∧ (∀ p ∈ e.pow, p.angle ≤ 35999) ∧
    1 ≤ e.exits.length ∧ e.exits.length ≤ 4 ∧ (∀ x ∈ e.exits, x.kind.Legal) ∧
    e.assessments.length ≤ 4 ∧ ∀ a ∈ e.assessments, a.Legal

/-- The fields of a breaker setting are in range, and an enabled simulator does not repeat an input or an output (R10). -/
def BreakerSetting.Legal (b : BreakerSetting) : Prop :=
  b.openTime ≤ 1000000 ∧ b.closeTime ≤ 1000000 ∧ 1 ≤ b.cutLimit ∧ b.cutLimit ≤ 400 ∧
    (b.enabled = true → (b.trip = none ∨ b.trip ≠ b.close) ∧ (b.aOut = none ∨ b.aOut ≠ b.bOut))

/-- A simulator is enabled and names an output (R10). -/
def BreakerSetting.claims (b : BreakerSetting) (o : Fin 8) : Prop := b.enabled = true ∧ (b.aOut = some o ∨ b.bOut = some o)

/-- A LOADED profile is one that the checks of R9 to R11 let in. -/
def Profile.Legal (p : Profile) : Prop :=
  (∀ i : Fin 16, (p.inputs[i]).debounce ≤ 20000) ∧ (∀ k : Fin 4, (p.breakers[k]).Legal) ∧
    (∀ j k : Fin 4, ∀ o : Fin 8, (p.breakers[j]).claims o → (p.breakers[k]).claims o → j = k) ∧
    ∀ i : Fin 12, p.steps[i] ≤ Config.laneMax i

/-- The contents of a LOADED record satisfy `P`. -/
def Rec.Holds {α : Type} (P : α → Prop) : Rec α → Prop
  | .free => True
  | .loaded _ _ x => P x

/-- Every LOADED record is legal (R4 to R11). -/
def State.RecordsLegal (s : State) : Prop :=
  (∀ i : Fin 64, (s.tables.states[i]).Holds StateEntry.Legal) ∧ ∀ i : Fin 4, (s.tables.profiles[i]).Holds Profile.Legal

/-! ## Grants, report slots and capture halves (R31, R134, R153) -/

/-- While the engine is IDLE no queued request is eligible: a grant is never put off (R31, R39). -/
def State.NoGrantWaits (s : State) : Prop :=
  s.engine = .idle → ∀ r ∈ s.queue.requests, s.cause r ≠ none

/-- A report slot is BUILDING exactly when it is the granted shot's, and its header then carries the shot's serial and ticket
(R33, R134). -/
def State.SlotsBound (s : State) : Prop :=
  (∀ (k : Fin 16) (r : Report), s.reports[k] = .building r →
    ∃ sh, s.engine.shot? = some sh ∧ sh.slot = k ∧ r.header.serial = sh.serial ∧ r.header.ticket = sh.req.ticket) ∧
  ∀ sh, s.engine.shot? = some sh → ∃ r, s.reports[sh.slot] = .building r

/-- A COMPLETE report waits for at least one link (R134, R144, R150). -/
def State.CompletesWait (s : State) : Prop := ∀ (k : Fin 16) (r : Report) (w : LinkSet), s.reports[k] = .complete r w → w ≠ 0

/-- A capture half is FILLING exactly when it is the granted shot's, and a HELD half is bound to a COMPLETE report with its
serial (R153, R154, R160). -/
def State.HalvesBound (s : State) : Prop :=
  (∀ h : HalfId, (s.captures.get h).state = .filling ↔ ∃ sh, s.engine.shot? = some sh ∧ sh.half = some h) ∧
  ∀ (h : HalfId) (k : Fin 16) (serial : Nat), (s.captures.get h).state = .held k serial →
    ∃ r w, s.reports[k] = .complete r w ∧ r.header.serial = serial

/-- A capture half keeps to its capacity: its pre-trigger count is at most 2,048 (R21), it holds at most 8,192 records and
has room while it is in POST_TRIGGER (R156), and the trigger record is held at an index up to the pre-trigger count (R158). -/
def Half.Sound (h : Half) : Prop :=
  h.preCount ≤ 2048 ∧ h.records.length ≤ 8192 ∧ (h.phase = .postTrigger → h.records.length < 8192) ∧
    ∀ n ∈ h.trigger, n ≤ h.preCount ∧ n < h.records.length

/-- The halves keep to their capacity, and every queued request to the largest pre-trigger count (R21, R156, R158). -/
def State.CapturesSound (s : State) : Prop :=
  (∀ r ∈ s.queue.requests, r.preCount ≤ 2048) ∧ ∀ h : HalfId, (s.captures.get h).Sound

/-! ## INHIBIT, contact inputs, simulators and lanes -/

/-- With INHIBIT asserted, a shot that is ARMED uses no lane and the override is set, and so it is for a RUNNING shot unless
its end is pending (R30 condition 5, R128, R131). -/
def State.InhibitHolds (s : State) : Prop :=
  s.sup.inhibit = true →
    match s.engine with
    | .armed sh _ => s.sup.override = true ∧ sh.req.laneUse = 0
    | .running sh run => run.pendingEnd ≠ none ∨ (s.sup.override = true ∧ sh.req.laneUse = 0)
    | _ => True

/-- A disabled contact input has no episode and stands at its inactive level (R87, R88). -/
def Contact.Rests (c : Contact) : Prop :=
  c.setting.enabled = false → c.episode = none ∧ c.accepted = c.setting.inactive

/-- A simulator's timer leads where its position is moving, and outside RUNNING it has no timer (R102, R114). -/
def Simulator.TimerFits (running : Bool) (b : Simulator) : Prop :=
  if running then
    ((∃ due, b.timer = some (due, .opened)) ↔ b.position = .opening) ∧
      ((∃ due, b.timer = some (due, .closed)) ↔ b.position = .closing)
  else b.timer = none

/-- The contact inputs and simulators are as their units keep them. -/
def State.UnitsSound (s : State) : Prop :=
  (∀ i : Fin 16, (s.contacts[i]).Rests) ∧ ∀ k : Fin 4, (s.breakers[k]).TimerFits s.engine.isRunning

/-- The stages of a tick come in their order: where the engine's work at this microsecond's tick is done, the tick has been opened
(notes/assumptions/6.md). -/
abbrev State.StagesInOrder (s : State) : Prop := s.tick.engine = true → s.tick.opened = true

/-- The lanes are as the Synthesizer keeps them: a CUT lane has residue 0 (R76), no re-energising request waits at a LIVE lane
(R80), the adjust step counts lie within ±4,095 (R82), a residue within ±131,072 × FS (R74), a code within ±32,767 (R78) and a
commanded value within ±FS (R78). -/
def State.LanesSound (s : State) : Prop :=
  ∀ i : Fin 12,
    ((s.synth.lanes[i]).cut = .cut → (s.synth.lanes[i]).residue = 0) ∧
    ((s.synth.lanes[i]).cut = .live → (s.synth.lanes[i]).reenergise = none) ∧
    (s.synth.lanes[i]).adjust.natAbs ≤ 4095 ∧
    (s.synth.lanes[i]).residue.natAbs ≤ 131072 * Config.fullScale i ∧
    (s.synth.codes[i]).natAbs ≤ 32767 ∧
    (s.synth.commanded[i]).natAbs ≤ Config.fullScale i

/-- The counters and stored settings lie in the ranges the manual gives them. -/
def State.InRange (s : State) : Prop :=
  s.clock.anchor < 50 ∧ s.queue.requests.length ≤ 8 ∧ s.queue.lastTicket ≤ 255 ∧ s.queue.lastSerial ≤ 65535 ∧
  (∀ r ∈ s.queue.requests, r.passed ≤ 15) ∧
  (∀ l : Link, 1 ≤ (s.link l).threshold ∧ (s.link l).threshold ≤ 16) ∧
  (∀ l : Link, ∀ p ∈ (s.link l).priority, p.priority ≤ 7 ∧ p.maxWait ≤ 15) ∧
  ∀ i : Fin 12, (s.sup.lanes[i]).missRun ≤ 255

end Sys2Proof.Machine
end

