-- ==== Sys2Proof/WellFormed.lean ====
section
/-! DEFINITION. Which commands are well formed: the operands whose type alone does not say that a frame can carry them.
A command that is not well formed still has a meaning (`exec` is total). -/

namespace Sys2Proof

/-- The operands of a command are such as R175 and R176 let through to the owning block: a judged transaction clocked in
at least one whole byte, a LOAD_STATE body is 10 to 1,024 bytes long, and a LOAD_PROFILE body is 161 bytes long. -/
def Instr.wellFormed : Instr → Bool
  | .badFrame _ bytes => bytes ≠ []
  | .loadState _ _ body => 10 ≤ body.length && body.length ≤ Config.maxBody
  | .loadProfile _ _ body => body.length = 161
  | _ => true

end Sys2Proof
end

