-- ==== Sys2Proof/Certificates/Slice0/Obligations.lean ====
section
/-! DEFINITION. The statements about the WFH-412, for the provers: one `def Obligations.<Name> : Prop` each. A statement of a
command's result is an equation for `exec`, so that it says what the command writes and that it writes nothing else. -/

open Sys2Proof Sys2Proof.Machine

/-! ## The queue of commands, reset -/

/-- The command at the front of the queue is executed with the rest of the queue left: how a run is made of commands. -/
def Obligations.StepRunsTheFrontCommand : Prop :=
  ∀ (c : Instr) (rest : List Instr) (s : State), s.pending = c :: rest → step s = exec c { s with pending := rest }

/-- With no command waiting, an event that is due takes place, and otherwise the clock advances by one microsecond (R163) and
this microsecond's samples become the previous ones (R44, R88, R165). The model's choice: notes/assumptions/1.md. -/
def Obligations.EmptyQueueLetsTimePass : Prop :=
  ∀ s : State, s.pending = [] →
    (∀ c, s.dueEvent = some c → step s = exec c s) ∧
    (s.dueEvent = none → ∃ t, step s = .next t ∧
      t.clock = { s.clock with clock := s.now + 1, markPrev := some s.clock.markNow, markNow := false } ∧
      t.trig = { prev := some s.trig.now, now := false } ∧
      (∀ i : Fin 16, t.contacts[i] = { s.contacts[i] with prevRaw := some (s.contacts[i]).pin }) ∧
      t.tick = { TickWork.none with previous := s.tick.previous } ∧
      t = { s with clock := t.clock, trig := t.trig, contacts := t.contacts, tick := t.tick })

/-- Every command answers a next state and leaves the queue as it found it: the part has no state in which a command stops it. The
queue of waiting commands is the model's own (notes/assumptions/5.md). -/
def Obligations.EveryCommandAnswers : Prop :=
  ∀ (c : Instr) (s : State), ∃ t, exec c s = .next t ∧ t.pending = s.pending

/-- The values the manual states for power-on reset: in the tables, the queue, the engine, the Synthesizer, the inputs and the
simulators (R1, R22, R28, R34, R43, R67, R85, R100, R109), and in the Output Supervision Unit, the Report Store, the Capture Memory,
the Test Clock and the links (R36, R116, R118, R121, R124, R127, R131, R134, R151, R153, R163, R164, R166, R174). That no
re-energising request waits at a lane is the model's choice (notes/assumptions/31.md). -/
def Obligations.ResetGivesTheStatedValues : Prop :=
  let s := State.reset
  (∀ i : Fin 64, s.tables.states[i] = .free) ∧ (∀ i : Fin 4, s.tables.profiles[i] = .free) ∧
  s.queue.requests = [] ∧ s.queue.lastTicket = 0 ∧ s.queue.lastSerial = 0 ∧ s.engine = .idle ∧
  (∀ i : Fin 12, s.synth.lanes[i] =
    { accum := 0, residue := 0, adjust := 0, cut := .live, prev := 0, reenergise := none }) ∧
  (∀ i : Fin 16, (s.contacts[i]).setting = { enabled := true, active := .closed, debounce := 1000 } ∧
    (s.contacts[i]).accepted = .opened ∧ (s.contacts[i]).episode = none ∧ (s.contacts[i]).prevRaw = none) ∧
  (∀ k : Fin 4, (s.breakers[k]).setting.enabled = false ∧ (s.breakers[k]).position = .opened ∧
    (s.breakers[k]).timer = none ∧ (s.breakers[k]).tripLatch = false ∧ (s.breakers[k]).closeLatch = false ∧
    (s.breakers[k]).interrupting = false) ∧
  s.outputs = 0 ∧
  (∀ i : Fin 12, s.sup.lanes[i] =
    { settings := { enabled := false, deviation := if i.val < 6 then 32000 else 30000, missLimit := 8,
                    rating := if i.val < 6 then 32000 else 0, heatLimit := if i.val < 6 then 10000 else 0 },
      condition := .ready, missRun := 0 }) ∧
  (∀ i : Fin 6, s.sup.heat[i] = 0) ∧ s.sup.inhibit = false ∧ s.sup.override = false ∧
  (∀ i : Fin 12, s.sup.lastFrame[i] = 0) ∧
  (∀ k : Fin 16, s.reports[k] = .empty) ∧
  (∀ h : HalfId, (s.captures.get h).state = .free ∧ (s.captures.get h).records = []) ∧
  s.now = 0 ∧ s.clock.anchor = 0 ∧ s.clock.discipline = false ∧ s.clock.quality = .disabled ∧
  s.clock.reference = none ∧ s.clock.count = 0 ∧ s.clock.deviation = none ∧
  (∀ l : Link, (s.link l).reply = none ∧ (s.link l).notices = .clear ∧ (s.link l).fault = none ∧
    (s.link l).threshold = 1 ∧ ((s.link l).subscribed = true ↔ l ≠ .supervision) ∧ s.attn l = false) ∧
  (s.link .plan).priority = some { priority := 4, maxWait := 3 } ∧
  (s.link .panel).priority = some { priority := 2, maxWait := 0 } ∧ (s.link .supervision).priority = none

/-- POWER_ON_RESET (R65) gives every item its reset value, whatever was in flight. The commands that wait and the levels that
stand on the input lines are not the part's own and stay: the model's choice, notes/assumptions/2.md. -/
def Obligations.PowerOnResetClearsThePart : Prop :=
  ∀ s : State, ∃ t, exec .powerOnReset s = .next t ∧
    (∀ i : Fin 16, t.contacts[i] = { State.reset.contacts[i] with pin := (s.contacts[i]).pin }) ∧
    t = { State.reset with pending := s.pending, contacts := t.contacts,
                           sup := { State.reset.sup with pin := s.sup.pin } }

/-! ## Links, frames and notices -/

/-- A reply, and a refusal with its fault record, reach the link's own items and nothing else: the first refusal since the record
was emptied is latched with LINK_FAULT, and a later one leaves the record and the flag as they are (R175, R178). -/
def Obligations.RefusalLatchesOnItsLinkOnly : Prop :=
  ∀ (s : State) (l : Link) (r : Reply) (kind tag : Byte) (d : Denial),
    (s.setReply l r = { s with links := (s.setReply l r).links } ∧
      (s.setReply l r).link l = { s.link l with reply := some r } ∧
      ∀ m, m ≠ l → (s.setReply l r).link m = s.link m) ∧
    (s.refuse l kind tag d = { s with links := (s.refuse l kind tag d).links } ∧
      (s.refuse l kind tag d).link l =
        { s.link l with
          reply := some { kind := kind, tag := tag, status := d.status, body := d.body },
          fault := some ((s.link l).fault.getD { kind := kind, status := d.status, tag := tag }),
          notices := if (s.link l).fault.isNone then { (s.link l).notices with linkFault := true }
                     else (s.link l).notices } ∧
      ∀ m, m ≠ l → (s.refuse l kind tag d).link m = s.link m)

/-- NOP, PEEK_NOTICES, TAKE_NOTICES and CLEAR_FAULT (R175, R178, R179): taken from every link, with the reply each gives; TAKE
clears four flags and CLEAR_FAULT the record with LINK_FAULT. The REPORT_READY that the notices show holds exactly while the number
of COMPLETE reports waiting for the link is at or above its threshold (R146), and ATTN is asserted exactly while one of the five
flags is set or REPORT_READY holds (R180). -/
def Obligations.LinkRequestsAreTaken : Prop :=
  ∀ (l : Link) (tag : Byte) (s : State),
    exec (.nop l tag) s = .next (s.setReply l (okReply .nop tag .empty)) ∧
    exec (.peekNotices l tag) s = .next (s.setReply l
      (okReply .peekNotices tag (.notices (s.link l).notices (s.reportReady l) (s.link l).fault))) ∧
    exec (.takeNotices l tag) s = .next (s.setLink l
      { s.link l with
        notices := { granted := false, ended := false, timeQuality := false, laneFault := false,
                     linkFault := (s.link l).notices.linkFault },
        reply := some (okReply .takeNotices tag
          (.notices (s.link l).notices (s.reportReady l) (s.link l).fault)) }) ∧
    exec (.clearFault l tag) s = .next (s.setLink l
      { s.link l with
        fault := none, notices := { (s.link l).notices with linkFault := false },
        reply := some (okReply .clearFault tag (.fault (s.link l).fault)) }) ∧
    (s.reportReady l = true ↔ (s.link l).threshold ≤ ((List.finRange 16).filter fun k => match s.reports[k] with
      | .complete _ w => has w l.number
      | _ => false).length) ∧
    let n := (s.link l).notices
    (s.attn l = true ↔ n.granted = true ∨ n.ended = true ∨ n.timeQuality = true ∨ n.laneFault = true ∨ n.linkFault = true ∨
      s.reportReady l = true)

/-- The frame checks of R176 in their order, each with its refusal; a transaction without a whole byte is not counted (R175). That
BAD_FRAME with bytes that pass every check runs the request they spell is the model's choice (notes/assumptions/19.md), and so is
the 0 that the fault record latches for a kind or tag byte that was not clocked in (notes/assumptions/47.md). -/
def Obligations.FramesAreCheckedInOrder : Prop :=
  ∀ (l : Link) (bytes : List Byte) (s : State),
    let n := frameLength bytes
    let refused (d : Denial) := exec (.badFrame l bytes) s = .next (s.refuse l (bytes.getD 1 0) (bytes.getD 2 0) d)
    if bytes = [] then exec (.badFrame l bytes) s = .next s
    else if bytes.length < 7 then refused .badFrame
    else if bytes.head? ≠ some 0xA5 then refused .badFrame
    else if 1024 < n then refused .badFrame
    else if bytes.length < 7 + n then refused .badFrame
    else if (crc ((bytes.drop 1).take (4 + n))).toNat ≠ field bytes (5 + n) 2 then refused .badFrame
    else match Kind.ofCode (bytes.getD 1 0) with
      | none => refused .badKind
      | some k =>
        if lengthFits k ((bytes.drop 5).take n) = false then refused (.badField { part := .bodyLength, field := 0 })
        else exec (.badFrame l bytes) s = runRequest l k (bytes.getD 2 0) ((bytes.drop 5).take n) s

/-- Frames and requests agree: the frame that carries a well-formed request, with any bytes clocked in after it (R175), passes
the seven checks and does what the request does, for every request and every operand (R176, R177, R183). And the records agree with
their bytes: the body that spells a legal state entry or profile passes the contents checks of R4 to R11 and reads back as it, every
field at every value (R183). That BAD_FRAME with bytes that pass every check runs the request they spell is the model's choice
(notes/assumptions/19.md). -/
def Obligations.FramesCarryEveryRequest : Prop :=
  (∀ (c : Instr) (l : Link) (k : Kind) (tag : Byte) (body rest : List Byte) (s : State),
    c.wellFormed = true → frameParts c = some (l, k, tag, body) →
      exec (.badFrame l (requestFrame k tag body ++ rest)) s = exec c s) ∧
  (∀ (e : StateEntry) (i : Fin 64), e.Legal →
    stateBad (e.bytes i.val) = none ∧ readState (e.bytes i.val) = e ∧ field (e.bytes i.val) 0 1 = i.val) ∧
  ∀ (p : Profile) (i : Fin 4), p.Legal →
    (p.bytes i.val).length = 161 ∧ profileBad (p.bytes i.val) = none ∧ readProfile (p.bytes i.val) = p ∧
      field (p.bytes i.val) 0 1 = i.val

/-- A request is refused, and then it has no effect but its link's own, or it is taken with an OK reply that echoes its kind and
tag (R175, R177, R178). -/
def Obligations.RequestsAreRefusedOrAnswered : Prop :=
  ∀ (c : Instr) (l : Link) (k : Kind) (tag : Byte) (body : List Byte) (s t : State),
    frameParts c = some (l, k, tag, body) → exec c s = .next t →
      (∃ d, t = s.refuse l k.code tag d) ∨ ∃ b, (t.link l).reply = some (okReply k tag b)

/-- A request of one link changes no other link's pending reply, fault record, priority, subscription or threshold, and clears
no notice of it (R174). -/
def Obligations.RequestsKeepOtherLinks : Prop :=
  ∀ (c : Instr) (l m : Link) (k : Kind) (tag : Byte) (body : List Byte) (s t : State),
    frameParts c = some (l, k, tag, body) → m ≠ l → exec c s = .next t →
      ∃ n : Notices, t.link m = { s.link m with notices := n } ∧
        ((s.link m).notices.granted = true → n.granted = true) ∧ ((s.link m).notices.ended = true → n.ended = true) ∧
        ((s.link m).notices.timeQuality = true → n.timeQuality = true) ∧
        ((s.link m).notices.laneFault = true → n.laneFault = true) ∧ n.linkFault = (s.link m).notices.linkFault

/-- LINK_RESET (R181). From the Plan or Panel link whose shot is not ARMED for GO: the link's own items, its queued requests and the
records it holds, and nothing else (R18, R41). A shot of the link that is ARMED for GO is ended with LINK_RESET (R62). From the
Supervision link the override is cleared besides, and the granted shot judged (R131). -/
def Obligations.LinkResetClearsTheLink : Prop :=
  (∀ (l : Link) (tag : Byte) (s : State), l ≠ .supervision →
     (∀ sh, s.engine = .armed sh none → sh.req.link = l → sh.req.condition ≠ .go) →
     ∃ t, exec (.linkReset l tag) s = .next t ∧
       t.link l = { s.link l with reply := some (okReply .linkReset tag .empty), notices := .clear, fault := none,
                                  priority := defaultPriority l } ∧
       (∀ m, m ≠ l → t.link m = s.link m) ∧
       t.queue = { s.queue with requests := s.queue.requests.filter fun r => r.link ≠ l } ∧
       t.tables = ((s.queue.requests.filter fun r => r.link = l).foldl Tables.releaseFor s.tables).linkReset l ∧
       t = { s with links := t.links, queue := t.queue, tables := t.tables }) ∧
  ((∀ (l : Link) (tag : Byte) (s : State) (sh : Shot), l ≠ .supervision → s.engine = .armed sh none → sh.req.link = l →
     sh.req.condition = .go →
       exec (.linkReset l tag) s = .next ((((((s.setLink l
         { s.link l with reply := none, notices := .clear, fault := none, priority := defaultPriority l }).removeQueuedOf
           l).resetRecords l).requestEnd .linkReset)).setReply l (okReply .linkReset tag .empty))) ∧
   ∀ (tag : Byte) (s : State), (∀ sh, s.engine = .armed sh none → sh.req.link ≠ .supervision) →
     ∃ u, exec (.linkReset .supervision tag) s = .next (u.setReply .supervision (okReply .linkReset tag .empty)) ∧
       let base := ((s.setLink .supervision
         { s.link .supervision with reply := none, notices := .clear, fault := none, priority := none }).removeQueuedOf
           .supervision).resetRecords .supervision
       let cleared : State := { base with sup := { base.sup with override := false } }
       u = if s.sup.override = true ∧ s.sup.inhibit = true then cleared.requestEnd .inhibited else cleared)

/-! ## Programme Tables -/

/-- LOAD_STATE and LOAD_PROFILE (R12): the role, index, ownership and contents checks in their order, and when all pass the whole
record is replaced, held by the link with lock count 0. A LOAD_STATE body shorter than 10 bytes, and a LOAD_PROFILE body that is not
161 bytes long, fails the frame's length check instead (R176). -/
def Obligations.LoadsCheckAndStore : Prop :=
  (∀ (l : Link) (tag : Byte) (body : List Byte) (s : State), 10 ≤ body.length →
     let refused (d : Denial) := exec (.loadState l tag body) s = .next (s.refuse l Kind.loadState.code tag d)
     if l = .supervision then refused .notPermitted
     else if h : field body 0 1 < 64 then
       let i : Fin 64 := ⟨field body 0 1, h⟩
       let taken :=
         match stateBad body with
         | some r => refused (.badField r)
         | none =>
           exec (.loadState l tag body) s = .next (({ s with tables := { s.tables with
             states := s.tables.states.set i (.loaded (some l) 0 (readState body)) } } : State).setReply l
               (okReply .loadState tag (.loaded i.val l 0)))
       match s.tables.states[i] with
       | .free => taken
       | .loaded holder lock _ =>
         if holder ≠ some l then refused .held else if lock ≠ 0 then refused .locked else taken
     else refused (.badField { part := .stateIndex, field := 0 })) ∧
  (∀ (l : Link) (tag : Byte) (body : List Byte) (s : State), body.length = 161 →
     let refused (d : Denial) := exec (.loadProfile l tag body) s = .next (s.refuse l Kind.loadProfile.code tag d)
     if l = .supervision then refused .notPermitted
     else if h : field body 0 1 < 4 then
       let i : Fin 4 := ⟨field body 0 1, h⟩
       let taken :=
         match profileBad body with
         | some r => refused (.badField r)
         | none =>
           exec (.loadProfile l tag body) s = .next (({ s with tables := { s.tables with
             profiles := s.tables.profiles.set i (.loaded (some l) 0 (readProfile body)) } } : State).setReply l
               (okReply .loadProfile tag (.loaded i.val l 0)))
       match s.tables.profiles[i] with
       | .free => taken
       | .loaded holder lock _ =>
         if holder ≠ some l then refused .held else if lock ≠ 0 then refused .locked else taken
     else refused (.badField { part := .profileIndex, field := 0 }))

/-- FREE_STATE and FREE_PROFILE (R14): the checks in their order, and when all pass the record is FREE. That an index out of range
is named as part 7, field 0 is the model's reading of R183 (notes/assumptions/21.md). -/
def Obligations.FreeChecksAndFrees : Prop :=
  ∀ (l : Link) (tag index : Byte) (s : State),
    (let refused (d : Denial) := exec (.freeState l tag index) s = .next (s.refuse l Kind.freeState.code tag d)
     if l = .supervision then refused .notPermitted
     else if h : index.toNat < 64 then
       let i : Fin 64 := ⟨index.toNat, h⟩
       match s.tables.states[i] with
       | .free => refused (.notLoaded i.val)
       | .loaded holder lock _ =>
         if holder ≠ some l then refused .held
         else if lock ≠ 0 then refused .locked
         else exec (.freeState l tag index) s = .next (({ s with tables := { s.tables with
           states := s.tables.states.set i .free } } : State).setReply l (okReply .freeState tag (.index i.val)))
     else refused (.badField { part := .request, field := 0 })) ∧
    (let refused (d : Denial) := exec (.freeProfile l tag index) s = .next (s.refuse l Kind.freeProfile.code tag d)
     if l = .supervision then refused .notPermitted
     else if h : index.toNat < 4 then
       let i : Fin 4 := ⟨index.toNat, h⟩
       match s.tables.profiles[i] with
       | .free => refused (.notLoaded i.val)
       | .loaded holder lock _ =>
         if holder ≠ some l then refused .held
         else if lock ≠ 0 then refused .locked
         else exec (.freeProfile l tag index) s = .next (({ s with tables := { s.tables with
           profiles := s.tables.profiles.set i .free } } : State).setReply l (okReply .freeProfile tag (.index i.val)))
     else refused (.badField { part := .request, field := 0 }))

/-- READ_STATE, READ_PROFILE and TABLE_STATUS (R15, R16): taken from any link, and they change nothing but the link's reply. That an
index out of range is named as part 7, field 0 is the model's reading of R183 (notes/assumptions/21.md). -/
def Obligations.TableReadsChangeNothing : Prop :=
  ∀ (l : Link) (tag index : Byte) (s : State),
    (∀ i : Fin 64, i.val = index.toNat → exec (.readState l tag index) s =
      .next (s.setReply l (okReply .readState tag (.stateRecord i s.tables.states[i])))) ∧
    (64 ≤ index.toNat → exec (.readState l tag index) s =
      .next (s.refuse l Kind.readState.code tag (.badField { part := .request, field := 0 }))) ∧
    (∀ i : Fin 4, i.val = index.toNat → exec (.readProfile l tag index) s =
      .next (s.setReply l (okReply .readProfile tag (.profileRecord i s.tables.profiles[i])))) ∧
    (4 ≤ index.toNat → exec (.readProfile l tag index) s =
      .next (s.refuse l Kind.readProfile.code tag (.badField { part := .request, field := 0 }))) ∧
    ∃ rows, exec (.tableStatus l tag) s = .next (s.setReply l (okReply .tableStatus tag (.tableStatus rows))) ∧
      rows.length = 68 ∧
      (∀ i : Fin 64, rows[i.val]? = some ((s.tables.states[i]).row (some (s.entry i).label))) ∧
      ∀ i : Fin 4, rows[64 + i.val]? = some ((s.tables.profiles[i]).row none)

/-- Every step keeps lock counts equal to the number of requests that use each record, and lets no orphan stand with lock count 0
(R2, R3). -/
def Obligations.StepsKeepLockCounts : Prop :=
  ∀ s t : State, s.LocksCounted → s.OrphansLocked → step s = .next t → t.LocksCounted ∧ t.OrphansLocked

/-- The lock counts of a request's records, its profile included, rise by one when it is taken (R26) and fall by one when it is
removed or torn down (R40, R64); an orphan that falls to lock count 0 becomes FREE in the same action (R3). Lock counts being right
before it, no command but power-on reset replaces the contents of a locked record (R2): it stays LOADED with them, for its holder
or, after a reset of the holder's link, as an orphan; it becomes FREE only where it is an orphan and no request that remains uses
it. And a link reset leaves the records as R18 states: one the link holds is FREE when no request of another link and no granted
shot uses it, and an orphan with the remaining lock count otherwise; one of another holder that the link's requests do not use stays
as it is. (A shot of the link that is ARMED for GO settles with its locks when its debounce horizon is above 0, R62, R63.) -/
def Obligations.LockedRecordsStand : Prop :=
  (∀ (t : Tables) (r : Request),
    (∀ i : Fin 64,
      (has r.reach i = false → (t.lockFor r).states[i] = t.states[i] ∧ (t.releaseFor r).states[i] = t.states[i]) ∧
      (has r.reach i = true → ∀ (h : Option Link) (n : Nat) (e : StateEntry),
        (t.states[i] = .loaded h n e → (t.lockFor r).states[i] = .loaded h (n + 1) e) ∧
        (t.states[i] = .loaded h (n + 1) e →
          (t.releaseFor r).states[i] = if h = none ∧ n = 0 then .free else .loaded h n e))) ∧
    ∀ i : Fin 4,
      (r.profile ≠ i → (t.lockFor r).profiles[i] = t.profiles[i] ∧ (t.releaseFor r).profiles[i] = t.profiles[i]) ∧
      (r.profile = i → ∀ (h : Option Link) (n : Nat) (p : Profile),
        (t.profiles[i] = .loaded h n p → (t.lockFor r).profiles[i] = .loaded h (n + 1) p) ∧
        (t.profiles[i] = .loaded h (n + 1) p →
          (t.releaseFor r).profiles[i] = if h = none ∧ n = 0 then .free else .loaded h n p))) ∧
  (∀ (c : Instr) (s t : State), c ≠ .powerOnReset → s.LocksCounted → exec c s = .next t →
    let resets (h : Option Link) : Prop := ∃ l, h = some l ∧ ((∃ tag, c = .linkReset l tag) ∨ ∃ bytes, c = .badFrame l bytes)
    (∀ (i : Fin 64) (h : Option Link) (n : Nat) (e : StateEntry), s.tables.states[i] = .loaded h (n + 1) e →
      (t.tables.states[i] = .free ∧ (h = none ∨ resets h) ∧ ∀ r ∈ t.requests, has r.reach i = false) ∨
      ∃ n', t.tables.states[i] = .loaded h n' e ∨ (resets h ∧ t.tables.states[i] = .loaded none n' e)) ∧
    ∀ (i : Fin 4) (h : Option Link) (n : Nat) (p : Profile), s.tables.profiles[i] = .loaded h (n + 1) p →
      (t.tables.profiles[i] = .free ∧ (h = none ∨ resets h) ∧ ∀ r ∈ t.requests, r.profile ≠ i) ∨
      ∃ n', t.tables.profiles[i] = .loaded h n' p ∨ (resets h ∧ t.tables.profiles[i] = .loaded none n' p)) ∧
  ∀ (l : Link) (tag : Byte) (s : State), s.LocksCounted → l ≠ .supervision →
    (∀ sh, s.engine = .armed sh none → sh.req.link = l → sh.req.condition = .go → (s.profile sh.req.profile).horizon ≠ 0) →
    ∃ t, exec (.linkReset l tag) s = .next t ∧
      let left := (s.queue.requests.filter fun r => r.link ≠ l) ++ (s.engine.shot?.map Shot.req).toList
      (∀ i : Fin 64,
        let uses := left.countP fun r => has r.reach i
        (∀ n e, s.tables.states[i] = .loaded (some l) n e →
          t.tables.states[i] = if uses = 0 then .free else .loaded none uses e) ∧
        ∀ h n e, s.tables.states[i] = .loaded h n e → h ≠ some l → uses = n → t.tables.states[i] = .loaded h n e) ∧
      ∀ i : Fin 4,
        let uses := left.countP fun r => r.profile == i
        (∀ n p, s.tables.profiles[i] = .loaded (some l) n p →
          t.tables.profiles[i] = if uses = 0 then .free else .loaded none uses p) ∧
        ∀ h n p, s.tables.profiles[i] = .loaded h n p → h ≠ some l → uses = n → t.tables.profiles[i] = .loaded h n p

/-- Every step keeps every LOADED record legal: what the checks of R4 to R11 let in is all a shot can ever read. -/
def Obligations.StepsKeepRecordsLegal : Prop :=
  ∀ s t : State, s.RecordsLegal → step s = .next t → t.RecordsLegal

/-! ## Shot requests, the queue and the arbiter -/

/-- A ticket issued is the first number after the last one issued, 255 followed by 1, that no queued request and no granted shot
has, when at most 254 are in use (R22 says at most 9). The lane-use mask of a request as it is taken holds the lanes that a
reachable state gives a nonzero magnitude, and with adjustment permitted the lanes whose step size is nonzero (R27). -/
def Obligations.SubmitDerivesTicketAndMask : Prop :=
  (∀ s : State, s.ticketsInUse.length ≤ 254 →
     ∃ k, s.freshTicket = ticketAfter^[k + 1] s.queue.lastTicket ∧
       (∀ j, j < k → ticketAfter^[j + 1] s.queue.lastTicket ∈ s.ticketsInUse) ∧
       s.freshTicket ∉ s.ticketsInUse ∧ 1 ≤ s.freshTicket ∧ s.freshTicket ≤ 255) ∧
  (∀ (s : State) (r : Request) (i : Fin 12),
     has (s.completeRequest r).laneUse i = true ↔
       (∃ n : Fin 64, has (s.reachable r.start) n = true ∧ ((s.entry n).lanes[i]).rms ≠ 0) ∨
         (r.adjust = true ∧ (s.profile r.profile).steps[i] ≠ 0))

/-- The reachable set of R24 is every state that some chain of exits leads to from the start state, the start state included; stage
5 of R23 examines it in ascending order, the first entry that is FREE or not the submitter's giving the refusal, and an entry the
submitter holds passing whatever its lock count; and stage 6 examines it in the same order (R25), within an entry its exits and then
its assessments in slot order, the first record that names an input or a simulator not enabled in the profile giving the refusal. -/
def Obligations.ReachableSetIsTheWalk : Prop :=
  ∀ (s : State) (start : Fin 64),
    (∀ i : Fin 64, has (s.reachable start) i = true ↔ Relation.ReflTransGen s.leads start i) ∧
    (∀ l : Link,
      ((∀ i : Fin 64, has (s.reachable start) i = true → ∃ n e, s.tables.states[i] = .loaded (some l) n e) →
        s.holderDenial l (s.reachable start) = none) ∧
      ∀ i : Fin 64, has (s.reachable start) i = true →
        (∀ j : Fin 64, j < i → has (s.reachable start) j = true → ∃ n e, s.tables.states[j] = .loaded (some l) n e) →
          (s.tables.states[i] = .free → s.holderDenial l (s.reachable start) = some (.notLoaded i.val)) ∧
          ∀ h n e, s.tables.states[i] = .loaded h n e → h ≠ some l →
            s.holderDenial l (s.reachable start) = some (.notHolder i.val)) ∧
    ∀ p : Profile,
      let off (i : Fin 16) : Prop := (p.inputs[i]).enabled = false
      let out (k : Fin 4) : Prop := (p.breakers[k]).enabled = false
      let exitFails (x : Exit) : Prop := match x.kind with
        | .inputLevel mask _ => ∃ i, has mask i = true ∧ off i
        | .inputEdge mask => ∃ i, has mask i = true ∧ off i
        | .breaker k _ => out k
        | _ => False
      let assessFails (a : Assessment) : Prop := match a.kind with
        | .operate i => off i
        | .reset i => off i
        | .noOperate i => off i
        | .breakerOpen k => out k
        | .breakerClose k => out k
      let passes (i : Fin 64) : Prop :=
        (∀ x ∈ (s.entry i).exits, ¬exitFails x) ∧ ∀ a ∈ (s.entry i).assessments, ¬assessFails a
      ((∀ i : Fin 64, has (s.reachable start) i = true → passes i) → s.conflictDenial (s.reachable start) p = none) ∧
      ∀ i : Fin 64, has (s.reachable start) i = true → (∀ j : Fin 64, j < i → has (s.reachable start) j = true → passes j) →
        (∀ n x, (s.entry i).exits[n]? = some x → exitFails x → (∀ y ∈ (s.entry i).exits.take n, ¬exitFails y) →
          s.conflictDenial (s.reachable start) p = some (.conflict i .exits n)) ∧
        ((∀ x ∈ (s.entry i).exits, ¬exitFails x) → ∀ n a, (s.entry i).assessments[n]? = some a → assessFails a →
          (∀ y ∈ (s.entry i).assessments.take n, ¬assessFails y) →
            s.conflictDenial (s.reachable start) p = some (.conflict i .assessments n))

/-- SUBMIT_SHOT that passes the seven stages of R23 is taken (R26): the request joins the tail with a fresh ticket, its reachable
set and its lane-use mask, the lock counts rise, and that is a moment for a grant (R31). -/
def Obligations.SubmitShotJoinsTheQueue : Prop :=
  ∀ (l : Link) (tag : Byte) (start : Fin 64) (profile : Fin 4) (condition : StartCondition) (mode : ReportMode)
    (adjust capture : Byte) (trigMask preCount capLanes : Half16) (s : State) (lock : Nat) (p : Profile),
    l ≠ .supervision → (capture ≠ 0 → preCount.toNat ≤ 2048 ∧ capLanes.toNat < 4096) →
    s.queue.requests.length < 8 → s.tables.profiles[profile] = .loaded (some l) lock p →
    (∀ i : Fin 64, has (s.reachable start) i = true → ∃ n e, s.tables.states[i] = .loaded (some l) n e ∧
      (∀ x ∈ e.exits, x.passes p = true) ∧ ∀ a ∈ e.assessments, a.passesProfile p = true) →
    (condition = .second → s.clock.quality ≠ .disabled ∧ s.clock.quality ≠ .free) →
      let r : Request :=
        { ticket := s.freshTicket, link := l, start := start, profile := profile, condition := condition, mode := mode,
          adjust := decide (adjust ≠ 0), capture := decide (capture ≠ 0),
          trigMask := if capture ≠ 0 then trigMask else 0, preCount := if capture ≠ 0 then preCount.toNat else 0,
          capLanes := if capture ≠ 0 then capLanes.setWidth 12 else 0, reach := s.reachable start,
          laneUse := s.laneUse (s.reachable start) p (decide (adjust ≠ 0)), passed := 0 }
      exec (.submitShot l tag (BitVec.ofNat 8 start.val) (BitVec.ofNat 8 profile.val)
          (BitVec.ofNat 8 condition.code) (BitVec.ofNat 8 mode.code) adjust capture trigMask preCount capLanes) s =
        .next ((({ s with
          tables := s.tables.lockFor r,
          queue := { s.queue with requests := s.queue.requests ++ [r], lastTicket := s.freshTicket } } :
            State).grantMoment).setReply l (okReply .submitShot tag (.submitted s.freshTicket r.laneUse r.reach)))

/-- The refusals of SUBMIT_SHOT in the order of R23: role, fields, room, profile, states, conflicts, time. -/
def Obligations.SubmitShotRefusals : Prop :=
  ∀ (l : Link) (tag start profile condition mode adjust capture : Byte) (trigMask preCount capLanes : Half16) (s : State),
    let refused (d : Denial) :=
      exec (.submitShot l tag start profile condition mode adjust capture trigMask preCount capLanes) s =
        .next (s.refuse l Kind.submitShot.code tag d)
    let field (n : Nat) : Denial := .badField { part := .request, field := n }
    if l = .supervision then refused .notPermitted
    else if 63 < start.toNat then refused (field 0)
    else if 3 < profile.toNat then refused (field 1)
    else if 3 < condition.toNat then refused (field 2)
    else if 2 < mode.toNat then refused (field 3)
    else if capture ≠ 0 ∧ 2048 < preCount.toNat then refused (field 7)
    else if capture ≠ 0 ∧ 4095 < capLanes.toNat then refused (field 8)
    else if 8 ≤ s.queue.requests.length then refused .queueFull
    else
      let p : Fin 4 := Fin.ofNat 4 profile.toNat
      let reach := s.reachable (Fin.ofNat 64 start.toNat)
      match s.tables.profiles[p] with
      | .free => refused (.notLoaded p.val)
      | .loaded h _ x =>
        if h ≠ some l then refused (.notHolder p.val)
        else match s.holderDenial l reach with
          | some d => refused d
          | none =>
            match s.conflictDenial reach x with
            | some d => refused d
            | none =>
              condition.toNat = 3 → (s.clock.quality = .disabled ∨ s.clock.quality = .free) →
                refused (.noTime s.clock.quality)

/-- ABORT (R40, R61). Of a queued request: refused NOT_PERMITTED to the Plan link for a request of the Panel link, and otherwise the
request leaves the queue with its locks, the others keeping their order and their passed-over counts. Of the granted shot, by its
ticket or by 0: its end is requested with the reason of the link, a reason already pending standing; refused NO_SHOT while SETTLING
and where the ticket names no shot. -/
def Obligations.AbortRemovesOrEnds : Prop :=
  (∀ (l : Link) (tag ticket : Byte) (s : State) (before after : List Request) (r : Request),
     s.queue.requests = before ++ r :: after → r.ticket = ticket.toNat → (∀ x ∈ before, x.ticket ≠ ticket.toNat) →
       (l = .plan → r.link = .panel →
         exec (.abort l tag ticket) s = .next (s.refuse l Kind.abort.code tag .notPermitted)) ∧
       (¬(l = .plan ∧ r.link = .panel) →
         exec (.abort l tag ticket) s = .next (({ s with
           queue := { s.queue with requests := before ++ after }, tables := s.tables.releaseFor r } : State).setReply l
             (okReply .abort tag (.removed r.ticket))))) ∧
  (∀ (l : Link) (tag ticket : Byte) (s : State), (∀ x ∈ s.queue.requests, x.ticket ≠ ticket.toNat) →
     let refused (d : Denial) := exec (.abort l tag ticket) s = .next (s.refuse l Kind.abort.code tag d)
     match s.engine with
     | .idle => refused .noShot
     | .settling _ _ _ => refused .noShot
     | .armed sh _ =>
       if ticket.toNat ≠ 0 ∧ ticket.toNat ≠ sh.req.ticket then refused .noShot
       else if l = .plan ∧ sh.req.link = .panel then refused .notPermitted
       else exec (.abort l tag ticket) s = .next ((s.requestEnd (.abort l)).setReply l
         (okReply .abort tag (.aborted sh.req.ticket .armed (.abort l))))
     | .running sh run =>
       if ticket.toNat ≠ 0 ∧ ticket.toNat ≠ sh.req.ticket then refused .noShot
       else if l = .plan ∧ sh.req.link = .panel then refused .notPermitted
       else exec (.abort l tag ticket) s =
         .next (({ s with engine := .running sh { run with pendingEnd := some (run.pendingEnd.getD (.abort l)) } } :
           State).setReply l (okReply .abort tag (.aborted sh.req.ticket .running (run.pendingEnd.getD (.abort l))))))

/-- SET_LINK_PRIORITY (R37): the link's own priority and max-wait, clamped to 7 and 15. QUEUE_STATUS (R38) shows the queue and
changes nothing. -/
def Obligations.LinkPriorityAndQueueStatus : Prop :=
  ∀ (l : Link) (tag priority maxWait : Byte) (s : State),
    (l = .supervision → exec (.setLinkPriority l tag priority maxWait) s =
      .next (s.refuse l Kind.setLinkPriority.code tag .notPermitted)) ∧
    (l ≠ .supervision →
      let p : Priority := { priority := min priority.toNat 7, maxWait := min maxWait.toNat 15 }
      exec (.setLinkPriority l tag priority maxWait) s = .next (s.setLink l
        { s.link l with priority := some p,
                        reply := some (okReply .setLinkPriority tag
                          (.priority p (decide (7 < priority.toNat)) (decide (15 < maxWait.toNat)))) })) ∧
    exec (.queueStatus l tag) s = .next (s.setReply l (okReply .queueStatus tag
      (.queueStatus (s.engine.shot?.map fun sh => (sh.req.ticket, sh.req.link, s.engine.name))
        (s.link .plan).priority (s.link .panel).priority
        (s.queue.requests.map fun r =>
          { ticket := r.ticket, link := r.link, start := r.start, profile := r.profile, condition := r.condition,
            laneUse := r.laneUse, passed := r.passed, aged := s.aged r, cause := s.cause r }))))

/-- A request is eligible when the five conditions of R30 hold together, half the heat limit of a lane being 10¹⁰ mA² × ticks for
each A²s (R125, R126). Its waiting cause is the first condition that fails, in the order of R39, a lane named being the
lowest-numbered one of the mask that fails. The request chosen at a grant is eligible, so no shot is granted while a condition
fails. -/
def Obligations.EligibilityAndWaitingCause : Prop :=
  (∀ (s : State) (r : Request),
     s.eligible r = true ↔
       s.engine = .idle ∧
       (∃ k : Fin 16, s.reports[k] = .empty) ∧
       (∀ i : Fin 12, has r.laneUse i = true → (s.sup.lanes[i]).condition = .ready) ∧
       (∀ i : Fin 6, has r.laneUse (currentLane i) = true →
         s.sup.heat[i] ≤ (s.sup.lanes[currentLane i]).settings.heatLimit * 10000000000) ∧
       (s.sup.inhibit = false ∨ (s.sup.override = true ∧ r.laneUse = 0))) ∧
  (∀ (s : State) (r : Request),
     let hot (i : Fin 6) : Prop := has r.laneUse (currentLane i) = true ∧
       (s.sup.lanes[currentLane i]).settings.heatLimit * 10000000000 < s.sup.heat[i]
     let faulted (i : Fin 12) : Prop := has r.laneUse i = true ∧ (s.sup.lanes[i]).condition ≠ .ready
     (s.engine ≠ .idle → s.cause r = some .engineBusy) ∧
     (s.engine = .idle → (∀ k : Fin 16, s.reports[k] ≠ .empty) → s.cause r = some .noSlot) ∧
     (s.engine = .idle → (∃ k : Fin 16, s.reports[k] = .empty) →
       (∀ i, faulted i → (∀ j, j < i → ¬faulted j) → s.cause r = some (.laneFault i)) ∧
       ((∀ i, ¬faulted i) →
         (∀ i, hot i → (∀ j, j < i → ¬hot j) → s.cause r = some (.heat (currentLane i))) ∧
         ((∀ i, ¬hot i) →
           s.cause r = if s.sup.inhibit = true ∧ (s.sup.override = false ∨ r.laneUse ≠ 0) then some .inhibit else none)))) ∧
  ∀ (s : State) (r : Request), s.choice = some r → s.eligible r = true

/-- The arbiter's choice (R32): the oldest aged eligible request if any eligible request is aged, and otherwise the oldest of the
eligible requests whose link has the lowest priority number; no request is chosen only when none is eligible. -/
def Obligations.ArbiterChoosesByAgeThenPriority : Prop :=
  ∀ s : State,
    let rank (r : Request) : Nat := (((s.link r.link).priority).getD { priority := 0, maxWait := 0 }).priority
    let wait (r : Request) : Nat := (((s.link r.link).priority).getD { priority := 0, maxWait := 0 }).maxWait
    let aged (r : Request) : Prop := 1 ≤ wait r ∧ wait r ≤ r.passed
    (s.choice = none ↔ ∀ r ∈ s.queue.requests, s.eligible r = false) ∧
    ∀ r, s.choice = some r → ∃ before after, s.queue.requests = before ++ r :: after ∧ s.eligible r = true ∧
      ((aged r ∧ ∀ x ∈ before, s.eligible x = true → ¬aged x) ∨
        ((∀ x ∈ s.queue.requests, s.eligible x = true → ¬aged x ∧ rank r ≤ rank x) ∧
          ∀ x ∈ before, s.eligible x = true → rank r < rank x))

/-- GRANT (R31, R33, R34). With no eligible request, or the engine not IDLE, nothing happens. Otherwise the chosen request leaves
the queue, the others' passed-over counts rise to at most 15, the next serial is issued, the slot becomes BUILDING with its header,
a FREE half is taken where capture is enabled, the engine is ARMED (its start latch set for IMMEDIATE, R45) and SHOT_GRANTED is
raised. A SECOND shot granted while the time quality is DISABLED or FREE is ended with TIME_LOST at its grant (R35, R59): with a
debounce horizon above 0 it settles from that moment, with no start time and no visit, and with a horizon of 0 the teardown comes in
the same action (R63). -/
def Obligations.GrantHandsOverTheEngine : Prop :=
  (∀ s : State, (s.choice = none → exec .grant s = .next s) ∧
     ∀ (r : Request) (slot : Fin 16), s.choice = some r → s.emptySlot = some slot →
       (r.condition = .second → s.clock.quality ≠ .disabled ∧ s.clock.quality ≠ .free) →
       let serial := if s.queue.lastSerial < 65535 then s.queue.lastSerial + 1 else 1
       let half : Option HalfId :=
         if r.capture = true then
           (if s.captures.a.state = .free then some .a else if s.captures.b.state = .free then some .b else none)
         else none
       ∃ t, exec .grant s = .next t ∧
         t.queue = { s.queue with
           requests := (s.queue.requests.erase r).map fun x => { x with passed := min (x.passed + 1) 15 },
           lastSerial := serial } ∧
         t.engine = .armed { req := r, serial := serial, slot := slot, half := half }
           (if r.condition = .immediate then some s.now else none) ∧
         t.reports = s.reports.set slot (.building
           { header :=
               { serial := serial, ticket := r.ticket, link := r.link, start := r.start, profile := r.profile,
                 condition := r.condition, mode := r.mode, grantTime := s.now, startTime := none, quality := none,
                 endTime := none, endReason := none, visitCount := 0, pass := 0, fail := 0, notMeasured := 0, void := 0,
                 truncated := false, captureAbsent := r.capture && half.isNone, untriggered := false, cutShort := false,
                 anyClip := false, capture := none },
             visits := [], results := [], timeline := [] }) ∧
         (∀ h : HalfId, t.captures.get h = if half = some h then
           { Half.free with state := .filling, trigMask := r.trigMask, preCount := r.preCount, lanes := r.capLanes }
           else s.captures.get h) ∧
         t.links = (s.setLink r.link
           { s.link r.link with notices := { (s.link r.link).notices with granted := true } }).links ∧
         t = { s with queue := t.queue, engine := t.engine, reports := t.reports, captures := t.captures, links := t.links }) ∧
  (∀ (s : State) (r : Request) (slot : Fin 16), s.choice = some r → s.emptySlot = some slot → r.condition = .second →
     (s.clock.quality = .disabled ∨ s.clock.quality = .free) → (s.profile r.profile).horizon ≠ 0 →
       ∃ t sh rep, exec .grant s = .next t ∧ t.engine = .settling sh none s.now ∧ sh.req = r ∧ sh.slot = slot ∧
         t.reports[slot] = .building rep ∧ rep.header.endReason = some .timeLost ∧ rep.header.endTime = some s.now ∧
         rep.header.startTime = none ∧ rep.visits = [] ∧ t.queue.requests = (s.queue.requests.erase r).map Request.passOver) ∧
  ∀ (s : State) (r : Request) (slot : Fin 16), s.choice = some r → s.emptySlot = some slot → r.condition = .second →
     (s.clock.quality = .disabled ∨ s.clock.quality = .free) → (s.profile r.profile).horizon = 0 →
       ∃ t sh rep, exec .grant s = exec .teardown t ∧ t.engine = .settling sh none s.now ∧ sh.req = r ∧ sh.slot = slot ∧
         t.reports[slot] = .building rep ∧ rep.header.endReason = some .timeLost ∧ rep.header.endTime = some s.now ∧
         rep.header.startTime = none ∧ rep.visits = [] ∧ t.queue.requests = (s.queue.requests.erase r).map Request.passOver ∧
         t.tables = s.tables

/-- Every step leaves no eligible request waiting beside an IDLE engine: a grant is made at the moment it becomes possible, which
R31 lists, and at no other (R31, R39). -/
def Obligations.StepsLeaveNoGrantWaiting : Prop :=
  ∀ s t : State, s.NoGrantWaits → step s = .next t → t.NoGrantWaits

/-! ## The Shot Engine -/

/-- An end requested of the granted shot (R58, R59): nothing to an IDLE or SETTLING engine; in RUNNING it becomes the pending end
unless one is pending; in ARMED the shot ends at once, with a debounce horizon above 0 settling from that moment with no start time,
its capture half stopped untriggered and the end written into its header, and with a horizon of 0 the teardown comes in the same
action (R63). -/
def Obligations.EndRequestsActByEngineState : Prop :=
  ∀ (s : State) (r : EndReason),
    (s.engine = .idle → s.requestEnd r = s) ∧
    (∀ sh start finish, s.engine = .settling sh start finish → s.requestEnd r = s) ∧
    (∀ sh run, s.engine = .running sh run →
      s.requestEnd r = { s with engine := .running sh { run with pendingEnd := some (run.pendingEnd.getD r) } }) ∧
    (∀ sh latch rep, s.engine = .armed sh latch → s.reports[sh.slot] = .building rep → (s.profile sh.req.profile).horizon ≠ 0 →
      let cut : Bool := match sh.half with
        | none => false
        | some h => ((s.captures.get h).stop).cutShort
      s.requestEnd r = { s with
        engine := .settling sh none s.now,
        reports := s.reports.set sh.slot (.building { rep with header :=
          { rep.header with endTime := some s.now, endReason := some r, cutShort := cut } }),
        captures := (s.requestEnd r).captures } ∧
        ∀ h : HalfId, (s.requestEnd r).captures.get h =
          if sh.half = some h then (s.captures.get h).stop else s.captures.get h) ∧
    ∀ sh latch rep, s.engine = .armed sh latch → s.reports[sh.slot] = .building rep → (s.profile sh.req.profile).horizon = 0 →
      let cut : Bool := match sh.half with
        | none => false
        | some h => ((s.captures.get h).stop).cutShort
      ∃ captures : Captures,
        (∀ h : HalfId, captures.get h = if sh.half = some h then (s.captures.get h).stop else s.captures.get h) ∧
        .next (s.requestEnd r) = exec .teardown { s with
          engine := .settling sh none s.now,
          reports := s.reports.set sh.slot (.building { rep with header :=
            { rep.header with endTime := some s.now, endReason := some r, cutShort := cut } }),
          captures := captures }

/-- GO (R46): refused NOT_ARMED unless the engine is ARMED for GO with its start latch clear, then NOT_OWNER to any link but the
submitter; when taken it sets the start latch. TRIG_EDGE (R44, R45, R53): a high sample after a low one sets the start latch of a
shot ARMED for TRIGGER, or the TRIGGER latch of a visit in RUNNING outside DEFERRING, and has no other effect; a high sample that is
no edge has none. That TRIG_EDGE is a sample that finds the line high, so that a second one in a microsecond is no edge, is the
model's choice (notes/assumptions/11.md). -/
def Obligations.GoAndTrigMeetTheStart : Prop :=
  (∀ (l : Link) (tag : Byte) (s : State),
     let refused (d : Denial) := exec (.go l tag) s = .next (s.refuse l Kind.go.code tag d)
     match s.engine with
     | .armed sh none =>
       if sh.req.condition ≠ .go then refused .notArmed
       else if sh.req.link ≠ l then refused .notOwner
       else exec (.go l tag) s = .next (({ s with engine := .armed sh (some s.now) } : State).setReply l
         (okReply .go tag (.started sh.req.ticket sh.serial)))
     | _ => refused .notArmed) ∧
  (∀ s : State,
     let t : State := { s with trig := { s.trig with now := true } }
     ((s.trig.prev ≠ some false ∨ s.trig.now = true) → exec .trigEdge s = .next t) ∧
     (s.trig.prev = some false → s.trig.now = false →
       match s.engine with
       | .armed sh none =>
         if sh.req.condition = .trigger then exec .trigEdge s = .next { t with engine := .armed sh (some s.now) }
         else exec .trigEdge s = .next t
       | .running sh run =>
         if run.deferral = none then exec .trigEdge s = .next { t with engine := .running sh { run with trigLatch := true } }
         else exec .trigEdge s = .next t
       | _ => exec .trigEdge s = .next t))

/-- STEP (R54): the checks in their order, and when taken the PANEL_STEP latch of the current visit is set. ADJUST (R81, R82): the
checks in their order, and when taken the lane's step count with the delta added and saturated to ±4,095, the reply giving the
effective rms of R72 with the new count. -/
def Obligations.PanelStepAndAdjust : Prop :=
  (∀ (l : Link) (tag : Byte) (s : State),
     let refused (d : Denial) := exec (.panelStep l tag) s = .next (s.refuse l Kind.step.code tag d)
     if l ≠ .panel then refused .notPermitted
     else match s.engine with
       | .running sh run =>
         if run.deferral ≠ none ∨ ∀ e ∈ (s.entry run.inForce).exits, e.kind ≠ .panelStep then refused .noStepExit
         else exec (.panelStep l tag) s = .next
           (({ s with engine := .running sh { run with stepLatch := true } } : State).setReply l
             (okReply .step tag (.stepped run.visit run.inForce)))
       | _ => refused .noShot) ∧
  (∀ (l : Link) (tag lane delta : Byte) (s : State),
     let refused (d : Denial) := exec (.adjust l tag lane delta) s = .next (s.refuse l Kind.adjust.code tag d)
     if l ≠ .panel then refused .notPermitted
     else if h : lane.toNat < 12 then
       let i : Fin 12 := ⟨lane.toNat, h⟩
       if 100 < delta.toInt ∨ delta.toInt < -100 then refused (.badField { part := .request, field := 1 })
       else match s.engine with
         | .running sh run =>
           if sh.req.adjust = false then refused .notPermitted
           else if has sh.req.laneUse i = false then refused .notInMask
           else if (s.profile sh.req.profile).steps[i] = 0 then refused .notAdjustable
           else
             let x := s.synth.lanes[i]
             let top : Int := if i.val < 6 then 32000 else 30000
             let count := max (-4095) (min 4095 (x.adjust + delta.toInt))
             let sum : Int := ((s.entry run.inForce).lanes[i]).rms + count * (s.profile sh.req.profile).steps[i]
             let e := max 0 (min top sum)
             exec (.adjust l tag lane delta) s = .next
               (({ s with synth := { s.synth with lanes := s.synth.lanes.set i { x with adjust := count } } } :
                 State).setReply l (okReply .adjust tag
                   (.adjusted i count (decide (count ≠ x.adjust + delta.toInt)) e.toNat (decide (e ≠ sum)) run.visit)))
         | _ => refused .noShot
     else refused (.badField { part := .request, field := 0 }))

/-- The exit taken is the one of the lowest slot whose condition holds (R51), a condition holding as the table of R52 gives; the
time since the visit's entry is a difference of clock readings modulo 2⁴⁸ (R163). -/
def Obligations.FirstExitThatHoldsIsTaken : Prop :=
  ∀ (s : State) (run : Run),
    (∀ (slot : Nat) (e : Exit), s.taken run = some (slot, e) ↔
      (s.entry run.inForce).exits[slot]? = some e ∧ s.exitHolds run slot e.kind = true ∧
        ∀ n x, n < slot → (s.entry run.inForce).exits[n]? = some x → s.exitHolds run n x.kind = false) ∧
    ∀ slot : Nat,
      (∀ limit, s.exitHolds run slot (.time limit) = true ↔ limit ≤ elapsed (later run.startTime run.entry) s.now) ∧
      (∀ mask, s.exitHolds run slot (.inputLevel mask false) = true ↔
        ∃ i : Fin 16, has mask i = true ∧ (s.contacts[i]).accepted = (s.contacts[i]).setting.active) ∧
      (∀ mask, s.exitHolds run slot (.inputLevel mask true) = true ↔
        ∀ i : Fin 16, has mask i = true → (s.contacts[i]).accepted = (s.contacts[i]).setting.active) ∧
      (∀ mask, s.exitHolds run slot (.inputEdge mask) = run.edges.getLsbD slot) ∧
      s.exitHolds run slot .trigger = run.trigLatch ∧ s.exitHolds run slot .panelStep = run.stepLatch ∧
      (∀ k : Fin 4, s.exitHolds run slot (.breaker k .opened) = true ↔ (s.breakers[k]).position = .opened) ∧
      ∀ k : Fin 4, s.exitHolds run slot (.breaker k .closed) = true ↔ (s.breakers[k]).position = .closed

/-- SHOT_START (R48, R49, R67, R74, R86, R87, R101, R122, R156, R157): at the first tick after the start condition was met the
engine is RUNNING in visit 0 on the start state; every lane starts at accumulator, step count and previous value 0, CUT where a
simulator that starts OPEN binds it and LIVE with the residue of an entry from value 0 otherwise; every simulator and contact input
stands as its unit's start gives it, an episode that ended at this microsecond's sample being in progress again, because the
profile's settings govern that sample, which is taken after the start, by command or as a due event; the shot's capture half is in
PRE_TRIGGER, or has its trigger noted where the start state has a capture mark; and the report has its start time, its quality and
visit 0. The output codes stay until the tick's frame goes out: the tick in stages is the model's choice (notes/assumptions/6.md,
46.md), as is the sample taken anew and after the start (notes/assumptions/12.md, 38.md). -/
def Obligations.ShotStartBeginsTheShot : Prop :=
  ∀ (s : State) (sh : Shot) (c : Clock) (rep : Report), s.engine = .armed sh (some c) → c ≠ s.now → s.tickDue = true →
    s.tick.engine = false → s.reports[sh.slot] = .building rep →
    let p := s.profile sh.req.profile
    let opens (k : Fin 4) : Bool := (p.breakers[k]).enabled && (p.breakers[k]).initial == .opened
    ∃ t, exec .shotStart s = .next t ∧
      t.engine = .running sh
        { startTime := s.now, visit := 0, inForce := sh.req.start, entry := 0, trigLatch := false, stepLatch := false,
          edges := 0, deferral := none, pendingEnd := none, fresh := [] } ∧
      (∀ i : Fin 12, (t.synth.lanes[i]).accum = 0 ∧ (t.synth.lanes[i]).adjust = 0 ∧ (t.synth.lanes[i]).prev = 0 ∧
        (t.synth.lanes[i]).reenergise = none ∧
        ((t.synth.lanes[i]).cut = .cut ↔ ∃ k : Fin 4, opens k = true ∧ (p.breakers[k]).binds i = true) ∧
        ((t.synth.lanes[i]).cut ≠ .cut → (t.synth.lanes[i]).cut = .live) ∧
        (let set := (s.entry sh.req.start).lanes[i]
         let top : Int := if i.val < 6 then 32000 else 30000
         let limit : Int := 131072 * (if i.val < 6 then 45255 else 42426)
         let e := max 0 (min top (set.rms : Int))
         let k := (angleOffset set.angle).toNat / 1048576
         let ac := if set.freq = 0 then roundDiv (e * sine k) 32767
                   else roundDiv (roundDiv (e * 46341) 32768 * sine k) 32767
         (t.synth.lanes[i]).residue =
           if (t.synth.lanes[i]).cut = .cut ∨ set.tau = 0 then 0 else max (-limit) (min limit (65536 * (0 - ac))))) ∧
      (∀ k : Fin 4, t.breakers[k] =
        { setting := p.breakers[k],
          position := if (p.breakers[k]).enabled && (p.breakers[k]).initial == .closed then .closed else .opened,
          timer := none, tripLatch := false, closeLatch := false, interrupting := opens k }) ∧
      (∀ i : Fin 16,
        let was : Level × Option Episode := match s.tick.ended.find? fun x => x.1 == i with
          | some (_, level, e) => (level, some e)
          | none => ((s.contacts[i]).accepted, (s.contacts[i]).episode)
        (t.contacts[i]).setting = p.inputs[i] ∧ (t.contacts[i]).pin = (s.contacts[i]).pin ∧
        ((p.inputs[i]).enabled = false →
          (t.contacts[i]).episode = none ∧ (t.contacts[i]).accepted = (p.inputs[i]).inactive) ∧
        ((p.inputs[i]).enabled = true → (t.contacts[i]).accepted = was.1 ∧ (t.contacts[i]).episode = was.2 ∧
          (was.2 = none → (t.rawDue i = true ↔ (s.contacts[i]).pin ≠ was.1)) ∧
          ∀ level : Level, ∃ u, exec (.contactRawEdge i level) t = .next u ∧ (u.contacts[i]).episode = match was.2 with
            | none => if level = was.1 then none else some ⟨s.now, s.now⟩
            | some e => some ⟨e.start, if (s.contacts[i]).prevRaw = some level then e.last else s.now⟩)) ∧
      (∀ i : Fin 12, t.sup.lanes[i] = { s.sup.lanes[i] with missRun := 0 }) ∧ t.sup.heat = s.sup.heat ∧
      (∀ h : HalfId, t.captures.get h =
        if sh.half = some h then
          { s.captures.get h with
            phase := if (s.entry sh.req.start).captureMark = true then .triggerNoted 0 else .preTrigger }
        else s.captures.get h) ∧
      t.reports = s.reports.set sh.slot (.building
        { rep with
          header := { rep.header with startTime := some s.now, quality := some s.clock.quality,
                                      visitCount := rep.header.visitCount + 1 },
          visits := rep.visits ++
            [{ number := 0, state := sh.req.start, label := (s.entry sh.req.start).label, entry := 0, exit := none,
               cause := none, deferral := 0, clip := 0, adjust := none, inputs := [], breakers := [],
               truncated := false, closeAt := none }] }) ∧
      t.pending = s.pending ∧ t.clock = s.clock ∧ t.tables = s.tables ∧ t.queue = s.queue ∧ t.trig = s.trig ∧
      t.links = s.links ∧ t.synth.codes = s.synth.codes

/-- An exit taken at a tick (R49 to R52, R55, R56), no move being due. At SAMPLE_TICK an exit of any kind: a target that needs no
wait is entered with every latch clear, the visit left receiving its exit time, its exit slot and kind, the adjust counts and its
close time, and the visit entered a record with its label and entry time; a target whose point on the wave is not reached begins a
deferral and the visit goes on; the events and elements that waited for the tick are then recorded (R93, R113), their waiting being
the model's reading (notes/assumptions/9.md), and the supervision of the tick may make an end pending; END or a 65th visit ends the
shot as SHOT_END does. At an entry the residue of a lane that is not CUT is set from the value the outgoing state would have
produced (R74). TIME_EXIT, for a TIME exit, does the engine's work of the tick and leaves the lanes' values, codes and accumulators
to SAMPLE_TICK, and SAMPLE_TICK after SHOT_END does the rest of the tick: stages that are the model's choice
(notes/assumptions/6.md, 46.md). -/
def Obligations.TimeExitFollowsItsTarget : Prop :=
  ∀ (s : State) (sh : Shot) (run : Run) (slot : Nat) (e : Exit), s.engine = .running sh run →
    (∀ k : Fin 4, s.moveDue k = false) → s.dueExit = some (slot, e) →
      let entered (n : Fin 64) : Run :=
        { run with
          visit := run.visit + 1, inForce := n, entry := s.offset run.startTime, trigLatch := false,
          stepLatch := false, edges := 0, deferral := none, fresh := [] }
      let deferring (n : Fin 64) : Run :=
        { run with
          deferral := some { target := n, slot := slot, kind := e.kind, offset := s.offset run.startTime }, fresh := [] }
      let old (i : Fin 12) : Int :=
        let tau := ((s.entry run.inForce).lanes[i]).tau
        let x := (s.synth.lanes[i]).residue
        let d := if tau = 0 then x else decay x (roundDiv 3276800 (tau * 1000))
        if s.sup.inhibit = true then 0 else s.laneAc sh run.inForce i + roundDiv d 65536
      let residue (n : Fin 64) (i : Fin 12) : Int :=
        let limit : Int := 131072 * (if i.val < 6 then 45255 else 42426)
        if ((s.entry n).lanes[i]).tau = 0 then 0 else max (-limit) (min limit (65536 * (old i - s.laneAc sh n i)))
      let supervised (p : Option EndReason) : Prop :=
        p = none ∨ (∃ i : Fin 12, p = some (.deviation i)) ∨ ∃ i : Fin 6, p = some (.heat (currentLane i))
      let kept (t : State) : Prop :=
        t.tables = s.tables ∧ t.queue = s.queue ∧ t.breakers = s.breakers ∧ t.contacts = s.contacts ∧ t.clock = s.clock
      let on (r : Report) (n : Nat) (f : Visit → Visit) : Report :=
        { r with visits := r.visits.map fun v => if v.number = n then f v else v }
      let left (r : Report) (n : Fin 64) : Report :=
        let r := on r run.visit fun v =>
          { v with exit := some (s.offset run.startTime), cause := some (.exit slot e.kind), deferral := 0,
                   adjust := if sh.req.adjust then some (Vector.ofFn fun i => (s.synth.lanes[i]).adjust) else none,
                   closeAt := some (later s.now (s.profile sh.req.profile).horizon) }
        { r with
          header := { r.header with visitCount := r.header.visitCount + 1 },
          visits := r.visits ++
            [{ number := run.visit + 1, state := n, label := (s.entry n).label, entry := s.offset run.startTime, exit := none,
               cause := none, deferral := 0, clip := 0, adjust := none, inputs := [], breakers := [], truncated := false,
               closeAt := none }] }
      let awaited (r : Report) (n time : Nat) : Report :=
        s.tick.events.foldl (fun r x => r.record run.startTime s.now x.1 x.2 s.now) (on r n fun v => v.addFresh time run.fresh)
      let enteredReport (r : Report) (n : Fin 64) : Report := awaited (left r n) (run.visit + 1) 0
      let deferredReport (r : Report) : Report :=
        awaited r run.visit (elapsed (later run.startTime run.entry) s.now)
      let clipped (t : State) (r : Report) (n : Nat) : Prop :=
        ∃ clipping : LaneSet,
          t.reports = s.reports.set sh.slot (.building (on r n fun v => { v with clip := v.clip ||| clipping })) ∧
          ∀ i : Fin 12, has clipping i = true ↔
            32767 < (roundDiv ((t.synth.lanes[i]).prev * 32767) (if i.val < 6 then 45255 else 42426)).natAbs
      (∀ n, e.target = .state n → run.visit + 1 < 64 → s.reached run n = true →
        (∃ t p, exec .sampleTick s = .next t ∧ t.engine = .running sh { entered n with pendingEnd := p } ∧ supervised p ∧
          kept t ∧
          (∀ rep, s.reports[sh.slot] = .building rep → clipped t (enteredReport rep n) (run.visit + 1)) ∧
          ∀ i : Fin 12, (s.synth.lanes[i]).cut = .live → (s.synth.lanes[i]).reenergise = none →
            (t.synth.lanes[i]).residue = residue n i ∧
            (t.synth.lanes[i]).prev =
              if s.sup.inhibit = true then 0 else s.laneAc sh n i + roundDiv (residue n i) 65536) ∧
        ((∃ limit, e.kind = .time limit) → ∃ t, exec .timeExit s = .next t ∧ t.engine = .running sh (entered n) ∧
          t.links = s.links ∧ kept t ∧
          (∀ rep, s.reports[sh.slot] = .building rep →
            t.reports = s.reports.set sh.slot (.building (enteredReport rep n))) ∧
          ∀ i : Fin 12, t.synth.lanes[i] =
            if (s.synth.lanes[i]).cut = .cut then s.synth.lanes[i]
            else { s.synth.lanes[i] with residue := residue n i })) ∧
      (∀ n, e.target = .state n → run.visit + 1 < 64 → s.reached run n = false →
        (∃ t p, exec .sampleTick s = .next t ∧ t.engine = .running sh { deferring n with pendingEnd := p } ∧
          supervised p ∧ kept t ∧
          ∀ rep, s.reports[sh.slot] = .building rep → clipped t (deferredReport rep) run.visit) ∧
        ((∃ limit, e.kind = .time limit) → ∃ t, exec .timeExit s = .next t ∧ t.engine = .running sh (deferring n) ∧
          t.synth = s.synth ∧ t.links = s.links ∧ kept t ∧
          ∀ rep, s.reports[sh.slot] = .building rep → t.reports = s.reports.set sh.slot (.building (deferredReport rep)))) ∧
      ((e.target = .finish ∨ 64 ≤ run.visit + 1) →
        ((∃ limit, e.kind = .time limit) → exec .timeExit s = exec .shotEnd s) ∧
        ∀ t, exec .shotEnd s = .next t → exec .sampleTick s = exec .sampleTick t)

/-- DEFERRAL_END (R56): at the first tick at which the reference lane has reached the target, the target is entered, and the
outgoing visit receives the exit slot and kind, its exit time and the deferral length. -/
def Obligations.DeferralEndEntersTheTarget : Prop :=
  ∀ (s : State) (sh : Shot) (run : Run) (d : Deferral) (rep : Report), s.engine = .running sh run → s.tickDue = true →
    s.tick.engine = false → s.tick.events = [] → (∀ k : Fin 4, s.moveDue k = false) → run.pendingEnd = none →
    run.deferral = some d → run.fresh = [] → s.reached run d.target = true → s.reports[sh.slot] = .building rep →
      ∃ t, exec .deferralEnd s = .next t ∧
        t.engine = .running sh
          { run with
            visit := run.visit + 1, inForce := d.target, entry := s.offset run.startTime, trigLatch := false,
            stepLatch := false, edges := 0, deferral := none } ∧
        t.reports = s.reports.set sh.slot (.building
          { rep with
            header := { rep.header with visitCount := rep.header.visitCount + 1 },
            visits := (rep.visits.map fun v => if v.number = run.visit then
                { v with exit := some (s.offset run.startTime), cause := some (.exit d.slot d.kind),
                         deferral := elapsed (later run.startTime d.offset) s.now, adjust := s.adjustCounts sh,
                         closeAt := some (later s.now (s.profile sh.req.profile).horizon) }
                else v) ++
              [{ number := run.visit + 1, state := d.target, label := (s.entry d.target).label,
                 entry := s.offset run.startTime, exit := none, cause := none, deferral := 0, clip := 0, adjust := none,
                 inputs := [], breakers := [], truncated := false, closeAt := none }] }) ∧
        t.tables = s.tables ∧ t.queue = s.queue ∧ t.links = s.links ∧ t.breakers = s.breakers ∧ t.contacts = s.contacts

/-- A deferral ends: from any phase, the reference lane reaches the target within ceiling(2³² / increment) tests, so that a deferral
lasts less than one period of the lane (R57). -/
def Obligations.DeferralLastsLessThanAPeriod : Prop :=
  ∀ (s : State) (run : Run) (target : Fin 64) (p : PointOnWave), (s.entry target).pow = some p →
    let inc := phaseIncrement ((s.entry run.inForce).lanes[p.lane]).freq
    let x := s.synth.lanes[p.lane]
    ∃ n : Nat, n * inc.toNat < 4294967296 ∧
      (s.setLane p.lane { x with accum := x.accum + BitVec.ofNat 32 n * inc }).reached run target = true

/-- SHOT_END (R57, R58, R60, R63): at a tick where an end is pending the shot ends with its reason; where an exit to END is taken
with COMPLETED, the exit standing as the cause, and where an exit would open a 65th visit with VISIT_LIMIT. The engine settles from
that moment, the simulators' timers and the lanes' re-energising requests are discarded, the last visit is left with its cause and
the length of a deferral it was left in, the capture half stops once the last record is written, and the end is written into the
header. With a debounce horizon of 0 the teardown comes in the same action. At a tick with an end pending a move that is due is
discarded, the order of R115 with the end tick first; that R107 completes no move there is the model's reading
(notes/assumptions/8.md), and so is that a visit left by an exit to END keeps that exit as its cause (notes/assumptions/17.md). -/
def Obligations.ShotEndSettles : Prop :=
  ∀ (s : State) (sh : Shot) (run : Run) (r : EndReason) (cause : ExitCause) (rep : Report), s.engine = .running sh run →
    s.tickDue = true → s.tick.engine = false → s.tick.events = [] → run.fresh = [] → s.reports[sh.slot] = .building rep →
    ((run.pendingEnd = some r ∧ cause = .finish r) ∨
      ((∀ k : Fin 4, s.moveDue k = false) ∧ ∃ slot e, s.dueExit = some (slot, e) ∧
        ((e.target = .finish ∧ r = .completed ∧ cause = .exit slot e.kind) ∨
          ((∃ n, e.target = .state n) ∧ 64 ≤ run.visit + 1 ∧ r = .visitLimit ∧ cause = .finish .visitLimit)))) →
      let cut : Bool := match sh.half with
        | none => false
        | some h => ((s.openTick.captures.get h).stop).cutShort
      ∃ t, exec .shotEnd s = (if (s.profile sh.req.profile).horizon = 0 then exec .teardown t else .next t) ∧
        t.engine = .settling sh (some run.startTime) s.now ∧
        (∀ k : Fin 4, t.breakers[k] = { s.breakers[k] with timer := none }) ∧
        (∀ i : Fin 12, t.synth.lanes[i] = { s.synth.lanes[i] with reenergise := none }) ∧
        (∀ h : HalfId, t.captures.get h =
          if sh.half = some h then (s.openTick.captures.get h).stop else s.openTick.captures.get h) ∧
        t.reports = s.reports.set sh.slot (.building
          { rep with
            header := { rep.header with endTime := some s.now, endReason := some r, cutShort := cut },
            visits := rep.visits.map fun v => if v.number = run.visit then
              { v with exit := some (s.offset run.startTime), cause := some cause,
                       deferral := match run.deferral with
                         | none => 0
                         | some d => elapsed (later run.startTime d.offset) s.now,
                       adjust := s.adjustCounts sh,
                       closeAt := some (later s.now (s.profile sh.req.profile).horizon) }
              else v }) ∧
        t.outputs = 0 ∧ t.tables = s.tables ∧ t.queue = s.queue ∧ t.contacts = s.contacts ∧ t.clock = s.clock

/-- VISIT_CLOSE (R94, R136): the first visit whose close time has come closes, and its assessments, read from its state entry, are
judged in slot order, their results appended and counted. TEARDOWN (R64, R141, R160) once the debounce horizon has passed: the
visits still to close are closed in order, the report is completed, the locks are released, the engine is IDLE, SHOT_ENDED is
raised, and the report is COMPLETE for the links subscribed with its half HELD, or dropped with its half FREE when none is; then a
grant can be made (R31). At any other moment neither does anything. Every assessment of the last visit is VOID when the shot ended
for another reason than COMPLETED or VISIT_LIMIT (R140), and the completed report keeps what its mode keeps (R142). That VISIT_CLOSE
leaves the last visit of a SETTLING shot to the teardown is the model's reading (notes/assumptions/16.md), and that the two act only
when due its choice (notes/assumptions/4.md); that the teardown is due once at least the horizon has passed is
notes/assumptions/29.md. -/
def Obligations.VisitCloseAndTeardown : Prop :=
  (∀ (s : State) (slot : Fin 16) (n : Nat) (rep : Report) (v : Visit), s.visitDue = some (slot, n) →
     s.reports[slot] = .building rep → rep.visits.find? (fun x => x.number == n) = some v →
       let results := ((s.entry v.state).assessments.zipIdx).map fun a => v.result (rep.cutShort v) a.2 a.1
       exec .visitClose s = .next { s with reports := s.reports.set slot (.building
         { rep with
           header := { rep.header with
             pass := rep.header.pass + results.countP fun x => x.verdict = .pass,
             fail := rep.header.fail + results.countP fun x => x.verdict = .fail,
             notMeasured := rep.header.notMeasured + results.countP fun x => x.verdict = .notMeasured,
             void := rep.header.void + results.countP fun x => x.verdict = .void },
           visits := rep.visits.map fun x => if x.number = n then { x with closeAt := none } else x,
           results := rep.results ++ results }) }) ∧
  (∀ (s : State) (sh : Shot) (rep : Report), s.reports[sh.slot] = .building rep →
     (∀ run, s.engine = .running sh run → s.visitDue =
       (rep.visits.find? fun v => v.closeAt == some s.now).map fun v => (sh.slot, v.number)) ∧
     ∀ start finish, s.engine = .settling sh start finish → s.visitDue =
       ((rep.visits.filter fun v => v.number + 1 ≠ rep.header.visitCount).find? fun v => v.closeAt == some s.now).map
         fun v => (sh.slot, v.number)) ∧
  (∀ s : State, s.visitDue = none → exec .visitClose s = .next s) ∧
  (∀ (s : State) (sh : Shot) (start : Option Clock) (finish : Clock) (rep : Report),
     s.engine = .settling sh start finish → (s.profile sh.req.profile).horizon ≤ elapsed finish s.now →
     s.reports[sh.slot] = .building rep →
       let left := (rep.visits.filter fun v => v.closeAt.isSome).map fun v => v.number
       let closed := left.foldl (fun r n => r.closeVisit n fun i => (s.entry i).assessments) rep
       ∃ u : State, exec .teardown s = .next u.grantMoment ∧ u.engine = .idle ∧ u.tables = s.tables.releaseFor sh.req ∧
         u.queue = s.queue ∧
         u.links = (s.setLink sh.req.link
           { s.link sh.req.link with notices := { (s.link sh.req.link).notices with ended := true } }).links ∧
         u.reports = s.reports.set sh.slot
           (if s.subscribers = 0 then .empty
            else .complete (closed.complete (s.halfUntriggered sh.half) (s.captureRef sh.half)) s.subscribers) ∧
         (∀ h : HalfId, u.captures.get h =
           if sh.half = some h then
             (if s.subscribers = 0 then .free else { s.captures.get h with state := .held sh.slot sh.serial })
           else s.captures.get h) ∧
         u = { s with engine := u.engine, tables := u.tables, links := u.links, reports := u.reports, captures := u.captures }) ∧
  (∀ s : State, (∀ sh start finish, s.engine = .settling sh start finish →
     elapsed finish s.now < (s.profile sh.req.profile).horizon) → exec .teardown s = .next s) ∧
  (∀ (rep : Report) (v : Visit) (a : Assessment) (slot : Nat),
     (rep.cutShort v = true ↔ v.number + 1 = rep.header.visitCount ∧
       ∃ r, rep.header.endReason = some r ∧ r ≠ .completed ∧ r ≠ .visitLimit) ∧
     v.result true slot a = { state := v.state, visit := v.number, slot := slot, kind := a.kind, verdict := .void,
                              measured := v.measured a } ∧
     v.result false slot a = { state := v.state, visit := v.number, slot := slot, kind := a.kind,
                               verdict := (v.judge a).1, measured := (v.judge a).2 }) ∧
  ∀ (rep : Report) (untriggered : Bool) (ref : Option CaptureRef),
    let header := { rep.header with anyClip := rep.visits.any fun v => v.clip ≠ 0, untriggered := untriggered, capture := ref }
    rep.complete untriggered ref = match rep.header.mode with
      | .full => { rep with header := header }
      | .verdicts => { rep with header := header, visits := [], timeline := [] }
      | .failures => { rep with header := header, visits := [], timeline := [],
                                results := rep.results.filter fun x => x.verdict ≠ .pass }

/-- The running shot never leaves the states it locked: every step keeps the state in force, and the target of a deferral, in the
reachable set, and every request's set closed under the exits stored in the tables (R2, R20, R24). -/
def Obligations.StepsKeepTheShotInItsReach : Prop :=
  ∀ s t : State, s.LocksCounted → s.StaysInReach → step s = .next t → t.StaysInReach

/-! ## The Waveform Synthesizer -/

/-- SAMPLE_TICK in RUNNING at a tick at which the shot plays on (R68 to R73, R75 to R80, R111): each lane without a re-energising
request has its residue decayed, its value and code from the state in force, the cut test if it is CUTTING, its previous value kept
and its accumulator advanced; the commanded value and the heat input are handed on (R79). -/
def Obligations.SampleTickPlaysTheLanes : Prop :=
  ∀ (s : State) (sh : Shot) (run : Run), s.engine = .running sh run → s.tickDue = true → s.tick.engine = false →
    s.tick.residueSet = 0 → s.dueAction = .stay → (∀ k : Fin 4, s.moveDue k = false) →
      ∃ t, exec .sampleTick s = .next t ∧
        (∀ i : Fin 12, (s.synth.lanes[i]).reenergise = none →
          let x := s.synth.lanes[i]
          let set := (s.entry run.inForce).lanes[i]
          let top : Int := if i.val < 6 then 32000 else 30000
          let fs : Nat := if i.val < 6 then 45255 else 42426
          let e := max 0 (min top (set.rms + x.adjust * (s.profile sh.req.profile).steps[i]))
          let k := (x.accum + angleOffset set.angle).toNat / 1048576
          let ac := if set.freq = 0 then roundDiv (e * sine k) 32767
                    else roundDiv (roundDiv (e * 46341) 32768 * sine k) 32767
          let d := if set.tau = 0 then x.residue else decay x.residue (roundDiv 3276800 (set.tau * 1000))
          let live := if s.sup.inhibit = true then 0 else ac + roundDiv d 65536
          let gone : Bool := match x.cut with
            | .live => false
            | .cutting b n => decide (live = 0 ∨ (0 < x.prev ∧ live < 0) ∨ (x.prev < 0 ∧ 0 < live) ∨
                (s.breakers[b]).setting.cutLimit ≤ n + 1)
            | .cut => true
          let v := if gone then 0 else live
          t.synth.lanes[i] =
            { accum := x.accum + phaseIncrement set.freq, residue := if gone then 0 else d, adjust := x.adjust,
              cut := if gone then .cut else match x.cut with
                | .cutting b n => .cutting b (n + 1)
                | c => c,
              prev := v, reenergise := none } ∧
          t.synth.codes[i] = max (-32767) (min 32767 (roundDiv (v * 32767) fs)) ∧
          t.synth.commanded[i] =
            (if 32767 < roundDiv (v * 32767) fs then (fs : Int)
             else if roundDiv (v * 32767) fs < -32767 then -(fs : Int) else v) ∧
          ∀ j : Fin 6, currentLane j = i →
            t.synth.heatIn[j] = if gone = true ∨ s.sup.inhibit = true then 0 else e.toNat) ∧
        t.tables = s.tables ∧ t.queue = s.queue ∧ t.breakers = s.breakers ∧ t.contacts = s.contacts ∧ t.clock = s.clock ∧
        t.tick.synth = true

/-- SAMPLE_TICK in every engine state (R68, R77, R79, R122, R124): at a compared tick the miss run of each supervised lane becomes 0
at a match, and at a miss or with no frame rises by one to at most 255, and any other lane keeps its miss run; each heat account is
updated once with the heat input of the previous tick and the lane's rating, never below 0; and where the engine is not RUNNING
after the tick, or INHIBIT is asserted, every code, commanded value and heat input is 0. That the engine's work at a tick comes
after its opening is an invariant of the model (StagesInOrder, notes/assumptions/6.md). -/
def Obligations.SampleTickHeatsAndSilences : Prop :=
  ∀ s : State, s.StagesInOrder → s.tickDue = true → ∃ t, exec .sampleTick s = .next t ∧ t.tick.synth = true ∧
    (s.dueAction.isStart = false → ∀ i : Fin 12,
      let o := s.openTick
      let x := o.sup.lanes[i]
      let compared : Prop := o.tick.previous.isSome = true ∧ has o.tick.compared i = false ∧ x.settings.enabled = true ∧
        ∃ sh, s.engine.shot? = some sh ∧ has sh.req.laneUse i = true
      (t.sup.lanes[i]).settings = x.settings ∧
      (compared →
        (∀ f, o.tick.frame = some f →
          ((f[i] - o.synth.commanded[i]).natAbs ≤ x.settings.deviation → (t.sup.lanes[i]).missRun = 0) ∧
          (x.settings.deviation < (f[i] - o.synth.commanded[i]).natAbs → (t.sup.lanes[i]).missRun = min 255 (x.missRun + 1))) ∧
        (o.tick.frame = none → (t.sup.lanes[i]).missRun = min 255 (x.missRun + 1))) ∧
      (¬compared → (t.sup.lanes[i]).missRun = x.missRun)) ∧
    (s.tick.heat = false → ∀ i : Fin 6,
      (t.sup.heat[i] : Int) = max 0 ((s.sup.heat[i] : Int) + (s.synth.heatIn[i] : Int) ^ 2 -
        ((s.sup.lanes[currentLane i]).settings.rating : Int) ^ 2)) ∧
    ((t.engine.isRunning = false ∨ s.sup.inhibit = true) →
      (∀ i : Fin 12, t.synth.codes[i] = 0 ∧ t.synth.commanded[i] = 0) ∧ ∀ i : Fin 6, t.synth.heatIn[i] = 0)

/-- The events of a lane at a tick, the engine's work at it done: CUT_TAKES_EFFECT and CUT_LIMIT make a CUTTING lane CUT with
residue 0 (R76, R80, R111), REENERGISE makes a lane LIVE, a CUT one with its residue set from value 0 (R76, R112), and
DEVIATION_FAULT does the comparison of the tick, in which every deviating lane that is READY becomes FAULTED(DEVIATION) with its
notice and the end is requested for the lowest-numbered of them (R118, R122, R123), and which is not done again; at the end tick it
does what SHOT_END does, the lane is FAULTED and the end reason stands. What SAMPLE_TICK adds: the deviating lanes are FAULTED and
the end is requested for the lowest-numbered of them; the lanes whose code is clamped join the clip lane mask of the current visit
(R78), and the lowest-numbered lane of the lane-use mask whose heat account stands at or above its limit has the end requested
(R125). That each event first does the engine's work at the tick, and leaves value, code and accumulator to SAMPLE_TICK, is the
model's choice (notes/assumptions/6.md, 46.md). -/
def Obligations.LaneEventsActAtTheTick : Prop :=
  (∀ (s : State) (sh : Shot) (run : Run) (i : Fin 12), s.tickDue = true →
    let w := s.engineWork
    let x := w.synth.lanes[i]
    w.engine = .running sh run →
    (∀ b n, x.cut = .cutting b n → (x.reenergise = none ∨ x.reenergise = some w.now) →
      let v := w.laneValue sh run i
      ((v = 0 ∨ (0 < x.prev ∧ v < 0) ∨ (x.prev < 0 ∧ 0 < v)) →
        exec (.cutTakesEffect i) s = .next (w.setLane i { x with cut := .cut, residue := 0 })) ∧
      ((w.breakers[b]).setting.cutLimit ≤ n + 1 →
        exec (.cutLimit i) s = .next (w.setLane i { x with cut := .cut, residue := 0 }))) ∧
    (∀ c, x.reenergise = some c → c ≠ w.now →
      (x.cut = .cut →
        let d := entryResidue i ((w.entry run.inForce).lanes[i]) 0 (w.laneAc sh run.inForce i)
        let live := w.setLane i { x with cut := .live, reenergise := none, residue := d }
        exec (.reenergise i) s =
          .next { live with tick := { w.tick with residueSet := including w.tick.residueSet i } }) ∧
      (∀ b n, x.cut = .cutting b n →
        exec (.reenergise i) s = .next (w.setLane i { x with cut := .live, reenergise := none }))) ∧
    (s.dueAction.isFinish = false →
      let deviates (j : Fin 12) : Prop :=
        w.tick.previous.isSome = true ∧ has sh.req.laneUse j = true ∧ (w.sup.lanes[j]).settings.enabled = true ∧
        has w.tick.compared j = false ∧ (w.sup.lanes[j]).missRun + 1 = (w.sup.lanes[j]).settings.missLimit ∧
        (w.sup.lanes[j]).missRun < 255 ∧
        ∀ f, w.tick.frame = some f → (w.sup.lanes[j]).settings.deviation < (f[j] - w.synth.commanded[j]).natAbs
      ∀ j, deviates i → deviates j → (∀ m, m < j → ¬deviates m) →
        ∃ t, exec (.deviationFault i) s = .next t ∧
          t.engine = .running sh { run with pendingEnd := some (run.pendingEnd.getD (.deviation j)) } ∧
          (∀ m : Fin 12,
            let y := w.sup.lanes[m]
            let compared : Prop := has sh.req.laneUse m = true ∧ y.settings.enabled = true ∧ has w.tick.compared m = false
            let hit : Prop := ∃ f, w.tick.frame = some f ∧ (f[m] - w.synth.commanded[m]).natAbs ≤ y.settings.deviation
            (deviates m →
              t.sup.lanes[m] = { y with missRun := y.settings.missLimit,
                                        condition := if y.condition = .ready then .deviation else y.condition } ∧
              (y.condition = .ready → (t.link .supervision).notices.laneFault = true)) ∧
            (¬compared → t.sup.lanes[m] = y) ∧
            (compared → hit → t.sup.lanes[m] = { y with missRun := 0 }) ∧
            (compared → ¬hit → ¬deviates m → t.sup.lanes[m] = { y with missRun := min 255 (y.missRun + 1) }) ∧
            exec (.deviationFault m) t = .next t) ∧
          t.synth = w.synth ∧ t.tables = w.tables ∧ t.queue = w.queue ∧ t.reports = w.reports)) ∧
  (∀ (s : State) (sh : Shot) (run : Run) (i : Fin 12), s.engine = .running sh run → s.dueAction.isFinish = true →
    let o := s.openTick
    let x := o.sup.lanes[i]
    o.tick.previous.isSome = true → has sh.req.laneUse i = true → x.settings.enabled = true → has o.tick.compared i = false →
    x.missRun + 1 = x.settings.missLimit → x.missRun < 255 →
    (∀ f, o.tick.frame = some f → x.settings.deviation < (f[i] - o.synth.commanded[i]).natAbs) →
      exec (.deviationFault i) s = exec .shotEnd s ∧ ∃ t, exec .shotEnd s = .next t ∧
        t.sup.lanes[i] = { x with missRun := x.settings.missLimit,
                                  condition := if x.condition = .ready then .deviation else x.condition } ∧
        (x.condition = .ready → (t.link .supervision).notices.laneFault = true)) ∧
  ∀ (s : State) (sh : Shot) (run : Run) (rep : Report), s.tickDue = true →
    let w := s.engineWork
    w.engine = .running sh run → w.reports[sh.slot] = .building rep →
      ∃ (t : State) (clipping : LaneSet), exec .sampleTick s = .next t ∧
        t.reports = w.reports.set sh.slot (.building { rep with visits := rep.visits.map fun v =>
          if v.number = run.visit then { v with clip := v.clip ||| clipping } else v }) ∧
        (∀ i : Fin 12, has clipping i = true ↔
          32767 < (roundDiv ((t.synth.lanes[i]).prev * 32767) (if i.val < 6 then 45255 else 42426)).natAbs) ∧
        (∀ i, w.deviates i = true →
          (t.sup.lanes[i]).condition = (if (w.sup.lanes[i]).condition = .ready then .deviation else (w.sup.lanes[i]).condition) ∧
          ((∀ m, m < i → w.deviates m = false) →
            t.engine = .running sh { run with pendingEnd := some (run.pendingEnd.getD (.deviation i)) })) ∧
        (w.tick.heat = false → w.deviating = none →
          let hot (j : Fin 6) : Prop := has sh.req.laneUse (currentLane j) = true ∧
            (t.sup.lanes[currentLane j]).settings.heatLimit * 20000000000 ≤ t.sup.heat[j]
          (∀ j, hot j → (∀ m, m < j → ¬hot m) →
            t.engine = .running sh { run with pendingEnd := some (run.pendingEnd.getD (.heat (currentLane j))) }) ∧
          ((∀ j, ¬hot j) → t.engine = w.engine))

/-- A residue decays toward 0 at every tick, never changes sign, is set to 0 once |d × c| is below 32,768, and reaches 0 after a
finite number of ticks, for every time constant of 1–1,000 ms (R75). -/
def Obligations.ResiduesDecayToZero : Prop :=
  ∀ (tau : Nat) (d : Int), 1 ≤ tau → tau ≤ 1000 →
    let c := roundDiv (65536 * 50) (tau * 1000)
    (∀ x : LaneSetting, x.tau = tau → decayed x d = decay d c) ∧
    ((d * c).natAbs < 32768 → decay d c = 0) ∧ (32768 ≤ (d * c).natAbs → decay d c = d - roundDiv (d * c) 65536) ∧
    (0 < d → 0 ≤ decay d c ∧ decay d c < d) ∧ (d < 0 → d < decay d c ∧ decay d c ≤ 0) ∧
    ∃ n : Nat, (fun x => decay x c)^[n] d = 0

/-- The sine table's relations (R71); the value of a lane without a residue stays within its full scale, so that its code never
clips (R73, R77, R78); and with offset on an entry leaves the lane's value where it was, the clamp on the residue apart (R74). -/
def Obligations.WavesStayWithinFullScale : Prop :=
  (sine 0 = 0 ∧ sine 2048 = 0 ∧ sine 1024 = 32767 ∧ sine 3072 = -32767 ∧
    (∀ k : Fin 4096, (sine k.val).natAbs ≤ 32767) ∧ ∀ k : Fin 4096, 1 ≤ k.val → sine (4096 - k.val) = -sine k.val) ∧
  (∀ (i : Fin 12) (x : LaneSetting) (rms step : Nat) (count : Int) (accum : Phase),
    (acValue x (effectiveRms i rms step count) accum).natAbs ≤ (if i.val < 6 then 45255 else 42426) ∧
      clips i (acValue x (effectiveRms i rms step count) accum) = false) ∧
  ∀ (i : Fin 12) (x : LaneSetting) (old new : Int), x.tau ≠ 0 → (old - new).natAbs ≤ 2 * Config.fullScale i →
    new + roundDiv (entryResidue i x old new) 65536 = old

/-! ## Contact inputs and breaker simulators -/

/-- CONTACT_RAW_EDGE (R88): a sample begins an episode of an enabled input at a level that is not the accepted one, or renews the
last raw change of one in progress. EPISODE_END (R88, R89, R91): the episode that has been steady for the debounce ends, and a level
that differs is accepted and handed on. Outside RUNNING and SETTLING nothing else changes. In RUNNING an operate sets the edge
latches that name the input, for an event at or after the visit entry and outside DEFERRING (R53), trips the CLOSED or CLOSING
simulators whose trip input it is (R104) and closes the OPEN ones whose close input it is (R105), a move whose time has run already
being completed (R106), with its cut requests, or with its re-energising requests for the lanes that no other simulator then holds
(R110); a reset clears the latches of the commands it ends (R103). That a waiting request stands at a CUTTING lane is
notes/assumptions/13.md, and that none is kept at a LIVE lane notes/assumptions/14.md; that the requests of one microsecond at a
CUTTING lane are judged together is notes/assumptions/45.md, and that the lower simulator starts a cutting both ask for
notes/assumptions/44.md. The level standing on
the line and each command being a sample of the microsecond are the model's choice (notes/assumptions/12.md), and so is the note of
the ended episode, kept for a shot that starts at this microsecond (notes/assumptions/38.md), and that EPISODE_END changes nothing
where no episode ends (notes/assumptions/4.md). -/
def Obligations.ContactSamplesAndEpisodes : Prop :=
  ∀ (s : State) (i : Fin 16),
    let c := s.contacts[i]
    (∀ level : Level,
      let episode := match c.episode with
        | none => if c.setting.enabled = true ∧ level ≠ c.accepted then some ⟨s.now, s.now⟩ else none
        | some e => if c.setting.enabled = true ∧ c.prevRaw ≠ some level then some ⟨e.start, s.now⟩ else some e
      exec (.contactRawEdge i level) s =
        .next { s with contacts := s.contacts.set i { c with pin := level, episode := episode } }) ∧
    ((∀ e, c.episode = some e → c.setting.enabled = false ∨ elapsed e.last s.now < c.setting.debounce) →
      exec (.episodeEnd i) s = .next s) ∧
    ∀ e, c.episode = some e → c.setting.enabled = true → c.setting.debounce ≤ elapsed e.last s.now →
      let noted := { s.tick with ended := s.tick.ended ++ [(i, c.accepted, e)] }
      (c.pin = c.accepted →
        exec (.episodeEnd i) s =
          .next { s with contacts := s.contacts.set i { c with episode := none }, tick := noted }) ∧
      (c.pin ≠ c.accepted → ∃ t, exec (.episodeEnd i) s = .next t ∧
        t.contacts = s.contacts.set i { c with episode := none, accepted := c.pin } ∧
        t.tables = s.tables ∧ t.queue = s.queue ∧ t.links = s.links ∧ t.sup = s.sup ∧ t.clock = s.clock ∧
        t.tick.ended = noted.ended ∧
        (s.engine = .idle ∨ (∃ sh start, s.engine = .armed sh start) → t = { s with contacts := t.contacts, tick := noted }) ∧
        ∀ sh run, s.engine = .running sh run →
          (∃ edges fresh, t.engine = .running sh { run with edges := edges, fresh := fresh } ∧
            ∀ n : Nat, n < 4 → (edges.getLsbD n = true ↔ run.edges.getLsbD n = true ∨
              (c.pin = c.setting.active ∧ run.deferral = none ∧
                elapsed e.start s.now ≤ elapsed (later run.startTime run.entry) s.now ∧
                ∃ mask target, (s.entry run.inForce).exits[n]? = some { kind := .inputEdge mask, target := target } ∧
                  has mask i = true))) ∧
          (∀ l : Fin 12,
            let x := s.synth.lanes[l]
            let past := elapsed (if elapsed run.startTime s.now < elapsed e.start s.now then run.startTime else e.start) s.now
            let binds (k : Fin 4) : Prop := (s.breakers[k]).setting.binds l = true
            let opens (k : Fin 4) : Prop :=
              let b := s.breakers[k]
              c.pin = c.setting.active ∧ b.setting.enabled = true ∧ b.setting.trip = some i ∧
                (b.position = .closed ∨ b.position = .closing) ∧ b.tripLatch = false ∧ b.setting.openTime ≤ past
            let closes (k : Fin 4) : Prop :=
              let b := s.breakers[k]
              c.pin = c.setting.active ∧ b.setting.enabled = true ∧ b.setting.trip ≠ some i ∧ b.setting.close = some i ∧
                b.position = .opened ∧ b.closeLatch = false ∧ b.setting.closeTime ≤ past
            let alone (k : Fin 4) : Prop := ∀ j : Fin 4, j ≠ k → (t.breakers[j]).holds l = false
            let moved := s.tick.moves
            let due : Prop := ∃ m, alone m ∧ (has moved.asked[l] m = true ∨
              (closes m ∧ binds m ∧ (has moved.begun l = false ∨ has moved.opened m = true)))
            let opened : Prop := ∃ k, opens k ∧ binds k
            let closed : Prop := ∃ k, closes k ∧ binds k
            let asked : SynthLane := { x with reenergise := some (x.reenergise.getD s.now) }
            (∀ k, opens k → binds k → (∀ m, m < k → opens m → ¬binds m) →
              (x.cut = .live → x.reenergise = none →
                (¬(due ∧ closed) → t.synth.lanes[l] = { x with cut := .cutting k 0 }) ∧
                (due → closed → t.synth.lanes[l] = { x with cut := .cutting k 0, reenergise := some s.now })) ∧
              (x.cut = .cut → t.synth.lanes[l] = { x with reenergise := none })) ∧
            (∀ b n, x.cut = .cutting b n →
              (due → closed → t.synth.lanes[l] = asked) ∧
              (due → ¬closed → t.synth.lanes[l] = x) ∧
              (¬due → opened → x.reenergise = some s.now → t.synth.lanes[l] = { x with reenergise := none }) ∧
              (¬due → ¬(opened ∧ x.reenergise = some s.now) → t.synth.lanes[l] = x)) ∧
            (¬opened →
              (x.cut = .live → t.synth.lanes[l] = x) ∧
              (x.cut = .cut → (∃ k, closes k ∧ binds k ∧ alone k) → t.synth.lanes[l] = asked) ∧
              (x.cut = .cut → (∀ k, closes k → binds k → ¬alone k) → t.synth.lanes[l] = x))) ∧
          ∀ k : Fin 4,
            let b := s.breakers[k]
            let start := if elapsed run.startTime s.now < elapsed e.start s.now then run.startTime else e.start
            let stands (x : Option (Fin 16)) : Bool := match x with
              | none => false
              | some j => (t.contacts[j]).setting.enabled && (t.contacts[j]).accepted == (t.contacts[j]).setting.active
            t.breakers[k] =
              if b.setting.enabled = false then b
              else if c.pin ≠ c.setting.active then
                { b with tripLatch := b.tripLatch && !(b.setting.trip == some i),
                         closeLatch := b.closeLatch && !(b.setting.close == some i) }
              else if b.setting.trip = some i then
                (if (b.position = .closed ∨ b.position = .closing) ∧ b.tripLatch = false then
                  (if elapsed start s.now < b.setting.openTime then
                    { b with position := .opening, timer := some (later start b.setting.openTime, .opened) }
                   else if stands b.setting.close = true ∧ b.closeLatch = false then
                    { b with position := .closing, timer := some (later s.now b.setting.closeTime, .closed),
                             tripLatch := stands b.setting.trip, interrupting := true }
                   else { b with position := .opened, timer := none, tripLatch := stands b.setting.trip,
                                 interrupting := true })
                 else b)
              else if b.setting.close = some i then
                (if b.position = .opened ∧ b.closeLatch = false then
                  (if elapsed start s.now < b.setting.closeTime then
                    { b with position := .closing, timer := some (later start b.setting.closeTime, .closed) }
                   else if stands b.setting.trip = true ∧ b.tripLatch = false then
                    { b with position := .opening, timer := some (later s.now b.setting.openTime, .opened),
                             closeLatch := stands b.setting.close, interrupting := false }
                   else { b with position := .closed, timer := none, closeLatch := stands b.setting.close,
                                 interrupting := false })
                 else b)
              else b)

/-- What a shot records of an accepted contact event and of the moves it begins (R92 to R98, R113). In RUNNING and SETTLING the
event is recorded when its event time is at or after the start time and, once settling, before the end time; an event dated to the
microsecond of a tick whose engine work is to come waits for it, as do the breaker elements of that microsecond
(notes/assumptions/9.md). A recorded event joins the timeline at its place, or sets the truncated flag when 32 are held; it enters
the element of its input in the visit whose interval holds it unless that visit has closed; and a reset writes the width of the
first operate it follows. A simulator writes an element for every move that begins or completes and for a refused close, in the
place its time and number give it, but not a 17th. Times are differences of clock readings modulo 2⁴⁸ (R163,
notes/assumptions/43.md). That a move already run writes both elements is the model's reading (notes/assumptions/15.md), and so is
that a reset writes every open width of its input (notes/assumptions/18.md). Which event or element finds the list full when several
fall in one microsecond follows the order of the commands, the model's choice (notes/assumptions/39.md, notes/assumptions/40.md). -/
def Obligations.EventsAreRecorded : Prop :=
  (∀ (s : State) (i : Fin 16) (e : Episode) (sh : Shot) (rep : Report),
    let c := s.contacts[i]
    let d : Direction := if c.pin = c.setting.active then .operate else .reset
    c.episode = some e → c.setting.enabled = true → c.setting.debounce ≤ elapsed e.last s.now → c.pin ≠ c.accepted →
    s.reports[sh.slot] = .building rep → ∃ t, exec (.episodeEnd i) s = .next t ∧
      (∀ start finish, s.engine = .settling sh (some start) finish → t.reports =
        if elapsed e.start s.now ≤ elapsed start s.now ∧ elapsed finish s.now < elapsed e.start s.now then
          s.reports.set sh.slot (.building (rep.record start s.now i d e.start))
        else s.reports) ∧
      (∀ finish, s.engine = .settling sh none finish → t.reports = s.reports) ∧
      ∀ run, s.engine = .running sh run →
        let from_ := if elapsed run.startTime s.now < elapsed e.start s.now then run.startTime else e.start
        let stands (x : Option (Fin 16)) : Bool := match x with
          | none => false
          | some j => (t.contacts[j]).setting.enabled && (t.contacts[j]).accepted == (t.contacts[j]).setting.active
        let changes (b : Simulator) : List BreakerChange :=
          if b.setting.enabled = false ∨ d = .reset then []
          else if b.setting.trip = some i then
            (if (b.position = .closed ∨ b.position = .closing) ∧ b.tripLatch = false then
              .opening :: (if elapsed from_ s.now < b.setting.openTime then []
                else .opened :: (if stands b.setting.close = true ∧ b.closeLatch = false then [.closing] else []))
             else [])
          else if b.setting.close = some i then
            (match b.position with
              | .opened => if b.closeLatch = true then [] else
                .closing :: (if elapsed from_ s.now < b.setting.closeTime then []
                  else .closed :: (if stands b.setting.trip = true ∧ b.tripLatch = false then [.opening] else []))
              | .opening => [.closeRefused]
              | .closing => [.closeRefused]
              | .closed => [])
          else []
        let elems := (List.finRange 4).flatMap fun k => (changes s.breakers[k]).map fun x => (k, x)
        let recorded (r : Report) : Report :=
          if elapsed e.start s.now ≤ elapsed run.startTime s.now then r.record run.startTime s.now i d e.start else r
        (∀ run', t.engine = .running sh run' → run'.fresh = if s.engineDue = true then run.fresh ++ elems else run.fresh) ∧
        t.tick.events = (if s.engineDue = true ∧ e.start = s.now then s.tick.events ++ [(i, d)] else s.tick.events) ∧
        t.reports = s.reports.set sh.slot (.building
          (if s.engineDue = true then (if e.start = s.now then rep else recorded rep)
           else recorded { rep with visits := rep.visits.map fun v =>
             if v.number = run.visit then v.addFresh (elapsed (later run.startTime run.entry) s.now) elems else v }))) ∧
  (∀ (rep : Report) (start now event : Clock) (i : Fin 16) (d : Direction),
    let r := rep.record start now i d event
    let t := elapsed start event
    let at_ (offset : Nat) : Clock := later start offset
    let x : TimelineEvent := { input := i, direction := d, time := t }
    (32 ≤ rep.timeline.length → r.timeline = rep.timeline ∧ r.header = { rep.header with truncated := true }) ∧
    (rep.timeline.length < 32 → r.header = rep.header ∧ ∃ before after, rep.timeline = before ++ after ∧
      r.timeline = before ++ x :: after ∧ (∀ y ∈ before, y.time < t ∨ (y.time = t ∧ y.input ≤ i)) ∧
      ∀ y ∈ after.head?, t < y.time ∨ (y.time = t ∧ i < y.input)) ∧
    r.results = rep.results ∧
    r.visits = rep.visits.map fun v =>
      let w : Visit :=
        if d = .reset then
          { v with inputs := v.inputs.map fun e =>
              if e.input = i ∧ e.width = none then
                { e with width := e.firstOperate.map fun o => elapsed (later (at_ v.entry) o) event }
              else e }
        else v
      if elapsed event now ≤ elapsed (at_ v.entry) now ∧ (∀ x ∈ v.exit, elapsed (at_ x) now < elapsed event now) ∧
          (v.exit = none ∨ v.closeAt ≠ none) then
        { w with inputs := addInput i d (elapsed (at_ v.entry) event) w.inputs }
      else w) ∧
  (∀ (i : Fin 16) (d : Direction) (time : Nat) (es : List InputElem), es.Pairwise (fun a b => a.input < b.input) →
    let fs := addInput i d time es
    fs.Pairwise (fun a b => a.input < b.input) ∧ (∀ e, e.input ≠ i → (e ∈ fs ↔ e ∈ es)) ∧
    (fs.find? fun e => e.input == i) = some (match es.find? (fun e => e.input == i), d with
      | none, .operate => { input := i, firstOperate := some time, width := none, firstReset := none, operates := 1 }
      | none, .reset => { input := i, firstOperate := none, width := none, firstReset := some time, operates := 0 }
      | some e, .operate =>
        { e with firstOperate := some (e.firstOperate.getD time), operates := min 255 (e.operates + 1) }
      | some e, .reset => { e with firstReset := some (e.firstReset.getD time) })) ∧
  ∀ (v : Visit) (e : BreakerElem),
    (16 ≤ v.breakers.length → v.addElem e = { v with truncated := true }) ∧
    (v.breakers.length < 16 → ∃ before after, v.breakers = before ++ after ∧
      v.addElem e = { v with breakers := before ++ e :: after } ∧
      (∀ y ∈ before, y.time < e.time ∨ (y.time = e.time ∧ y.sim ≤ e.sim)) ∧
      ∀ y ∈ after.head?, e.time < y.time ∨ (y.time = e.time ∧ e.sim < y.sim)) ∧
    ∀ (time : Nat) (es : List (Fin 4 × BreakerChange)),
      v.addFresh time es = es.foldl (fun v x => v.addElem { sim := x.1, change := x.2, time := time }) v

/-- MOVE_COMPLETE in RUNNING at a simulator's due time (R102, R103, R106, R110): reaching OPEN sets the interrupting flag, latches a
standing trip command and requests the cut of the bound lanes; reaching CLOSED clears the flag, latches a standing close command and
requests the re-energising of the bound lanes no other simulator holds (R110); and a standing command of the other kind whose latch
is clear begins the next move at once. The elements of the completion, and of the move that begins, join the current visit (R113),
but where the engine's work of a tick is to come at this microsecond they wait for it with the report unchanged: that they wait in
the running record is the model's reading (notes/assumptions/9.md). At a CUTTING lane the simulators that reach CLOSED at one
microsecond are judged together: the request stands while one of them finds the lane held by no other, in whatever order they move
(R107, R110, R115, notes/assumptions/45.md). That an earlier request stands at a CUTTING lane is the model's reading
(notes/assumptions/13.md), and so is that none is kept at a LIVE lane (notes/assumptions/14.md). At any other moment nothing
happens, the model's choice (notes/assumptions/4.md). -/
def Obligations.MoveCompleteReachesThePosition : Prop :=
  ∀ (s : State) (k : Fin 4) (sh : Shot) (run : Run), s.engine = .running sh run →
    let b := s.breakers[k]
    let stands (x : Option (Fin 16)) : Bool := match x with
      | none => false
      | some i => (s.contacts[i]).setting.enabled && (s.contacts[i]).accepted == (s.contacts[i]).setting.active
    let wrote (t : State) (changes : List BreakerChange) : Prop :=
      let elems := changes.map fun x => (k, x)
      (s.engineDue = true → t.engine = .running sh { run with fresh := run.fresh ++ elems } ∧ t.reports = s.reports) ∧
      (s.engineDue = false → t.engine = s.engine ∧
        (∀ rep, s.reports[sh.slot] = .building rep → t.reports = s.reports.set sh.slot (.building
          { rep with visits := rep.visits.map fun v =>
              if v.number = run.visit then v.addFresh (elapsed (later run.startTime run.entry) s.now) elems else v })) ∧
        ((∀ rep, s.reports[sh.slot] ≠ .building rep) → t.reports = s.reports))
    ((∀ level, b.timer ≠ some (s.now, level)) → exec (.moveComplete k) s = .next s) ∧
    (b.timer = some (s.now, .opened) → ∃ t, exec (.moveComplete k) s = .next t ∧
      t.breakers = s.breakers.set k
        (if stands b.setting.close = true ∧ b.closeLatch = false then
          { b with position := .closing, timer := some (later s.now b.setting.closeTime, .closed),
                   tripLatch := b.tripLatch || stands b.setting.trip, interrupting := true }
         else { b with position := .opened, timer := none, tripLatch := b.tripLatch || stands b.setting.trip,
                       interrupting := true }) ∧
      (∀ i : Fin 12, t.synth.lanes[i] =
        if b.setting.binds i = true then
          (match (s.synth.lanes[i]).cut with
            | .live => { s.synth.lanes[i] with cut := .cutting k 0 }
            | .cutting _ _ =>
              if (s.synth.lanes[i]).reenergise = some s.now ∧ (∀ m : Fin 4, has s.tick.moves.asked[i] m = true →
                  ∃ j : Fin 4, j ≠ m ∧ (t.breakers[j]).holds i = true) then
                { s.synth.lanes[i] with reenergise := none }
              else s.synth.lanes[i]
            | .cut => { s.synth.lanes[i] with reenergise := none })
        else s.synth.lanes[i]) ∧
      wrote t (if stands b.setting.close = true ∧ b.closeLatch = false then [.opened, .closing] else [.opened]) ∧
      (∀ i : Fin 12, has t.tick.moves.begun i = (has s.tick.moves.begun i ||
        (b.setting.binds i && (s.synth.lanes[i]).cut == .live))) ∧
      t = { s with breakers := t.breakers, synth := { s.synth with lanes := t.synth.lanes }, engine := t.engine,
                   reports := t.reports, tick := { s.tick with moves := { s.tick.moves with
                     opened := including s.tick.moves.opened k, begun := t.tick.moves.begun } } }) ∧
    (b.timer = some (s.now, .closed) → ∃ t, exec (.moveComplete k) s = .next t ∧
      t.breakers = s.breakers.set k
        (if stands b.setting.trip = true ∧ b.tripLatch = false then
          { b with position := .opening, timer := some (later s.now b.setting.openTime, .opened),
                   closeLatch := b.closeLatch || stands b.setting.close, interrupting := false }
         else { b with position := .closed, timer := none, closeLatch := b.closeLatch || stands b.setting.close,
                       interrupting := false }) ∧
      (∀ i : Fin 12, t.synth.lanes[i] =
        let asked := { s.synth.lanes[i] with reenergise := some ((s.synth.lanes[i]).reenergise.getD s.now) }
        if b.setting.binds i = true then
          (match (s.synth.lanes[i]).cut with
            | .live => s.synth.lanes[i]
            | .cutting _ _ =>
              if ∃ m : Fin 4, has t.tick.moves.asked[i] m = true ∧ ∀ j : Fin 4, j ≠ m → (t.breakers[j]).holds i = false then asked
              else s.synth.lanes[i]
            | .cut => if ∀ j : Fin 4, j ≠ k → (s.breakers[j]).holds i = false then asked else s.synth.lanes[i])
        else s.synth.lanes[i]) ∧
      wrote t (if stands b.setting.trip = true ∧ b.tripLatch = false then [.closed, .opening] else [.closed]) ∧
      (∀ (i : Fin 12) (m : Fin 4), has t.tick.moves.asked[i] m = (has s.tick.moves.asked[i] m ||
        (m == k && b.setting.binds i && (s.synth.lanes[i]).cut != .live &&
          (!has s.tick.moves.begun i || has s.tick.moves.opened k)))) ∧
      t = { s with breakers := t.breakers, synth := { s.synth with lanes := t.synth.lanes }, engine := t.engine,
                   reports := t.reports, tick := { s.tick with moves := { s.tick.moves with asked := t.tick.moves.asked } } })

/-! ## Assessments and reports -/

/-- The measured value of an assessment, read from the visit's records as the table of R137 has it: the input's first operate or
first reset time, or the time of the simulator's earliest OPEN or CLOSED element, to which the origin SHOT_START adds the visit's
entry time, and absent where the element or the field is. A sum of 2⁴⁸ or more is left out here (notes/assumptions/43.md). The
verdict of an assessment: by the compare mode where a value was measured and NOT_MEASURED where none was, counted apart from FAIL
(R138); and for NO_OPERATE by the presence of an operate in the visit alone (R139). -/
def Obligations.VerdictsFollowTheCompareMode : Prop :=
  (∀ (v : Visit) (a : Assessment),
    let reads (time : Option Nat) : Prop :=
      (time = none → v.measured a = none) ∧
      ∀ t, time = some t → (a.origin = .visitEntry → v.measured a = some t) ∧
        (a.origin = .shotStart → t + v.entry < 281474976710656 → v.measured a = some (t + v.entry))
    let first (k : Fin 4) (c : BreakerChange) : Prop :=
      v.breakers.Pairwise (fun x y => x.time ≤ y.time) →
        ((∀ x ∈ v.breakers, ¬(x.sim = k ∧ x.change = c)) → reads none) ∧
        ∀ x ∈ v.breakers, x.sim = k → x.change = c →
          (∀ y ∈ v.breakers, y.sim = k → y.change = c → x.time ≤ y.time) → reads (some x.time)
    v.inputs.Pairwise (fun x y => x.input < y.input) →
      (∀ i, a.kind = .operate i ∨ a.kind = .reset i ∨ a.kind = .noOperate i →
        (∀ x ∈ v.inputs, x.input ≠ i) → reads none) ∧
      (∀ x ∈ v.inputs, (a.kind = .operate x.input ∨ a.kind = .noOperate x.input → reads x.firstOperate) ∧
        (a.kind = .reset x.input → reads x.firstReset)) ∧
      (∀ k, a.kind = .breakerOpen k → first k .opened) ∧ ∀ k, a.kind = .breakerClose k → first k .closed) ∧
  ∀ (v : Visit) (a : Assessment),
    ((∀ i, a.kind ≠ .noOperate i) →
      (v.measured a = none → v.judge a = (.notMeasured, none)) ∧
      ∀ m, v.measured a = some m →
        (a.mode = .below → v.judge a = if m < a.high then (.pass, some m) else (.fail, some m)) ∧
        (a.mode = .above → v.judge a = if a.low < m then (.pass, some m) else (.fail, some m)) ∧
        (a.mode = .inside → v.judge a = if a.low ≤ m ∧ m ≤ a.high then (.pass, some m) else (.fail, some m)) ∧
        (a.mode = .outside → v.judge a = if m < a.low ∨ a.high < m then (.pass, some m) else (.fail, some m))) ∧
    (∀ i, a.kind = .noOperate i →
      (v.inputElem i = none → v.judge a = (.pass, none)) ∧
      (∀ e, v.inputElem i = some e → e.operates = 0 → v.judge a = (.pass, none)) ∧
      ∀ e, v.inputElem i = some e → e.operates ≠ 0 → v.judge a = (.fail, v.measured a)) ∧
    ∀ h : Header, h.count .notMeasured = { h with notMeasured := h.notMeasured + 1 } ∧
      h.count .fail = { h with fail := h.fail + 1 }

/-- SUBSCRIBE and RETIRE_REPORT (R144, R145, R149, R150): the checks, the threshold clamped to 1–16, the pending sets the link
leaves, and the slots that become EMPTY with the halves bound to them, which is a moment for a grant (R31). That SUBSCRIBE OFF tries
a grant even where no slot becomes EMPTY is the model's reading (notes/assumptions/7.md). -/
def Obligations.SubscribeAndRetire : Prop :=
  (∀ (l : Link) (tag subscription threshold : Byte) (s : State),
    let level := max 1 (min 16 threshold.toNat)
    (1 < subscription.toNat → exec (.subscribe l tag subscription threshold) s =
      .next (s.refuse l Kind.subscribe.code tag (.badField { part := .request, field := 0 }))) ∧
    (subscription = 1 → exec (.subscribe l tag subscription threshold) s = .next (s.setLink l
      { s.link l with subscribed := true, threshold := level,
                      reply := some (okReply .subscribe tag
                        (.subscribed true level (decide (level ≠ threshold.toNat)) 0)) })) ∧
    (subscription = 0 → ∃ (u : State) (emptied : SlotSet),
      exec (.subscribe l tag subscription threshold) s = .next (u.grantMoment.setReply l
        (okReply .subscribe tag (.subscribed false level (decide (level ≠ threshold.toNat)) emptied))) ∧
      (∀ k : Fin 16, (has emptied k = true ↔
          ∃ r w, s.reports[k] = .complete r w ∧ has w l.number = true ∧ excluding w l.number = 0) ∧
        u.reports[k] = match s.reports[k] with
          | .complete r w =>
            if has w l.number = true then
              (if excluding w l.number = 0 then .empty else .complete r (excluding w l.number))
            else .complete r w
          | x => x) ∧
      (∀ h : HalfId, u.captures.get h = match (s.captures.get h).state with
        | .held k _ => if has emptied k = true then .free else s.captures.get h
        | _ => s.captures.get h) ∧
      u.links = (s.setLink l { s.link l with subscribed := false, threshold := level }).links ∧
      u = { s with reports := u.reports, captures := u.captures, links := u.links })) ∧
  ∀ (l : Link) (tag slot : Byte) (serial : Half16) (s : State),
    let refused (d : Denial) := exec (.retireReport l tag slot serial) s =
      .next (s.refuse l Kind.retireReport.code tag d)
    if h : slot.toNat < 16 then
      let k : Fin 16 := ⟨slot.toNat, h⟩
      match s.reports[k] with
      | .complete r w =>
        if serial.toNat ≠ r.header.serial ∨ has w l.number = false then refused .noReport
        else if excluding w l.number = 0 then
          ∃ freed : Captures,
            (∀ h : HalfId, freed.get h = match (s.captures.get h).state with
              | .held j _ => if j = k then .free else s.captures.get h
              | _ => s.captures.get h) ∧
            exec (.retireReport l tag slot serial) s =
              .next ((({ s with reports := s.reports.set k .empty, captures := freed } : State).grantMoment).setReply l
                (okReply .retireReport tag (.retired k serial.toNat 0 true)))
        else
          exec (.retireReport l tag slot serial) s =
            .next (({ s with reports := s.reports.set k (.complete r (excluding w l.number)) } : State).setReply l
              (okReply .retireReport tag (.retired k serial.toNat (excluding w l.number) false)))
      | _ => refused .noReport
    else refused (.badField { part := .request, field := 0 })

/-- The Capture Memory while its shot runs (R155 to R159). At the opening of every tick the sample record of the previous tick, with
the readback of the capture lanes from this tick's frame, is written into the half and handled by its phase: kept in PRE_TRIGGER,
the oldest going when 8,192 are held; taken as the trigger record at the trigger's tick, with the last min(p, w) records before it;
and added until 8,192 are held. SAMPLE_TICK keeps the levels that the next record shows. The first operate of an input of the
trigger mask, at the first tick to come, and the entry of a state with a capture mark, at its tick, are the trigger while the phase
is PRE_TRIGGER. The stop at the end gives the marks that the phase stands for. The output levels are those of R108 and R109: in
RUNNING the 'a' output of an enabled simulator is closed in CLOSED and OPENING and its 'b' output in OPEN and CLOSING, an output
that none names is closed when it is in the pattern of the state in force, and outside RUNNING every output is open. That an operate
taken once the engine's work at a tick is done counts for the next tick is the model's choice (notes/assumptions/41.md), and so is
that an empty capture lane mask gives readback values present and empty (notes/assumptions/42.md). -/
def Obligations.CaptureRecordsEveryTick : Prop :=
  (∀ (s : State) (sh : Shot) (run : Run) (h : HalfId), s.engine = .running sh run →
    let x := s.captures.get h
    (s.tick.opened = true → s.openTick = s) ∧
    (s.tick.opened = false → s.openTick.tick.frame = s.sup.frameIn ∧ s.openTick.sup.frameIn = none ∧
      s.openTick.captures.get h =
        if sh.half ≠ some h then x
        else match s.tick.previous with
          | none => x
          | some lv =>
            let r : Sample :=
              { offset := lv.offset, inputs := lv.inputs, outputs := lv.outputs,
                readback := s.sup.frameIn.map fun f => (members x.lanes).map fun i => f[i] }
            let circular : Half :=
              { x with records := (if x.records.length < 8192 then x.records else x.records.drop 1) ++ [r],
                       written := x.written + 1 }
            let kept := x.records.drop (x.records.length - min x.preCount x.written)
            match x.phase with
              | .preTrigger => circular
              | .triggerNoted tick =>
                if lv.offset = tick then
                  { x with records := kept ++ [r], written := x.written + 1, trigger := some kept.length,
                           phase := if kept.length + 1 < 8192 then .postTrigger else .full }
                else circular
              | .postTrigger =>
                { x with records := x.records ++ [r], written := x.written + 1,
                         phase := if x.records.length + 1 < 8192 then .postTrigger else .full }
              | .full => { x with written := x.written + 1 }
              | _ => x)) ∧
  (∀ (s : State) (sh : Shot) (run : Run), s.engine = .running sh run → s.dueAction = .stay →
    ∃ t lv, exec .sampleTick s = .next t ∧ t.captures = s.openTick.captures ∧ t.tick.previous = some lv ∧
      lv.offset = s.offset run.startTime ∧ lv.outputs = t.outputs ∧
      ∀ i : Fin 16, has lv.inputs i = true ↔ (s.contacts[i]).accepted = .closed) ∧
  (∀ (s : State) (sh : Shot) (run : Run) (i : Fin 16) (e : Episode) (h : HalfId), s.engine = .running sh run →
    let c := s.contacts[i]
    let x := s.captures.get h
    let next := if s.engineDue = true then s.offset run.startTime
      else elapsed run.startTime (later s.now (50 - (s.now.toNat + 50 - s.clock.anchor) % 50))
    c.episode = some e → c.setting.enabled = true → c.setting.debounce ≤ elapsed e.last s.now → c.pin ≠ c.accepted →
      ∃ t, exec (.episodeEnd i) s = .next t ∧ t.captures.get h =
        if sh.half = some h ∧ c.pin = c.setting.active ∧ has x.trigMask i = true ∧ x.phase = .preTrigger then
          { x with phase := .triggerNoted next }
        else x) ∧
  (∀ (s : State) (sh : Shot) (run : Run) (slot : Nat) (e : Exit) (n : Fin 64) (h : HalfId), s.engine = .running sh run →
    (∀ k : Fin 4, s.moveDue k = false) → s.dueExit = some (slot, e) → (∃ limit, e.kind = .time limit) →
    e.target = .state n → run.visit + 1 < 64 → s.reached run n = true →
      let x := s.openTick.captures.get h
      ∃ t, exec .timeExit s = .next t ∧ t.captures.get h =
        if sh.half = some h ∧ (s.entry n).captureMark = true ∧ x.phase = .preTrigger then
          { x with phase := .triggerNoted (s.offset run.startTime) }
        else x) ∧
  (∀ (s : State) (o : Fin 8),
    (s.engine.isRunning = false → has s.outputs o = false) ∧
    ∀ sh run, s.engine = .running sh run →
      let claims (k : Fin 4) : Prop := (s.breakers[k]).setting.enabled = true ∧
        ((s.breakers[k]).setting.aOut = some o ∨ (s.breakers[k]).setting.bOut = some o)
      ((∀ k, ¬claims k) → has s.outputs o = has (s.entry run.inForce).pattern o) ∧
      ∀ k, claims k → (∀ j, claims j → j = k) →
        ((s.breakers[k]).setting.aOut = some o →
          (has s.outputs o = true ↔ (s.breakers[k]).position = .closed ∨ (s.breakers[k]).position = .opening)) ∧
        ((s.breakers[k]).setting.aOut ≠ some o →
          (has s.outputs o = true ↔ (s.breakers[k]).position = .opened ∨ (s.breakers[k]).position = .closing))) ∧
  ∀ x : Half,
    ((x.phase = .waiting ∨ x.phase = .preTrigger ∨ ∃ tick, x.phase = .triggerNoted tick) →
      x.stop = { x with phase := .stopped, untriggered := true }) ∧
    (x.phase = .postTrigger → x.stop = { x with phase := .stopped, cutShort := true }) ∧
    (x.phase = .full → x.stop = { x with phase := .stopped })

/-- READ_REPORT (R148) and READ_CAPTURE (R161, R183): the checks in their order, the part or the records returned, and nothing
changed but the link's reply. That the count is judged before the first index or record is the model's reading
(notes/assumptions/26.md). -/
def Obligations.ReadsReturnTheirPart : Prop :=
  (∀ (l : Link) (tag slot : Byte) (serial : Half16) (part visit : Byte) (first : Half16) (count : Byte) (s : State),
    let run := exec (.readReport l tag slot serial part visit first count) s
    let refused (d : Denial) := run = .next (s.refuse l Kind.readReport.code tag d)
    let field (n : Nat) : Denial := .badField { part := .request, field := n }
    let gives (b : ReplyBody) := run = .next (s.setReply l (okReply .readReport tag b))
    if h : slot.toNat < 16 then
      match s.reports[(⟨slot.toNat, h⟩ : Fin 16)] with
      | .empty => refused .noReport
      | .building _ => refused .notReady
      | .complete r _ =>
        if serial.toNat ≠ 0 ∧ serial.toNat ≠ r.header.serial then refused .noReport
        else if 3 < part.toNat then refused (field 2)
        else if (part = 1 ∨ part = 3) ∧ r.header.mode ≠ .full then refused (field 2)
        else if part = 1 ∧ r.visits.length ≤ visit.toNat then refused (field 3)
        else if part = 2 ∧ (count.toNat < 1 ∨ 32 < count.toNat) then refused (field 5)
        else if part = 2 ∧ r.results.length < first.toNat then refused (field 4)
        else
          (part = 0 → gives (.header r.header)) ∧
          (∀ v, part = 1 → r.visits[visit.toNat]? = some v → gives (.visit r.header.serial v)) ∧
          (part = 2 → gives (.results r.header.serial ((r.results.drop first.toNat).take count.toNat))) ∧
          (part = 3 → gives (.timeline r.header.serial r.timeline))
    else refused (field 0)) ∧
  ∀ (l : Link) (tag half : Byte) (first : Half16) (count : Byte) (s : State),
    let run := exec (.readCapture l tag half first count) s
    let refused (d : Denial) := run = .next (s.refuse l Kind.readCapture.code tag d)
    let field (n : Nat) : Denial := .badField { part := .request, field := n }
    if 1 < half.toNat then refused (field 0)
    else
      let id : HalfId := if half = 0 then .a else .b
      let x := s.captures.get id
      match x.state with
      | .held slot serial =>
        if count.toNat < 1 ∨ 32 < count.toNat then refused (field 2)
        else if x.records.length < first.toNat then refused (field 1)
        else run = .next (s.setReply l (okReply .readCapture tag (.capture id slot serial x.records.length x.trigger
          x.lanes ((x.records.drop first.toNat).take
            (min count.toNat (1006 / (4 + 3 * (members x.lanes).length)))))))
      | _ => refused .noCapture

/-- REPORT_STATUS (R146, R147), SUPERVISION_STATUS (R132) and TIME_STATUS (R172): taken from any link, with the figures as they
stand, and nothing changed but the link's reply. -/
def Obligations.StatusRequestsChangeNothing : Prop :=
  ∀ (l : Link) (tag : Byte) (s : State),
    (∃ n, exec (.reportStatus l tag) s = .next (s.setReply l (okReply .reportStatus tag
        (.reportStatus (s.reports.toList.map Slot.row) (s.link l).subscribed (s.link l).threshold n
          (decide ((s.link l).threshold ≤ n))))) ∧
      n = ((List.finRange 16).filter fun k => match s.reports[k] with
        | .complete _ w => has w l.number
        | _ => false).length) ∧
    exec (.supervisionStatus l tag) s = .next (s.setReply l (okReply .supervisionStatus tag
      (.supervisionStatus s.sup.inhibit s.sup.override
        ((List.finRange 12).map fun i =>
          { settings := (s.sup.lanes[i]).settings, condition := (s.sup.lanes[i]).condition,
            missRun := (s.sup.lanes[i]).missRun,
            supervised := match s.engine.shot? with
              | none => false
              | some sh => has sh.req.laneUse i && (s.sup.lanes[i]).settings.enabled })
        ((List.finRange 6).map fun i =>
          let half := (s.sup.lanes[currentLane i]).settings.heatLimit * 10000000000
          { account := s.sup.heat[i], half := half, above := decide (half < s.sup.heat[i]) })
        s.sup.lastFrame.toList))) ∧
    exec (.timeStatus l tag) s = .next (s.setReply l (okReply .timeStatus tag
      (.timeStatus s.now s.clock.anchor
        (match s.engine with
          | .running _ _ => true
          | .settling _ _ _ => true
          | _ => false)
        s.clock.discipline s.clock.quality s.clock.count s.clock.reference s.clock.deviation
        (match s.clock.reference, s.clock.quality with
          | some r, .acquiring => some (later r 1000101)
          | some r, .locked => some (later r 1000101)
          | some r, .holdover => some (later r 10000000)
          | _, _ => none))))

/-! ## Output supervision -/

/-- SET_SUPERVISION (R116, R117), DECLARE_LANE_FAULT (R118, R119) and CLEAR_LANE_FAULT (R120): the checks in their order and the
lane's items, with the end a declared fault requests and the moments for a grant. That a grant is tried also where the lane was
READY already, or nothing cooled, is the model's reading (notes/assumptions/7.md). -/
def Obligations.SupervisionRequestsSetTheLane : Prop :=
  (∀ (l : Link) (tag lane enabled : Byte) (deviation : Half16) (missLimit : Byte) (rating heatLimit : Half16) (s : State),
    let run := exec (.setSupervision l tag lane enabled deviation missLimit rating heatLimit) s
    let refused (d : Denial) := run = .next (s.refuse l Kind.setSupervision.code tag d)
    let field (n : Nat) : Denial := .badField { part := .request, field := n }
    if l ≠ .supervision then refused .notPermitted
    else if h : lane.toNat < 12 then
      let i : Fin 12 := ⟨lane.toNat, h⟩
      if s.engine ≠ .idle then refused .locked
      else if missLimit = 0 then refused (field 3)
      else if i.val < 6 ∧ (rating = 0 ∨ 32000 < rating.toNat) then refused (field 4)
      else if i.val < 6 ∧ (heatLimit = 0 ∨ 50000 < heatLimit.toNat) then refused (field 5)
      else
        let x : SupSettings :=
          { enabled := decide (enabled ≠ 0), deviation := deviation.toNat, missLimit := missLimit.toNat,
            rating := if i.val < 6 then rating.toNat else 0, heatLimit := if i.val < 6 then heatLimit.toNat else 0 }
        ∃ heat, (∀ j : Fin 6, currentLane j = i → heat = some (s.sup.heat[j], heatLimit.toNat * 10000000000)) ∧
          (6 ≤ i.val → heat = none) ∧
          let lane := { s.sup.lanes[i] with settings := x, missRun := 0 }
          run = .next ((({ s with sup := { s.sup with lanes := s.sup.lanes.set i lane } } : State).grantMoment).setReply l
            (okReply .setSupervision tag (.supervision i x heat)))
    else refused (field 0)) ∧
  ∀ (l : Link) (tag lane : Byte) (s : State),
    let declare := exec (.declareLaneFault l tag lane) s
    let clear := exec (.clearLaneFault l tag lane) s
    let both (d : Denial) := declare = .next (s.refuse l Kind.declareLaneFault.code tag d) ∧
      clear = .next (s.refuse l Kind.clearLaneFault.code tag d)
    if l ≠ .supervision then both .notPermitted
    else if h : lane.toNat < 12 then
      let i : Fin 12 := ⟨lane.toNat, h⟩
      let was := (s.sup.lanes[i]).condition
      let ends : Bool := match s.engine with
        | .armed sh _ => has sh.req.laneUse i
        | .running sh _ => has sh.req.laneUse i
        | _ => false
      let declared := { s.sup.lanes[i] with condition := .declared }
      let cleared := { s.sup.lanes[i] with condition := .ready, missRun := 0 }
      let marked : State := { s with sup := { s.sup with lanes := s.sup.lanes.set i declared } }
      let noticed : State := if was = .declared then marked else marked.setLink .supervision
        { marked.link .supervision with
          notices := { (marked.link .supervision).notices with laneFault := true } }
      declare = .next ((if ends then noticed.requestEnd (.laneFault i) else noticed).setReply l
        (okReply .declareLaneFault tag (.declared i was ends))) ∧
      clear = .next ((({ s with sup := { s.sup with lanes := s.sup.lanes.set i cleared } } : State).grantMoment).setReply l
        (okReply .clearLaneFault tag (.cleared i was)))
    else both (.badField { part := .request, field := 0 })

/-- SET_OVERRIDE (R130), the INHIBIT edges (R127 to R129, R131) and READBACK_FRAME (R121): the latch, the held level with the
judgement of the granted shot and the moments for a grant, and the frame kept for the coming tick. The level standing on the INHIBIT
line, and each command being a sample of the microsecond, are the model's choice (notes/assumptions/12.md). -/
def Obligations.OverrideInhibitAndReadback : Prop :=
  (∀ (l : Link) (tag action : Byte) (s : State),
    let run := exec (.setOverride l tag action) s
    if l ≠ .supervision then run = .next (s.refuse l Kind.setOverride.code tag .notPermitted)
    else if 2 < action.toNat then
      run = .next (s.refuse l Kind.setOverride.code tag (.badField { part := .request, field := 0 }))
    else
      let was := s.sup.override
      let latch : Bool := if action = 0 then true else if action = 1 then false else !was
      let base : State := { s with sup := { s.sup with override := latch } }
      let u : State :=
        if s.sup.inhibit = true ∧ was = false ∧ latch = true then base.grantMoment
        else if s.sup.inhibit = true ∧ was = true ∧ latch = false then base.requestEnd .inhibited
        else base
      run = .next (u.setReply l (okReply .setOverride tag (.override was latch s.sup.inhibit)))) ∧
  (∀ s : State,
    (s.sup.inhibit = false → exec .inhibitAssert s =
      .next (({ s with sup := { s.sup with pin := true, inhibit := true, override := false } } : State).requestEnd
        .inhibited)) ∧
    (s.sup.inhibit = true → exec .inhibitAssert s = .next { s with sup := { s.sup with pin := true } }) ∧
    (s.sup.inhibit = true → exec .inhibitDeassert s =
      .next ({ s with sup := { s.sup with pin := false, inhibit := false } } : State).grantMoment) ∧
    (s.sup.inhibit = false → exec .inhibitDeassert s = .next { s with sup := { s.sup with pin := false } })) ∧
  ∀ (f : Frame) (s : State), ∃ values : Vector Int 12, (∀ i : Fin 12, values[i] = (f[i]).toInt) ∧
    exec (.readbackFrame f) s = .next { s with sup := { s.sup with lastFrame := values, frameIn := some values } }

/-! ## The Test Clock -/

/-- SET_DISCIPLINE (R166), QUALITY_EXPIRY (R168) and CLOCK_WRAP (R163, R164), with what a change of the time quality hands on
(R171): the notices of Plan and Panel, and the end of a waiting SECOND shot when the quality becomes FREE or DISABLED. That
CLOCK_WRAP has no effect at another clock value or with work due (notes/assumptions/4.md, notes/assumptions/30.md), and that a
quality expires once at least its time has passed (notes/assumptions/29.md), is the model's. -/
def Obligations.DisciplineAndExpiries : Prop :=
  (∀ (s : State) (q : Quality),
    (s.clock.quality = q → s.setQuality q = s) ∧
    (s.clock.quality ≠ q →
      let told (x : LinkState) : LinkState := { x with notices := { x.notices with timeQuality := true } }
      let t : State := { s with clock := { s.clock with quality := q },
                                links := { s.links with plan := told s.links.plan, panel := told s.links.panel } }
      s.setQuality q = match s.engine with
        | .armed sh none => if sh.req.condition = .second ∧ (q = .disabled ∨ q = .free) then t.requestEnd .timeLost else t
        | _ => t)) ∧
  (∀ (l : Link) (tag setting : Byte) (s : State),
    let run := exec (.setDiscipline l tag setting) s
    if l ≠ .plan then run = .next (s.refuse l Kind.setDiscipline.code tag .notPermitted)
    else if 1 < setting.toNat then
      run = .next (s.refuse l Kind.setDiscipline.code tag (.badField { part := .request, field := 0 }))
    else
      let on := decide (setting = 1)
      let q : Quality := if on then .free else .disabled
      let u : State :=
        if s.clock.discipline = on then s
        else ({ s with clock := { s.clock with discipline := on, reference := none, count := 0 } } : State).setQuality q
      run = .next (u.setReply l (okReply .setDiscipline tag
        (.discipline on (if s.clock.discipline = on then s.clock.quality else q))))) ∧
  (∀ (s : State) (r : Clock), s.clock.reference = some r →
    let gone : State := { s with clock := { s.clock with reference := none, count := 0 } }
    (s.clock.quality = .acquiring → exec .qualityExpiry s =
      .next (if 1000101 ≤ elapsed r s.now then gone.setQuality .free else s)) ∧
    (s.clock.quality = .locked → exec .qualityExpiry s =
      .next (if 1000101 ≤ elapsed r s.now then s.setQuality .holdover else s)) ∧
    (s.clock.quality = .holdover → exec .qualityExpiry s =
      .next (if 10000000 ≤ elapsed r s.now then gone.setQuality .free else s))) ∧
  (∀ s : State, (s.clock.quality = .free ∨ s.clock.quality = .disabled) → exec .qualityExpiry s = .next s) ∧
  ∀ s : State,
    ((s.now ≠ BitVec.allOnes 48 ∨ s.dueWork ≠ none) → exec .clockWrap s = .next s) ∧
    (s.now = BitVec.allOnes 48 → s.dueWork = none → ∃ t, exec .clockWrap s = .next t ∧ t.now = 0 ∧
      t.clock.anchor = (s.clock.anchor + 44) % 50 ∧ t.clock.quality = s.clock.quality ∧
      t.clock.reference = s.clock.reference ∧ t.engine = s.engine ∧ t.tables = s.tables ∧ t.queue = s.queue ∧
      t.synth = s.synth ∧ t.sup = s.sup ∧ t.reports = s.reports ∧ t.captures = s.captures ∧ t.links = s.links)

/-- MARK (R165, R167, R169, R170): a high sample after a low one with discipline ON is accepted or ignored as the table of R167
gives, an accepted mark becoming the reference, writing the deviation and re-anchoring the grid unless the engine is RUNNING or
SETTLING; and an accepted mark starts the SECOND shot that is ARMED with its start latch clear (R47). That MARK is a sample that
finds the line high is the model's choice (notes/assumptions/11.md), and that the start of the SECOND shot is done within MARK its
reading (notes/assumptions/10.md). -/
def Obligations.MarksFollowTheTable : Prop :=
  ∀ s : State,
    let seen : State := { s with clock := { s.clock with markNow := true } }
    let ignored := exec .mark s = .next seen
    let accepted (q : Quality) (count : Nat) (deviation : Option Int) : Prop := ∃ t, exec .mark s = .next t ∧
      t.clock =
        { s.clock with
          markNow := true, quality := q, count := count, deviation := deviation, reference := some s.now,
          anchor := match s.engine with
            | .running _ _ => s.clock.anchor
            | .settling _ _ _ => s.clock.anchor
            | _ => s.now.toNat % 50 } ∧
      (∀ sh, s.engine = .armed sh none → sh.req.condition = .second → ∃ run, t.engine = .running sh run ∧
        run.startTime = s.now ∧ run.visit = 0 ∧ run.inForce = sh.req.start ∧ run.entry = 0) ∧
      ((∀ sh, s.engine = .armed sh none → sh.req.condition ≠ .second) → t.engine = s.engine) ∧
      t.tables = s.tables ∧ t.queue = s.queue
    if s.clock.markPrev ≠ some false ∨ s.clock.markNow = true then ignored
    else if s.clock.discipline = false then ignored
    else
      (s.clock.quality = .disabled → ignored) ∧ (s.clock.quality = .free → accepted .acquiring 0 none) ∧
      ∀ r, s.clock.reference = some r →
        let d := elapsed r s.now
        let near (n : Nat) : Prop := n * 1000000 - 100 ≤ d ∧ d ≤ n * 1000000 + 100
        (s.clock.quality = .acquiring →
          (near 1 → accepted (if s.clock.count + 1 = 3 then .locked else .acquiring) (s.clock.count + 1)
            (some ((d : Int) - 1000000))) ∧
          (¬near 1 → accepted .acquiring 0 (some ((d : Int) - 1000000)))) ∧
        (s.clock.quality = .locked →
          (near 1 → accepted .locked s.clock.count (some ((d : Int) - 1000000))) ∧ (¬near 1 → ignored)) ∧
        (s.clock.quality = .holdover →
          (∀ n, 2 ≤ n → n ≤ 10 → near n → accepted .locked s.clock.count (some ((d : Int) - n * 1000000))) ∧
          ((∀ n, 2 ≤ n → n ≤ 10 → ¬near n) → ignored))

/-! ## Invariants of every step -/

/-- Exactly the granted shot's slot is BUILDING, every COMPLETE report waits for a link, a half is FILLING exactly for the granted
shot that took it and HELD only for a COMPLETE report with its serial: every step keeps this (R134, R144, R153). -/
def Obligations.StepsKeepSlotsAndHalvesBound : Prop :=
  ∀ s t : State, s.SlotsBound → s.CompletesWait → s.HalvesBound → step s = .next t →
    t.SlotsBound ∧ t.CompletesWait ∧ t.HalvesBound

/-- While INHIBIT is asserted no shot is ARMED or RUNNING unless the override is set and its lane-use mask is empty, but for a
RUNNING shot whose end is pending: every step keeps this (R128). -/
def Obligations.StepsKeepShotsOffUnderInhibit : Prop :=
  ∀ s t : State, s.InhibitHolds → step s = .next t → t.InhibitHolds

/-- Every step keeps the contact inputs and simulators as their units keep them (R87, R88, R102, R114), the lanes as the Synthesizer
keeps them (R74, R76, R78, R82), the capture halves within their capacity (R156, R158), the counters and settings in range, and the
stages of a tick in their order, the model's choice (notes/assumptions/6.md). -/
def Obligations.StepsKeepUnitsInRange : Prop :=
  ∀ s t : State, step s = .next t →
    (s.UnitsSound → t.UnitsSound) ∧ (s.LanesSound → t.LanesSound) ∧ (s.CapturesSound → t.CapturesSound) ∧
      (s.InRange → t.InRange) ∧ (s.StagesInOrder → t.StagesInOrder)

/-- The state after power-on reset has every property that the steps keep, the order of the stages of a tick, the model's choice
(notes/assumptions/6.md), among them. -/
def Obligations.ResetIsSound : Prop :=
  State.reset.LocksCounted ∧ State.reset.OrphansLocked ∧ State.reset.RecordsLegal ∧ State.reset.StaysInReach ∧
  State.reset.NoGrantWaits ∧ State.reset.SlotsBound ∧ State.reset.CompletesWait ∧ State.reset.HalvesBound ∧
  State.reset.InhibitHolds ∧ State.reset.UnitsSound ∧ State.reset.LanesSound ∧ State.reset.CapturesSound ∧
  State.reset.InRange ∧ State.reset.StagesInOrder
end

