-- ==== Sys2Proof/Laws/State.lean ====
section
/-! SUPPORT. What each update of the state leaves as it was: one lemma for each update and each field it does not write, so that
no proof unfolds a record update. -/

namespace Sys2Proof.Machine

/-! `State.setLink` writes links. -/

@[simp] theorem State.setLink_pending (s : State) (l : Link) (x : LinkState) : (s.setLink l x).pending = s.pending := rfl
@[simp] theorem State.setLink_clock (s : State) (l : Link) (x : LinkState) : (s.setLink l x).clock = s.clock := rfl
@[simp] theorem State.setLink_tables (s : State) (l : Link) (x : LinkState) : (s.setLink l x).tables = s.tables := rfl
@[simp] theorem State.setLink_queue (s : State) (l : Link) (x : LinkState) : (s.setLink l x).queue = s.queue := rfl
@[simp] theorem State.setLink_engine (s : State) (l : Link) (x : LinkState) : (s.setLink l x).engine = s.engine := rfl
@[simp] theorem State.setLink_trig (s : State) (l : Link) (x : LinkState) : (s.setLink l x).trig = s.trig := rfl
@[simp] theorem State.setLink_synth (s : State) (l : Link) (x : LinkState) : (s.setLink l x).synth = s.synth := rfl
@[simp] theorem State.setLink_contacts (s : State) (l : Link) (x : LinkState) : (s.setLink l x).contacts = s.contacts := rfl
@[simp] theorem State.setLink_breakers (s : State) (l : Link) (x : LinkState) : (s.setLink l x).breakers = s.breakers := rfl
@[simp] theorem State.setLink_sup (s : State) (l : Link) (x : LinkState) : (s.setLink l x).sup = s.sup := rfl
@[simp] theorem State.setLink_reports (s : State) (l : Link) (x : LinkState) : (s.setLink l x).reports = s.reports := rfl
@[simp] theorem State.setLink_captures (s : State) (l : Link) (x : LinkState) : (s.setLink l x).captures = s.captures := rfl
@[simp] theorem State.setLink_tick (s : State) (l : Link) (x : LinkState) : (s.setLink l x).tick = s.tick := rfl

/-! `State.setReply` writes links. -/

@[simp] theorem State.setReply_pending (s : State) (l : Link) (r : Reply) : (s.setReply l r).pending = s.pending := rfl
@[simp] theorem State.setReply_clock (s : State) (l : Link) (r : Reply) : (s.setReply l r).clock = s.clock := rfl
@[simp] theorem State.setReply_tables (s : State) (l : Link) (r : Reply) : (s.setReply l r).tables = s.tables := rfl
@[simp] theorem State.setReply_queue (s : State) (l : Link) (r : Reply) : (s.setReply l r).queue = s.queue := rfl
@[simp] theorem State.setReply_engine (s : State) (l : Link) (r : Reply) : (s.setReply l r).engine = s.engine := rfl
@[simp] theorem State.setReply_trig (s : State) (l : Link) (r : Reply) : (s.setReply l r).trig = s.trig := rfl
@[simp] theorem State.setReply_synth (s : State) (l : Link) (r : Reply) : (s.setReply l r).synth = s.synth := rfl
@[simp] theorem State.setReply_contacts (s : State) (l : Link) (r : Reply) : (s.setReply l r).contacts = s.contacts := rfl
@[simp] theorem State.setReply_breakers (s : State) (l : Link) (r : Reply) : (s.setReply l r).breakers = s.breakers := rfl
@[simp] theorem State.setReply_sup (s : State) (l : Link) (r : Reply) : (s.setReply l r).sup = s.sup := rfl
@[simp] theorem State.setReply_reports (s : State) (l : Link) (r : Reply) : (s.setReply l r).reports = s.reports := rfl
@[simp] theorem State.setReply_captures (s : State) (l : Link) (r : Reply) : (s.setReply l r).captures = s.captures := rfl
@[simp] theorem State.setReply_tick (s : State) (l : Link) (r : Reply) : (s.setReply l r).tick = s.tick := rfl

/-! `State.raiseGranted` writes links. -/

@[simp] theorem State.raiseGranted_pending (s : State) (l : Link) : (s.raiseGranted l).pending = s.pending := rfl
@[simp] theorem State.raiseGranted_clock (s : State) (l : Link) : (s.raiseGranted l).clock = s.clock := rfl
@[simp] theorem State.raiseGranted_tables (s : State) (l : Link) : (s.raiseGranted l).tables = s.tables := rfl
@[simp] theorem State.raiseGranted_queue (s : State) (l : Link) : (s.raiseGranted l).queue = s.queue := rfl
@[simp] theorem State.raiseGranted_engine (s : State) (l : Link) : (s.raiseGranted l).engine = s.engine := rfl
@[simp] theorem State.raiseGranted_trig (s : State) (l : Link) : (s.raiseGranted l).trig = s.trig := rfl
@[simp] theorem State.raiseGranted_synth (s : State) (l : Link) : (s.raiseGranted l).synth = s.synth := rfl
@[simp] theorem State.raiseGranted_contacts (s : State) (l : Link) : (s.raiseGranted l).contacts = s.contacts := rfl
@[simp] theorem State.raiseGranted_breakers (s : State) (l : Link) : (s.raiseGranted l).breakers = s.breakers := rfl
@[simp] theorem State.raiseGranted_sup (s : State) (l : Link) : (s.raiseGranted l).sup = s.sup := rfl
@[simp] theorem State.raiseGranted_reports (s : State) (l : Link) : (s.raiseGranted l).reports = s.reports := rfl
@[simp] theorem State.raiseGranted_captures (s : State) (l : Link) : (s.raiseGranted l).captures = s.captures := rfl
@[simp] theorem State.raiseGranted_tick (s : State) (l : Link) : (s.raiseGranted l).tick = s.tick := rfl

/-! `State.raiseEnded` writes links. -/

@[simp] theorem State.raiseEnded_pending (s : State) (l : Link) : (s.raiseEnded l).pending = s.pending := rfl
@[simp] theorem State.raiseEnded_clock (s : State) (l : Link) : (s.raiseEnded l).clock = s.clock := rfl
@[simp] theorem State.raiseEnded_tables (s : State) (l : Link) : (s.raiseEnded l).tables = s.tables := rfl
@[simp] theorem State.raiseEnded_queue (s : State) (l : Link) : (s.raiseEnded l).queue = s.queue := rfl
@[simp] theorem State.raiseEnded_engine (s : State) (l : Link) : (s.raiseEnded l).engine = s.engine := rfl
@[simp] theorem State.raiseEnded_trig (s : State) (l : Link) : (s.raiseEnded l).trig = s.trig := rfl
@[simp] theorem State.raiseEnded_synth (s : State) (l : Link) : (s.raiseEnded l).synth = s.synth := rfl
@[simp] theorem State.raiseEnded_contacts (s : State) (l : Link) : (s.raiseEnded l).contacts = s.contacts := rfl
@[simp] theorem State.raiseEnded_breakers (s : State) (l : Link) : (s.raiseEnded l).breakers = s.breakers := rfl
@[simp] theorem State.raiseEnded_sup (s : State) (l : Link) : (s.raiseEnded l).sup = s.sup := rfl
@[simp] theorem State.raiseEnded_reports (s : State) (l : Link) : (s.raiseEnded l).reports = s.reports := rfl
@[simp] theorem State.raiseEnded_captures (s : State) (l : Link) : (s.raiseEnded l).captures = s.captures := rfl
@[simp] theorem State.raiseEnded_tick (s : State) (l : Link) : (s.raiseEnded l).tick = s.tick := rfl

/-! `State.raiseTimeQuality` writes links. -/

@[simp] theorem State.raiseTimeQuality_pending (s : State) (l : Link) : (s.raiseTimeQuality l).pending = s.pending := rfl
@[simp] theorem State.raiseTimeQuality_clock (s : State) (l : Link) : (s.raiseTimeQuality l).clock = s.clock := rfl
@[simp] theorem State.raiseTimeQuality_tables (s : State) (l : Link) : (s.raiseTimeQuality l).tables = s.tables := rfl
@[simp] theorem State.raiseTimeQuality_queue (s : State) (l : Link) : (s.raiseTimeQuality l).queue = s.queue := rfl
@[simp] theorem State.raiseTimeQuality_engine (s : State) (l : Link) : (s.raiseTimeQuality l).engine = s.engine := rfl
@[simp] theorem State.raiseTimeQuality_trig (s : State) (l : Link) : (s.raiseTimeQuality l).trig = s.trig := rfl
@[simp] theorem State.raiseTimeQuality_synth (s : State) (l : Link) : (s.raiseTimeQuality l).synth = s.synth := rfl
@[simp] theorem State.raiseTimeQuality_contacts (s : State) (l : Link) : (s.raiseTimeQuality l).contacts = s.contacts := rfl
@[simp] theorem State.raiseTimeQuality_breakers (s : State) (l : Link) : (s.raiseTimeQuality l).breakers = s.breakers := rfl
@[simp] theorem State.raiseTimeQuality_sup (s : State) (l : Link) : (s.raiseTimeQuality l).sup = s.sup := rfl
@[simp] theorem State.raiseTimeQuality_reports (s : State) (l : Link) : (s.raiseTimeQuality l).reports = s.reports := rfl
@[simp] theorem State.raiseTimeQuality_captures (s : State) (l : Link) : (s.raiseTimeQuality l).captures = s.captures := rfl
@[simp] theorem State.raiseTimeQuality_tick (s : State) (l : Link) : (s.raiseTimeQuality l).tick = s.tick := rfl

/-! `State.raiseLaneFault` writes links. -/

@[simp] theorem State.raiseLaneFault_pending (s : State) : s.raiseLaneFault.pending = s.pending := rfl
@[simp] theorem State.raiseLaneFault_clock (s : State) : s.raiseLaneFault.clock = s.clock := rfl
@[simp] theorem State.raiseLaneFault_tables (s : State) : s.raiseLaneFault.tables = s.tables := rfl
@[simp] theorem State.raiseLaneFault_queue (s : State) : s.raiseLaneFault.queue = s.queue := rfl
@[simp] theorem State.raiseLaneFault_engine (s : State) : s.raiseLaneFault.engine = s.engine := rfl
@[simp] theorem State.raiseLaneFault_trig (s : State) : s.raiseLaneFault.trig = s.trig := rfl
@[simp] theorem State.raiseLaneFault_synth (s : State) : s.raiseLaneFault.synth = s.synth := rfl
@[simp] theorem State.raiseLaneFault_contacts (s : State) : s.raiseLaneFault.contacts = s.contacts := rfl
@[simp] theorem State.raiseLaneFault_breakers (s : State) : s.raiseLaneFault.breakers = s.breakers := rfl
@[simp] theorem State.raiseLaneFault_sup (s : State) : s.raiseLaneFault.sup = s.sup := rfl
@[simp] theorem State.raiseLaneFault_reports (s : State) : s.raiseLaneFault.reports = s.reports := rfl
@[simp] theorem State.raiseLaneFault_captures (s : State) : s.raiseLaneFault.captures = s.captures := rfl
@[simp] theorem State.raiseLaneFault_tick (s : State) : s.raiseLaneFault.tick = s.tick := rfl

/-! `State.setEntry` writes tables. -/

@[simp] theorem State.setEntry_pending (s : State) (i : Fin 64) (r : Rec StateEntry) : (s.setEntry i r).pending = s.pending := rfl
@[simp] theorem State.setEntry_clock (s : State) (i : Fin 64) (r : Rec StateEntry) : (s.setEntry i r).clock = s.clock := rfl
@[simp] theorem State.setEntry_queue (s : State) (i : Fin 64) (r : Rec StateEntry) : (s.setEntry i r).queue = s.queue := rfl
@[simp] theorem State.setEntry_engine (s : State) (i : Fin 64) (r : Rec StateEntry) : (s.setEntry i r).engine = s.engine := rfl
@[simp] theorem State.setEntry_trig (s : State) (i : Fin 64) (r : Rec StateEntry) : (s.setEntry i r).trig = s.trig := rfl
@[simp] theorem State.setEntry_synth (s : State) (i : Fin 64) (r : Rec StateEntry) : (s.setEntry i r).synth = s.synth := rfl
@[simp] theorem State.setEntry_contacts (s : State) (i : Fin 64) (r : Rec StateEntry) : (s.setEntry i r).contacts = s.contacts := rfl
@[simp] theorem State.setEntry_breakers (s : State) (i : Fin 64) (r : Rec StateEntry) : (s.setEntry i r).breakers = s.breakers := rfl
@[simp] theorem State.setEntry_sup (s : State) (i : Fin 64) (r : Rec StateEntry) : (s.setEntry i r).sup = s.sup := rfl
@[simp] theorem State.setEntry_reports (s : State) (i : Fin 64) (r : Rec StateEntry) : (s.setEntry i r).reports = s.reports := rfl
@[simp] theorem State.setEntry_captures (s : State) (i : Fin 64) (r : Rec StateEntry) : (s.setEntry i r).captures = s.captures := rfl
@[simp] theorem State.setEntry_links (s : State) (i : Fin 64) (r : Rec StateEntry) : (s.setEntry i r).links = s.links := rfl
@[simp] theorem State.setEntry_tick (s : State) (i : Fin 64) (r : Rec StateEntry) : (s.setEntry i r).tick = s.tick := rfl

/-! `State.setProfile` writes tables. -/

@[simp] theorem State.setProfile_pending (s : State) (i : Fin 4) (r : Rec Profile) : (s.setProfile i r).pending = s.pending := rfl
@[simp] theorem State.setProfile_clock (s : State) (i : Fin 4) (r : Rec Profile) : (s.setProfile i r).clock = s.clock := rfl
@[simp] theorem State.setProfile_queue (s : State) (i : Fin 4) (r : Rec Profile) : (s.setProfile i r).queue = s.queue := rfl
@[simp] theorem State.setProfile_engine (s : State) (i : Fin 4) (r : Rec Profile) : (s.setProfile i r).engine = s.engine := rfl
@[simp] theorem State.setProfile_trig (s : State) (i : Fin 4) (r : Rec Profile) : (s.setProfile i r).trig = s.trig := rfl
@[simp] theorem State.setProfile_synth (s : State) (i : Fin 4) (r : Rec Profile) : (s.setProfile i r).synth = s.synth := rfl
@[simp] theorem State.setProfile_contacts (s : State) (i : Fin 4) (r : Rec Profile) : (s.setProfile i r).contacts = s.contacts := rfl
@[simp] theorem State.setProfile_breakers (s : State) (i : Fin 4) (r : Rec Profile) : (s.setProfile i r).breakers = s.breakers := rfl
@[simp] theorem State.setProfile_sup (s : State) (i : Fin 4) (r : Rec Profile) : (s.setProfile i r).sup = s.sup := rfl
@[simp] theorem State.setProfile_reports (s : State) (i : Fin 4) (r : Rec Profile) : (s.setProfile i r).reports = s.reports := rfl
@[simp] theorem State.setProfile_captures (s : State) (i : Fin 4) (r : Rec Profile) : (s.setProfile i r).captures = s.captures := rfl
@[simp] theorem State.setProfile_links (s : State) (i : Fin 4) (r : Rec Profile) : (s.setProfile i r).links = s.links := rfl
@[simp] theorem State.setProfile_tick (s : State) (i : Fin 4) (r : Rec Profile) : (s.setProfile i r).tick = s.tick := rfl

/-! `State.setContact` writes contacts. -/

@[simp] theorem State.setContact_pending (s : State) (i : Fin 16) (c : Contact) : (s.setContact i c).pending = s.pending := rfl
@[simp] theorem State.setContact_clock (s : State) (i : Fin 16) (c : Contact) : (s.setContact i c).clock = s.clock := rfl
@[simp] theorem State.setContact_tables (s : State) (i : Fin 16) (c : Contact) : (s.setContact i c).tables = s.tables := rfl
@[simp] theorem State.setContact_queue (s : State) (i : Fin 16) (c : Contact) : (s.setContact i c).queue = s.queue := rfl
@[simp] theorem State.setContact_engine (s : State) (i : Fin 16) (c : Contact) : (s.setContact i c).engine = s.engine := rfl
@[simp] theorem State.setContact_trig (s : State) (i : Fin 16) (c : Contact) : (s.setContact i c).trig = s.trig := rfl
@[simp] theorem State.setContact_synth (s : State) (i : Fin 16) (c : Contact) : (s.setContact i c).synth = s.synth := rfl
@[simp] theorem State.setContact_breakers (s : State) (i : Fin 16) (c : Contact) : (s.setContact i c).breakers = s.breakers := rfl
@[simp] theorem State.setContact_sup (s : State) (i : Fin 16) (c : Contact) : (s.setContact i c).sup = s.sup := rfl
@[simp] theorem State.setContact_reports (s : State) (i : Fin 16) (c : Contact) : (s.setContact i c).reports = s.reports := rfl
@[simp] theorem State.setContact_captures (s : State) (i : Fin 16) (c : Contact) : (s.setContact i c).captures = s.captures := rfl
@[simp] theorem State.setContact_links (s : State) (i : Fin 16) (c : Contact) : (s.setContact i c).links = s.links := rfl
@[simp] theorem State.setContact_tick (s : State) (i : Fin 16) (c : Contact) : (s.setContact i c).tick = s.tick := rfl

/-! `State.noteEnded` writes tick. -/

@[simp] theorem State.noteEnded_pending (s : State) (i : Fin 16) (x : Level) (e : Episode) : (s.noteEnded i x e).pending = s.pending := rfl
@[simp] theorem State.noteEnded_clock (s : State) (i : Fin 16) (x : Level) (e : Episode) : (s.noteEnded i x e).clock = s.clock := rfl
@[simp] theorem State.noteEnded_tables (s : State) (i : Fin 16) (x : Level) (e : Episode) : (s.noteEnded i x e).tables = s.tables := rfl
@[simp] theorem State.noteEnded_queue (s : State) (i : Fin 16) (x : Level) (e : Episode) : (s.noteEnded i x e).queue = s.queue := rfl
@[simp] theorem State.noteEnded_engine (s : State) (i : Fin 16) (x : Level) (e : Episode) : (s.noteEnded i x e).engine = s.engine := rfl
@[simp] theorem State.noteEnded_trig (s : State) (i : Fin 16) (x : Level) (e : Episode) : (s.noteEnded i x e).trig = s.trig := rfl
@[simp] theorem State.noteEnded_synth (s : State) (i : Fin 16) (x : Level) (e : Episode) : (s.noteEnded i x e).synth = s.synth := rfl
@[simp] theorem State.noteEnded_contacts (s : State) (i : Fin 16) (x : Level) (e : Episode) : (s.noteEnded i x e).contacts = s.contacts := rfl
@[simp] theorem State.noteEnded_breakers (s : State) (i : Fin 16) (x : Level) (e : Episode) : (s.noteEnded i x e).breakers = s.breakers := rfl
@[simp] theorem State.noteEnded_sup (s : State) (i : Fin 16) (x : Level) (e : Episode) : (s.noteEnded i x e).sup = s.sup := rfl
@[simp] theorem State.noteEnded_reports (s : State) (i : Fin 16) (x : Level) (e : Episode) : (s.noteEnded i x e).reports = s.reports := rfl
@[simp] theorem State.noteEnded_captures (s : State) (i : Fin 16) (x : Level) (e : Episode) : (s.noteEnded i x e).captures = s.captures := rfl
@[simp] theorem State.noteEnded_links (s : State) (i : Fin 16) (x : Level) (e : Episode) : (s.noteEnded i x e).links = s.links := rfl

/-! `State.setBreaker` writes breakers. -/

@[simp] theorem State.setBreaker_pending (s : State) (k : Fin 4) (b : Simulator) : (s.setBreaker k b).pending = s.pending := rfl
@[simp] theorem State.setBreaker_clock (s : State) (k : Fin 4) (b : Simulator) : (s.setBreaker k b).clock = s.clock := rfl
@[simp] theorem State.setBreaker_tables (s : State) (k : Fin 4) (b : Simulator) : (s.setBreaker k b).tables = s.tables := rfl
@[simp] theorem State.setBreaker_queue (s : State) (k : Fin 4) (b : Simulator) : (s.setBreaker k b).queue = s.queue := rfl
@[simp] theorem State.setBreaker_engine (s : State) (k : Fin 4) (b : Simulator) : (s.setBreaker k b).engine = s.engine := rfl
@[simp] theorem State.setBreaker_trig (s : State) (k : Fin 4) (b : Simulator) : (s.setBreaker k b).trig = s.trig := rfl
@[simp] theorem State.setBreaker_synth (s : State) (k : Fin 4) (b : Simulator) : (s.setBreaker k b).synth = s.synth := rfl
@[simp] theorem State.setBreaker_contacts (s : State) (k : Fin 4) (b : Simulator) : (s.setBreaker k b).contacts = s.contacts := rfl
@[simp] theorem State.setBreaker_sup (s : State) (k : Fin 4) (b : Simulator) : (s.setBreaker k b).sup = s.sup := rfl
@[simp] theorem State.setBreaker_reports (s : State) (k : Fin 4) (b : Simulator) : (s.setBreaker k b).reports = s.reports := rfl
@[simp] theorem State.setBreaker_captures (s : State) (k : Fin 4) (b : Simulator) : (s.setBreaker k b).captures = s.captures := rfl
@[simp] theorem State.setBreaker_links (s : State) (k : Fin 4) (b : Simulator) : (s.setBreaker k b).links = s.links := rfl
@[simp] theorem State.setBreaker_tick (s : State) (k : Fin 4) (b : Simulator) : (s.setBreaker k b).tick = s.tick := rfl

/-! `State.setLane` writes synth. -/

@[simp] theorem State.setLane_pending (s : State) (i : Fin 12) (x : SynthLane) : (s.setLane i x).pending = s.pending := rfl
@[simp] theorem State.setLane_clock (s : State) (i : Fin 12) (x : SynthLane) : (s.setLane i x).clock = s.clock := rfl
@[simp] theorem State.setLane_tables (s : State) (i : Fin 12) (x : SynthLane) : (s.setLane i x).tables = s.tables := rfl
@[simp] theorem State.setLane_queue (s : State) (i : Fin 12) (x : SynthLane) : (s.setLane i x).queue = s.queue := rfl
@[simp] theorem State.setLane_engine (s : State) (i : Fin 12) (x : SynthLane) : (s.setLane i x).engine = s.engine := rfl
@[simp] theorem State.setLane_trig (s : State) (i : Fin 12) (x : SynthLane) : (s.setLane i x).trig = s.trig := rfl
@[simp] theorem State.setLane_contacts (s : State) (i : Fin 12) (x : SynthLane) : (s.setLane i x).contacts = s.contacts := rfl
@[simp] theorem State.setLane_breakers (s : State) (i : Fin 12) (x : SynthLane) : (s.setLane i x).breakers = s.breakers := rfl
@[simp] theorem State.setLane_sup (s : State) (i : Fin 12) (x : SynthLane) : (s.setLane i x).sup = s.sup := rfl
@[simp] theorem State.setLane_reports (s : State) (i : Fin 12) (x : SynthLane) : (s.setLane i x).reports = s.reports := rfl
@[simp] theorem State.setLane_captures (s : State) (i : Fin 12) (x : SynthLane) : (s.setLane i x).captures = s.captures := rfl
@[simp] theorem State.setLane_links (s : State) (i : Fin 12) (x : SynthLane) : (s.setLane i x).links = s.links := rfl
@[simp] theorem State.setLane_tick (s : State) (i : Fin 12) (x : SynthLane) : (s.setLane i x).tick = s.tick := rfl

/-! `State.setSup` writes sup. -/

@[simp] theorem State.setSup_pending (s : State) (i : Fin 12) (x : SupLane) : (s.setSup i x).pending = s.pending := rfl
@[simp] theorem State.setSup_clock (s : State) (i : Fin 12) (x : SupLane) : (s.setSup i x).clock = s.clock := rfl
@[simp] theorem State.setSup_tables (s : State) (i : Fin 12) (x : SupLane) : (s.setSup i x).tables = s.tables := rfl
@[simp] theorem State.setSup_queue (s : State) (i : Fin 12) (x : SupLane) : (s.setSup i x).queue = s.queue := rfl
@[simp] theorem State.setSup_engine (s : State) (i : Fin 12) (x : SupLane) : (s.setSup i x).engine = s.engine := rfl
@[simp] theorem State.setSup_trig (s : State) (i : Fin 12) (x : SupLane) : (s.setSup i x).trig = s.trig := rfl
@[simp] theorem State.setSup_synth (s : State) (i : Fin 12) (x : SupLane) : (s.setSup i x).synth = s.synth := rfl
@[simp] theorem State.setSup_contacts (s : State) (i : Fin 12) (x : SupLane) : (s.setSup i x).contacts = s.contacts := rfl
@[simp] theorem State.setSup_breakers (s : State) (i : Fin 12) (x : SupLane) : (s.setSup i x).breakers = s.breakers := rfl
@[simp] theorem State.setSup_reports (s : State) (i : Fin 12) (x : SupLane) : (s.setSup i x).reports = s.reports := rfl
@[simp] theorem State.setSup_captures (s : State) (i : Fin 12) (x : SupLane) : (s.setSup i x).captures = s.captures := rfl
@[simp] theorem State.setSup_links (s : State) (i : Fin 12) (x : SupLane) : (s.setSup i x).links = s.links := rfl
@[simp] theorem State.setSup_tick (s : State) (i : Fin 12) (x : SupLane) : (s.setSup i x).tick = s.tick := rfl

/-! `State.restLanes` writes synth. -/

@[simp] theorem State.restLanes_pending (s : State) : s.restLanes.pending = s.pending := rfl
@[simp] theorem State.restLanes_clock (s : State) : s.restLanes.clock = s.clock := rfl
@[simp] theorem State.restLanes_tables (s : State) : s.restLanes.tables = s.tables := rfl
@[simp] theorem State.restLanes_queue (s : State) : s.restLanes.queue = s.queue := rfl
@[simp] theorem State.restLanes_engine (s : State) : s.restLanes.engine = s.engine := rfl
@[simp] theorem State.restLanes_trig (s : State) : s.restLanes.trig = s.trig := rfl
@[simp] theorem State.restLanes_contacts (s : State) : s.restLanes.contacts = s.contacts := rfl
@[simp] theorem State.restLanes_breakers (s : State) : s.restLanes.breakers = s.breakers := rfl
@[simp] theorem State.restLanes_sup (s : State) : s.restLanes.sup = s.sup := rfl
@[simp] theorem State.restLanes_reports (s : State) : s.restLanes.reports = s.reports := rfl
@[simp] theorem State.restLanes_captures (s : State) : s.restLanes.captures = s.captures := rfl
@[simp] theorem State.restLanes_links (s : State) : s.restLanes.links = s.links := rfl
@[simp] theorem State.restLanes_tick (s : State) : s.restLanes.tick = s.tick := rfl

/-! `State.noteOpened` writes tick, and of it only moves. -/

@[simp] theorem State.noteOpened_pending (s : State) (k : Fin 4) : (s.noteOpened k).pending = s.pending := rfl
@[simp] theorem State.noteOpened_clock (s : State) (k : Fin 4) : (s.noteOpened k).clock = s.clock := rfl
@[simp] theorem State.noteOpened_tables (s : State) (k : Fin 4) : (s.noteOpened k).tables = s.tables := rfl
@[simp] theorem State.noteOpened_queue (s : State) (k : Fin 4) : (s.noteOpened k).queue = s.queue := rfl
@[simp] theorem State.noteOpened_engine (s : State) (k : Fin 4) : (s.noteOpened k).engine = s.engine := rfl
@[simp] theorem State.noteOpened_trig (s : State) (k : Fin 4) : (s.noteOpened k).trig = s.trig := rfl
@[simp] theorem State.noteOpened_synth (s : State) (k : Fin 4) : (s.noteOpened k).synth = s.synth := rfl
@[simp] theorem State.noteOpened_contacts (s : State) (k : Fin 4) : (s.noteOpened k).contacts = s.contacts := rfl
@[simp] theorem State.noteOpened_breakers (s : State) (k : Fin 4) : (s.noteOpened k).breakers = s.breakers := rfl
@[simp] theorem State.noteOpened_sup (s : State) (k : Fin 4) : (s.noteOpened k).sup = s.sup := rfl
@[simp] theorem State.noteOpened_reports (s : State) (k : Fin 4) : (s.noteOpened k).reports = s.reports := rfl
@[simp] theorem State.noteOpened_captures (s : State) (k : Fin 4) : (s.noteOpened k).captures = s.captures := rfl
@[simp] theorem State.noteOpened_links (s : State) (k : Fin 4) : (s.noteOpened k).links = s.links := rfl
@[simp] theorem State.noteOpened_tick_opened (s : State) (k : Fin 4) : (s.noteOpened k).tick.opened = s.tick.opened := rfl
@[simp] theorem State.noteOpened_tick_engine (s : State) (k : Fin 4) : (s.noteOpened k).tick.engine = s.tick.engine := rfl
@[simp] theorem State.noteOpened_tick_compared (s : State) (k : Fin 4) : (s.noteOpened k).tick.compared = s.tick.compared := rfl
@[simp] theorem State.noteOpened_tick_heat (s : State) (k : Fin 4) : (s.noteOpened k).tick.heat = s.tick.heat := rfl
@[simp] theorem State.noteOpened_tick_synth (s : State) (k : Fin 4) : (s.noteOpened k).tick.synth = s.tick.synth := rfl
@[simp] theorem State.noteOpened_tick_residueSet (s : State) (k : Fin 4) : (s.noteOpened k).tick.residueSet = s.tick.residueSet := rfl
@[simp] theorem State.noteOpened_tick_events (s : State) (k : Fin 4) : (s.noteOpened k).tick.events = s.tick.events := rfl
@[simp] theorem State.noteOpened_tick_ended (s : State) (k : Fin 4) : (s.noteOpened k).tick.ended = s.tick.ended := rfl
@[simp] theorem State.noteOpened_tick_frame (s : State) (k : Fin 4) : (s.noteOpened k).tick.frame = s.tick.frame := rfl
@[simp] theorem State.noteOpened_tick_previous (s : State) (k : Fin 4) : (s.noteOpened k).tick.previous = s.tick.previous := rfl

/-! `State.noteClosed` writes tick, and of it only moves. -/

@[simp] theorem State.noteClosed_pending (s : State) (k : Fin 4) : (s.noteClosed k).pending = s.pending := rfl
@[simp] theorem State.noteClosed_clock (s : State) (k : Fin 4) : (s.noteClosed k).clock = s.clock := rfl
@[simp] theorem State.noteClosed_tables (s : State) (k : Fin 4) : (s.noteClosed k).tables = s.tables := rfl
@[simp] theorem State.noteClosed_queue (s : State) (k : Fin 4) : (s.noteClosed k).queue = s.queue := rfl
@[simp] theorem State.noteClosed_engine (s : State) (k : Fin 4) : (s.noteClosed k).engine = s.engine := rfl
@[simp] theorem State.noteClosed_trig (s : State) (k : Fin 4) : (s.noteClosed k).trig = s.trig := rfl
@[simp] theorem State.noteClosed_synth (s : State) (k : Fin 4) : (s.noteClosed k).synth = s.synth := rfl
@[simp] theorem State.noteClosed_contacts (s : State) (k : Fin 4) : (s.noteClosed k).contacts = s.contacts := rfl
@[simp] theorem State.noteClosed_breakers (s : State) (k : Fin 4) : (s.noteClosed k).breakers = s.breakers := rfl
@[simp] theorem State.noteClosed_sup (s : State) (k : Fin 4) : (s.noteClosed k).sup = s.sup := rfl
@[simp] theorem State.noteClosed_reports (s : State) (k : Fin 4) : (s.noteClosed k).reports = s.reports := rfl
@[simp] theorem State.noteClosed_captures (s : State) (k : Fin 4) : (s.noteClosed k).captures = s.captures := rfl
@[simp] theorem State.noteClosed_links (s : State) (k : Fin 4) : (s.noteClosed k).links = s.links := rfl
@[simp] theorem State.noteClosed_tick_opened (s : State) (k : Fin 4) : (s.noteClosed k).tick.opened = s.tick.opened := rfl
@[simp] theorem State.noteClosed_tick_engine (s : State) (k : Fin 4) : (s.noteClosed k).tick.engine = s.tick.engine := rfl
@[simp] theorem State.noteClosed_tick_compared (s : State) (k : Fin 4) : (s.noteClosed k).tick.compared = s.tick.compared := rfl
@[simp] theorem State.noteClosed_tick_heat (s : State) (k : Fin 4) : (s.noteClosed k).tick.heat = s.tick.heat := rfl
@[simp] theorem State.noteClosed_tick_synth (s : State) (k : Fin 4) : (s.noteClosed k).tick.synth = s.tick.synth := rfl
@[simp] theorem State.noteClosed_tick_residueSet (s : State) (k : Fin 4) : (s.noteClosed k).tick.residueSet = s.tick.residueSet := rfl
@[simp] theorem State.noteClosed_tick_events (s : State) (k : Fin 4) : (s.noteClosed k).tick.events = s.tick.events := rfl
@[simp] theorem State.noteClosed_tick_ended (s : State) (k : Fin 4) : (s.noteClosed k).tick.ended = s.tick.ended := rfl
@[simp] theorem State.noteClosed_tick_frame (s : State) (k : Fin 4) : (s.noteClosed k).tick.frame = s.tick.frame := rfl
@[simp] theorem State.noteClosed_tick_previous (s : State) (k : Fin 4) : (s.noteClosed k).tick.previous = s.tick.previous := rfl

/-! `State.cutRequests` writes synth, and of tick only moves. -/

@[simp] theorem State.cutRequests_pending (s : State) (k : Fin 4) : (s.cutRequests k).pending = s.pending := rfl
@[simp] theorem State.cutRequests_clock (s : State) (k : Fin 4) : (s.cutRequests k).clock = s.clock := rfl
@[simp] theorem State.cutRequests_tables (s : State) (k : Fin 4) : (s.cutRequests k).tables = s.tables := rfl
@[simp] theorem State.cutRequests_queue (s : State) (k : Fin 4) : (s.cutRequests k).queue = s.queue := rfl
@[simp] theorem State.cutRequests_engine (s : State) (k : Fin 4) : (s.cutRequests k).engine = s.engine := rfl
@[simp] theorem State.cutRequests_trig (s : State) (k : Fin 4) : (s.cutRequests k).trig = s.trig := rfl
@[simp] theorem State.cutRequests_contacts (s : State) (k : Fin 4) : (s.cutRequests k).contacts = s.contacts := rfl
@[simp] theorem State.cutRequests_breakers (s : State) (k : Fin 4) : (s.cutRequests k).breakers = s.breakers := rfl
@[simp] theorem State.cutRequests_sup (s : State) (k : Fin 4) : (s.cutRequests k).sup = s.sup := rfl
@[simp] theorem State.cutRequests_reports (s : State) (k : Fin 4) : (s.cutRequests k).reports = s.reports := rfl
@[simp] theorem State.cutRequests_captures (s : State) (k : Fin 4) : (s.cutRequests k).captures = s.captures := rfl
@[simp] theorem State.cutRequests_links (s : State) (k : Fin 4) : (s.cutRequests k).links = s.links := rfl
@[simp] theorem State.cutRequests_tick_opened (s : State) (k : Fin 4) : (s.cutRequests k).tick.opened = s.tick.opened := rfl
@[simp] theorem State.cutRequests_tick_engine (s : State) (k : Fin 4) : (s.cutRequests k).tick.engine = s.tick.engine := rfl
@[simp] theorem State.cutRequests_tick_compared (s : State) (k : Fin 4) : (s.cutRequests k).tick.compared = s.tick.compared := rfl
@[simp] theorem State.cutRequests_tick_heat (s : State) (k : Fin 4) : (s.cutRequests k).tick.heat = s.tick.heat := rfl
@[simp] theorem State.cutRequests_tick_synth (s : State) (k : Fin 4) : (s.cutRequests k).tick.synth = s.tick.synth := rfl
@[simp] theorem State.cutRequests_tick_residueSet (s : State) (k : Fin 4) : (s.cutRequests k).tick.residueSet = s.tick.residueSet := rfl
@[simp] theorem State.cutRequests_tick_events (s : State) (k : Fin 4) : (s.cutRequests k).tick.events = s.tick.events := rfl
@[simp] theorem State.cutRequests_tick_ended (s : State) (k : Fin 4) : (s.cutRequests k).tick.ended = s.tick.ended := rfl
@[simp] theorem State.cutRequests_tick_frame (s : State) (k : Fin 4) : (s.cutRequests k).tick.frame = s.tick.frame := rfl
@[simp] theorem State.cutRequests_tick_previous (s : State) (k : Fin 4) : (s.cutRequests k).tick.previous = s.tick.previous := rfl

/-! `State.reenergiseRequests` writes synth, and of tick only moves. -/

@[simp] theorem State.reenergiseRequests_pending (s : State) (k : Fin 4) : (s.reenergiseRequests k).pending = s.pending := rfl
@[simp] theorem State.reenergiseRequests_clock (s : State) (k : Fin 4) : (s.reenergiseRequests k).clock = s.clock := rfl
@[simp] theorem State.reenergiseRequests_tables (s : State) (k : Fin 4) : (s.reenergiseRequests k).tables = s.tables := rfl
@[simp] theorem State.reenergiseRequests_queue (s : State) (k : Fin 4) : (s.reenergiseRequests k).queue = s.queue := rfl
@[simp] theorem State.reenergiseRequests_engine (s : State) (k : Fin 4) : (s.reenergiseRequests k).engine = s.engine := rfl
@[simp] theorem State.reenergiseRequests_trig (s : State) (k : Fin 4) : (s.reenergiseRequests k).trig = s.trig := rfl
@[simp] theorem State.reenergiseRequests_contacts (s : State) (k : Fin 4) : (s.reenergiseRequests k).contacts = s.contacts := rfl
@[simp] theorem State.reenergiseRequests_breakers (s : State) (k : Fin 4) : (s.reenergiseRequests k).breakers = s.breakers := rfl
@[simp] theorem State.reenergiseRequests_sup (s : State) (k : Fin 4) : (s.reenergiseRequests k).sup = s.sup := rfl
@[simp] theorem State.reenergiseRequests_reports (s : State) (k : Fin 4) : (s.reenergiseRequests k).reports = s.reports := rfl
@[simp] theorem State.reenergiseRequests_captures (s : State) (k : Fin 4) : (s.reenergiseRequests k).captures = s.captures := rfl
@[simp] theorem State.reenergiseRequests_links (s : State) (k : Fin 4) : (s.reenergiseRequests k).links = s.links := rfl
@[simp] theorem State.reenergiseRequests_tick_opened (s : State) (k : Fin 4) : (s.reenergiseRequests k).tick.opened = s.tick.opened := rfl
@[simp] theorem State.reenergiseRequests_tick_engine (s : State) (k : Fin 4) : (s.reenergiseRequests k).tick.engine = s.tick.engine := rfl
@[simp] theorem State.reenergiseRequests_tick_compared (s : State) (k : Fin 4) : (s.reenergiseRequests k).tick.compared = s.tick.compared := rfl
@[simp] theorem State.reenergiseRequests_tick_heat (s : State) (k : Fin 4) : (s.reenergiseRequests k).tick.heat = s.tick.heat := rfl
@[simp] theorem State.reenergiseRequests_tick_synth (s : State) (k : Fin 4) : (s.reenergiseRequests k).tick.synth = s.tick.synth := rfl
@[simp] theorem State.reenergiseRequests_tick_residueSet (s : State) (k : Fin 4) : (s.reenergiseRequests k).tick.residueSet = s.tick.residueSet := rfl
@[simp] theorem State.reenergiseRequests_tick_events (s : State) (k : Fin 4) : (s.reenergiseRequests k).tick.events = s.tick.events := rfl
@[simp] theorem State.reenergiseRequests_tick_ended (s : State) (k : Fin 4) : (s.reenergiseRequests k).tick.ended = s.tick.ended := rfl
@[simp] theorem State.reenergiseRequests_tick_frame (s : State) (k : Fin 4) : (s.reenergiseRequests k).tick.frame = s.tick.frame := rfl
@[simp] theorem State.reenergiseRequests_tick_previous (s : State) (k : Fin 4) : (s.reenergiseRequests k).tick.previous = s.tick.previous := rfl

/-! `State.takeNotices` writes links. -/

@[simp] theorem State.takeNotices_pending (s : State) (l : Link) : (s.takeNotices l).pending = s.pending := rfl
@[simp] theorem State.takeNotices_clock (s : State) (l : Link) : (s.takeNotices l).clock = s.clock := rfl
@[simp] theorem State.takeNotices_tables (s : State) (l : Link) : (s.takeNotices l).tables = s.tables := rfl
@[simp] theorem State.takeNotices_queue (s : State) (l : Link) : (s.takeNotices l).queue = s.queue := rfl
@[simp] theorem State.takeNotices_engine (s : State) (l : Link) : (s.takeNotices l).engine = s.engine := rfl
@[simp] theorem State.takeNotices_trig (s : State) (l : Link) : (s.takeNotices l).trig = s.trig := rfl
@[simp] theorem State.takeNotices_synth (s : State) (l : Link) : (s.takeNotices l).synth = s.synth := rfl
@[simp] theorem State.takeNotices_contacts (s : State) (l : Link) : (s.takeNotices l).contacts = s.contacts := rfl
@[simp] theorem State.takeNotices_breakers (s : State) (l : Link) : (s.takeNotices l).breakers = s.breakers := rfl
@[simp] theorem State.takeNotices_sup (s : State) (l : Link) : (s.takeNotices l).sup = s.sup := rfl
@[simp] theorem State.takeNotices_reports (s : State) (l : Link) : (s.takeNotices l).reports = s.reports := rfl
@[simp] theorem State.takeNotices_captures (s : State) (l : Link) : (s.takeNotices l).captures = s.captures := rfl
@[simp] theorem State.takeNotices_tick (s : State) (l : Link) : (s.takeNotices l).tick = s.tick := rfl

/-! `State.clearFault` writes links. -/

@[simp] theorem State.clearFault_pending (s : State) (l : Link) : (s.clearFault l).pending = s.pending := rfl
@[simp] theorem State.clearFault_clock (s : State) (l : Link) : (s.clearFault l).clock = s.clock := rfl
@[simp] theorem State.clearFault_tables (s : State) (l : Link) : (s.clearFault l).tables = s.tables := rfl
@[simp] theorem State.clearFault_queue (s : State) (l : Link) : (s.clearFault l).queue = s.queue := rfl
@[simp] theorem State.clearFault_engine (s : State) (l : Link) : (s.clearFault l).engine = s.engine := rfl
@[simp] theorem State.clearFault_trig (s : State) (l : Link) : (s.clearFault l).trig = s.trig := rfl
@[simp] theorem State.clearFault_synth (s : State) (l : Link) : (s.clearFault l).synth = s.synth := rfl
@[simp] theorem State.clearFault_contacts (s : State) (l : Link) : (s.clearFault l).contacts = s.contacts := rfl
@[simp] theorem State.clearFault_breakers (s : State) (l : Link) : (s.clearFault l).breakers = s.breakers := rfl
@[simp] theorem State.clearFault_sup (s : State) (l : Link) : (s.clearFault l).sup = s.sup := rfl
@[simp] theorem State.clearFault_reports (s : State) (l : Link) : (s.clearFault l).reports = s.reports := rfl
@[simp] theorem State.clearFault_captures (s : State) (l : Link) : (s.clearFault l).captures = s.captures := rfl
@[simp] theorem State.clearFault_tick (s : State) (l : Link) : (s.clearFault l).tick = s.tick := rfl

/-! `State.resetRecords` writes tables. -/

@[simp] theorem State.resetRecords_pending (s : State) (l : Link) : (s.resetRecords l).pending = s.pending := by
  simp only [State.resetRecords]
@[simp] theorem State.resetRecords_clock (s : State) (l : Link) : (s.resetRecords l).clock = s.clock := by
  simp only [State.resetRecords]
@[simp] theorem State.resetRecords_queue (s : State) (l : Link) : (s.resetRecords l).queue = s.queue := by
  simp only [State.resetRecords]
@[simp] theorem State.resetRecords_engine (s : State) (l : Link) : (s.resetRecords l).engine = s.engine := by
  simp only [State.resetRecords]
@[simp] theorem State.resetRecords_trig (s : State) (l : Link) : (s.resetRecords l).trig = s.trig := by
  simp only [State.resetRecords]
@[simp] theorem State.resetRecords_synth (s : State) (l : Link) : (s.resetRecords l).synth = s.synth := by
  simp only [State.resetRecords]
@[simp] theorem State.resetRecords_contacts (s : State) (l : Link) : (s.resetRecords l).contacts = s.contacts := by
  simp only [State.resetRecords]
@[simp] theorem State.resetRecords_breakers (s : State) (l : Link) : (s.resetRecords l).breakers = s.breakers := by
  simp only [State.resetRecords]
@[simp] theorem State.resetRecords_sup (s : State) (l : Link) : (s.resetRecords l).sup = s.sup := by
  simp only [State.resetRecords]
@[simp] theorem State.resetRecords_reports (s : State) (l : Link) : (s.resetRecords l).reports = s.reports := by
  simp only [State.resetRecords]
@[simp] theorem State.resetRecords_captures (s : State) (l : Link) : (s.resetRecords l).captures = s.captures := by
  simp only [State.resetRecords]
@[simp] theorem State.resetRecords_links (s : State) (l : Link) : (s.resetRecords l).links = s.links := by
  simp only [State.resetRecords]
@[simp] theorem State.resetRecords_tick (s : State) (l : Link) : (s.resetRecords l).tick = s.tick := by
  simp only [State.resetRecords]

/-! `State.removeQueued` writes queue, tables. -/

@[simp] theorem State.removeQueued_pending (s : State) (r : Request) : (s.removeQueued r).pending = s.pending := by
  simp only [State.removeQueued]
@[simp] theorem State.removeQueued_clock (s : State) (r : Request) : (s.removeQueued r).clock = s.clock := by
  simp only [State.removeQueued]
@[simp] theorem State.removeQueued_engine (s : State) (r : Request) : (s.removeQueued r).engine = s.engine := by
  simp only [State.removeQueued]
@[simp] theorem State.removeQueued_trig (s : State) (r : Request) : (s.removeQueued r).trig = s.trig := by
  simp only [State.removeQueued]
@[simp] theorem State.removeQueued_synth (s : State) (r : Request) : (s.removeQueued r).synth = s.synth := by
  simp only [State.removeQueued]
@[simp] theorem State.removeQueued_contacts (s : State) (r : Request) : (s.removeQueued r).contacts = s.contacts := by
  simp only [State.removeQueued]
@[simp] theorem State.removeQueued_breakers (s : State) (r : Request) : (s.removeQueued r).breakers = s.breakers := by
  simp only [State.removeQueued]
@[simp] theorem State.removeQueued_sup (s : State) (r : Request) : (s.removeQueued r).sup = s.sup := by
  simp only [State.removeQueued]
@[simp] theorem State.removeQueued_reports (s : State) (r : Request) : (s.removeQueued r).reports = s.reports := by
  simp only [State.removeQueued]
@[simp] theorem State.removeQueued_captures (s : State) (r : Request) : (s.removeQueued r).captures = s.captures := by
  simp only [State.removeQueued]
@[simp] theorem State.removeQueued_links (s : State) (r : Request) : (s.removeQueued r).links = s.links := by
  simp only [State.removeQueued]
@[simp] theorem State.removeQueued_tick (s : State) (r : Request) : (s.removeQueued r).tick = s.tick := by
  simp only [State.removeQueued]

/-! `State.removeQueuedOf` writes queue, tables. -/

@[simp] theorem State.removeQueuedOf_pending (s : State) (l : Link) : (s.removeQueuedOf l).pending = s.pending := by
  simp only [State.removeQueuedOf]
@[simp] theorem State.removeQueuedOf_clock (s : State) (l : Link) : (s.removeQueuedOf l).clock = s.clock := by
  simp only [State.removeQueuedOf]
@[simp] theorem State.removeQueuedOf_engine (s : State) (l : Link) : (s.removeQueuedOf l).engine = s.engine := by
  simp only [State.removeQueuedOf]
@[simp] theorem State.removeQueuedOf_trig (s : State) (l : Link) : (s.removeQueuedOf l).trig = s.trig := by
  simp only [State.removeQueuedOf]
@[simp] theorem State.removeQueuedOf_synth (s : State) (l : Link) : (s.removeQueuedOf l).synth = s.synth := by
  simp only [State.removeQueuedOf]
@[simp] theorem State.removeQueuedOf_contacts (s : State) (l : Link) : (s.removeQueuedOf l).contacts = s.contacts := by
  simp only [State.removeQueuedOf]
@[simp] theorem State.removeQueuedOf_breakers (s : State) (l : Link) : (s.removeQueuedOf l).breakers = s.breakers := by
  simp only [State.removeQueuedOf]
@[simp] theorem State.removeQueuedOf_sup (s : State) (l : Link) : (s.removeQueuedOf l).sup = s.sup := by
  simp only [State.removeQueuedOf]
@[simp] theorem State.removeQueuedOf_reports (s : State) (l : Link) : (s.removeQueuedOf l).reports = s.reports := by
  simp only [State.removeQueuedOf]
@[simp] theorem State.removeQueuedOf_captures (s : State) (l : Link) : (s.removeQueuedOf l).captures = s.captures := by
  simp only [State.removeQueuedOf]
@[simp] theorem State.removeQueuedOf_links (s : State) (l : Link) : (s.removeQueuedOf l).links = s.links := by
  simp only [State.removeQueuedOf]
@[simp] theorem State.removeQueuedOf_tick (s : State) (l : Link) : (s.removeQueuedOf l).tick = s.tick := by
  simp only [State.removeQueuedOf]

/-! `State.enqueue` writes queue, tables. -/

@[simp] theorem State.enqueue_pending (s : State) (r : Request) : (s.enqueue r).pending = s.pending := by
  simp only [State.enqueue]
@[simp] theorem State.enqueue_clock (s : State) (r : Request) : (s.enqueue r).clock = s.clock := by
  simp only [State.enqueue]
@[simp] theorem State.enqueue_engine (s : State) (r : Request) : (s.enqueue r).engine = s.engine := by
  simp only [State.enqueue]
@[simp] theorem State.enqueue_trig (s : State) (r : Request) : (s.enqueue r).trig = s.trig := by
  simp only [State.enqueue]
@[simp] theorem State.enqueue_synth (s : State) (r : Request) : (s.enqueue r).synth = s.synth := by
  simp only [State.enqueue]
@[simp] theorem State.enqueue_contacts (s : State) (r : Request) : (s.enqueue r).contacts = s.contacts := by
  simp only [State.enqueue]
@[simp] theorem State.enqueue_breakers (s : State) (r : Request) : (s.enqueue r).breakers = s.breakers := by
  simp only [State.enqueue]
@[simp] theorem State.enqueue_sup (s : State) (r : Request) : (s.enqueue r).sup = s.sup := by
  simp only [State.enqueue]
@[simp] theorem State.enqueue_reports (s : State) (r : Request) : (s.enqueue r).reports = s.reports := by
  simp only [State.enqueue]
@[simp] theorem State.enqueue_captures (s : State) (r : Request) : (s.enqueue r).captures = s.captures := by
  simp only [State.enqueue]
@[simp] theorem State.enqueue_links (s : State) (r : Request) : (s.enqueue r).links = s.links := by
  simp only [State.enqueue]
@[simp] theorem State.enqueue_tick (s : State) (r : Request) : (s.enqueue r).tick = s.tick := by
  simp only [State.enqueue]

/-! `State.setSubscription` writes links. -/

@[simp] theorem State.setSubscription_pending (s : State) (l : Link) (on : Bool) (n : Nat) : (s.setSubscription l on n).pending = s.pending := rfl
@[simp] theorem State.setSubscription_clock (s : State) (l : Link) (on : Bool) (n : Nat) : (s.setSubscription l on n).clock = s.clock := rfl
@[simp] theorem State.setSubscription_tables (s : State) (l : Link) (on : Bool) (n : Nat) : (s.setSubscription l on n).tables = s.tables := rfl
@[simp] theorem State.setSubscription_queue (s : State) (l : Link) (on : Bool) (n : Nat) : (s.setSubscription l on n).queue = s.queue := rfl
@[simp] theorem State.setSubscription_engine (s : State) (l : Link) (on : Bool) (n : Nat) : (s.setSubscription l on n).engine = s.engine := rfl
@[simp] theorem State.setSubscription_trig (s : State) (l : Link) (on : Bool) (n : Nat) : (s.setSubscription l on n).trig = s.trig := rfl
@[simp] theorem State.setSubscription_synth (s : State) (l : Link) (on : Bool) (n : Nat) : (s.setSubscription l on n).synth = s.synth := rfl
@[simp] theorem State.setSubscription_contacts (s : State) (l : Link) (on : Bool) (n : Nat) : (s.setSubscription l on n).contacts = s.contacts := rfl
@[simp] theorem State.setSubscription_breakers (s : State) (l : Link) (on : Bool) (n : Nat) : (s.setSubscription l on n).breakers = s.breakers := rfl
@[simp] theorem State.setSubscription_sup (s : State) (l : Link) (on : Bool) (n : Nat) : (s.setSubscription l on n).sup = s.sup := rfl
@[simp] theorem State.setSubscription_reports (s : State) (l : Link) (on : Bool) (n : Nat) : (s.setSubscription l on n).reports = s.reports := rfl
@[simp] theorem State.setSubscription_captures (s : State) (l : Link) (on : Bool) (n : Nat) : (s.setSubscription l on n).captures = s.captures := rfl
@[simp] theorem State.setSubscription_tick (s : State) (l : Link) (on : Bool) (n : Nat) : (s.setSubscription l on n).tick = s.tick := rfl

/-! `State.leaveAll` writes reports, captures. -/

@[simp] theorem State.leaveAll_pending (s : State) (l : Link) : (s.leaveAll l).pending = s.pending := rfl
@[simp] theorem State.leaveAll_clock (s : State) (l : Link) : (s.leaveAll l).clock = s.clock := rfl
@[simp] theorem State.leaveAll_tables (s : State) (l : Link) : (s.leaveAll l).tables = s.tables := rfl
@[simp] theorem State.leaveAll_queue (s : State) (l : Link) : (s.leaveAll l).queue = s.queue := rfl
@[simp] theorem State.leaveAll_engine (s : State) (l : Link) : (s.leaveAll l).engine = s.engine := rfl
@[simp] theorem State.leaveAll_trig (s : State) (l : Link) : (s.leaveAll l).trig = s.trig := rfl
@[simp] theorem State.leaveAll_synth (s : State) (l : Link) : (s.leaveAll l).synth = s.synth := rfl
@[simp] theorem State.leaveAll_contacts (s : State) (l : Link) : (s.leaveAll l).contacts = s.contacts := rfl
@[simp] theorem State.leaveAll_breakers (s : State) (l : Link) : (s.leaveAll l).breakers = s.breakers := rfl
@[simp] theorem State.leaveAll_sup (s : State) (l : Link) : (s.leaveAll l).sup = s.sup := rfl
@[simp] theorem State.leaveAll_links (s : State) (l : Link) : (s.leaveAll l).links = s.links := rfl
@[simp] theorem State.leaveAll_tick (s : State) (l : Link) : (s.leaveAll l).tick = s.tick := rfl

/-! `State.switchDiscipline` writes clock. -/

@[simp] theorem State.switchDiscipline_pending (s : State) (on : Bool) : (s.switchDiscipline on).pending = s.pending := rfl
@[simp] theorem State.switchDiscipline_tables (s : State) (on : Bool) : (s.switchDiscipline on).tables = s.tables := rfl
@[simp] theorem State.switchDiscipline_queue (s : State) (on : Bool) : (s.switchDiscipline on).queue = s.queue := rfl
@[simp] theorem State.switchDiscipline_engine (s : State) (on : Bool) : (s.switchDiscipline on).engine = s.engine := rfl
@[simp] theorem State.switchDiscipline_trig (s : State) (on : Bool) : (s.switchDiscipline on).trig = s.trig := rfl
@[simp] theorem State.switchDiscipline_synth (s : State) (on : Bool) : (s.switchDiscipline on).synth = s.synth := rfl
@[simp] theorem State.switchDiscipline_contacts (s : State) (on : Bool) : (s.switchDiscipline on).contacts = s.contacts := rfl
@[simp] theorem State.switchDiscipline_breakers (s : State) (on : Bool) : (s.switchDiscipline on).breakers = s.breakers := rfl
@[simp] theorem State.switchDiscipline_sup (s : State) (on : Bool) : (s.switchDiscipline on).sup = s.sup := rfl
@[simp] theorem State.switchDiscipline_reports (s : State) (on : Bool) : (s.switchDiscipline on).reports = s.reports := rfl
@[simp] theorem State.switchDiscipline_captures (s : State) (on : Bool) : (s.switchDiscipline on).captures = s.captures := rfl
@[simp] theorem State.switchDiscipline_links (s : State) (on : Bool) : (s.switchDiscipline on).links = s.links := rfl
@[simp] theorem State.switchDiscipline_tick (s : State) (on : Bool) : (s.switchDiscipline on).tick = s.tick := rfl

/-! `State.heatAccounts` writes sup, tick. -/

@[simp] theorem State.heatAccounts_pending (s : State) : s.heatAccounts.pending = s.pending := rfl
@[simp] theorem State.heatAccounts_clock (s : State) : s.heatAccounts.clock = s.clock := rfl
@[simp] theorem State.heatAccounts_tables (s : State) : s.heatAccounts.tables = s.tables := rfl
@[simp] theorem State.heatAccounts_queue (s : State) : s.heatAccounts.queue = s.queue := rfl
@[simp] theorem State.heatAccounts_engine (s : State) : s.heatAccounts.engine = s.engine := rfl
@[simp] theorem State.heatAccounts_trig (s : State) : s.heatAccounts.trig = s.trig := rfl
@[simp] theorem State.heatAccounts_synth (s : State) : s.heatAccounts.synth = s.synth := rfl
@[simp] theorem State.heatAccounts_contacts (s : State) : s.heatAccounts.contacts = s.contacts := rfl
@[simp] theorem State.heatAccounts_breakers (s : State) : s.heatAccounts.breakers = s.breakers := rfl
@[simp] theorem State.heatAccounts_reports (s : State) : s.heatAccounts.reports = s.reports := rfl
@[simp] theorem State.heatAccounts_captures (s : State) : s.heatAccounts.captures = s.captures := rfl
@[simp] theorem State.heatAccounts_links (s : State) : s.heatAccounts.links = s.links := rfl

/-! `State.advance` writes clock, trig, contacts, tick. -/

@[simp] theorem State.advance_pending (s : State) : s.advance.pending = s.pending := rfl
@[simp] theorem State.advance_tables (s : State) : s.advance.tables = s.tables := rfl
@[simp] theorem State.advance_queue (s : State) : s.advance.queue = s.queue := rfl
@[simp] theorem State.advance_engine (s : State) : s.advance.engine = s.engine := rfl
@[simp] theorem State.advance_synth (s : State) : s.advance.synth = s.synth := rfl
@[simp] theorem State.advance_breakers (s : State) : s.advance.breakers = s.breakers := rfl
@[simp] theorem State.advance_sup (s : State) : s.advance.sup = s.sup := rfl
@[simp] theorem State.advance_reports (s : State) : s.advance.reports = s.reports := rfl
@[simp] theorem State.advance_captures (s : State) : s.advance.captures = s.captures := rfl
@[simp] theorem State.advance_links (s : State) : s.advance.links = s.links := rfl

/-! What the updates write. -/

@[simp] theorem Links.get_set (ls : Links) (l : Link) (x : LinkState) : (ls.set l x).get l = x := by cases l <;> rfl

theorem Links.get_set_ne (ls : Links) {l m : Link} (h : m ≠ l) (x : LinkState) : (ls.set l x).get m = ls.get m := by
  cases l <;> cases m <;> first | rfl | exact absurd rfl h

@[simp] theorem Links.set_set (ls : Links) (l : Link) (x y : LinkState) : (ls.set l x).set l y = ls.set l y := by
  cases l <;> rfl

@[simp] theorem Links.set_get (ls : Links) (l : Link) : ls.set l (ls.get l) = ls := by cases l <;> rfl

@[simp] theorem State.link_setLink (s : State) (l : Link) (x : LinkState) : (s.setLink l x).link l = x := by
  simp [State.link, State.setLink]

theorem State.link_setLink_ne (s : State) {l m : Link} (h : m ≠ l) (x : LinkState) :
    (s.setLink l x).link m = s.link m := by
  simp [State.link, State.setLink, Links.get_set_ne _ h]

@[simp] theorem State.setLink_setLink (s : State) (l : Link) (x y : LinkState) :
    (s.setLink l x).setLink l y = s.setLink l y := by
  simp [State.setLink]

/-- A reply written over a link's item is part of that item. -/
theorem State.setReply_setLink (s : State) (l : Link) (x : LinkState) (r : Reply) :
    (s.setLink l x).setReply l r = s.setLink l { x with reply := some r } := by
  simp [State.setReply]

@[simp] theorem State.link_setReply (s : State) (l : Link) (r : Reply) :
    (s.setReply l r).link l = { s.link l with reply := some r } := by
  simp [State.setReply]

theorem State.link_setReply_ne (s : State) {l m : Link} (h : m ≠ l) (r : Reply) : (s.setReply l r).link m = s.link m := by
  simp [State.setReply, State.link_setLink_ne _ h]

@[simp] theorem Captures.get_set (c : Captures) (h : HalfId) (x : Half) : (c.set h x).get h = x := by cases h <;> rfl

theorem Captures.get_set_ne (c : Captures) {h k : HalfId} (hk : k ≠ h) (x : Half) : (c.set h x).get k = c.get k := by
  cases h <;> cases k <;> first | rfl | exact absurd rfl hk

/-! `State.onReport` writes reports. -/

@[simp] theorem State.onReport_pending (s : State) (k : Fin 16) (f : Report → Report) : (s.onReport k f).pending = s.pending := by
  unfold State.onReport; split <;> rfl
@[simp] theorem State.onReport_clock (s : State) (k : Fin 16) (f : Report → Report) : (s.onReport k f).clock = s.clock := by
  unfold State.onReport; split <;> rfl
@[simp] theorem State.onReport_tables (s : State) (k : Fin 16) (f : Report → Report) : (s.onReport k f).tables = s.tables := by
  unfold State.onReport; split <;> rfl
@[simp] theorem State.onReport_queue (s : State) (k : Fin 16) (f : Report → Report) : (s.onReport k f).queue = s.queue := by
  unfold State.onReport; split <;> rfl
@[simp] theorem State.onReport_engine (s : State) (k : Fin 16) (f : Report → Report) : (s.onReport k f).engine = s.engine := by
  unfold State.onReport; split <;> rfl
@[simp] theorem State.onReport_trig (s : State) (k : Fin 16) (f : Report → Report) : (s.onReport k f).trig = s.trig := by
  unfold State.onReport; split <;> rfl
@[simp] theorem State.onReport_synth (s : State) (k : Fin 16) (f : Report → Report) : (s.onReport k f).synth = s.synth := by
  unfold State.onReport; split <;> rfl
@[simp] theorem State.onReport_contacts (s : State) (k : Fin 16) (f : Report → Report) : (s.onReport k f).contacts = s.contacts := by
  unfold State.onReport; split <;> rfl
@[simp] theorem State.onReport_breakers (s : State) (k : Fin 16) (f : Report → Report) : (s.onReport k f).breakers = s.breakers := by
  unfold State.onReport; split <;> rfl
@[simp] theorem State.onReport_sup (s : State) (k : Fin 16) (f : Report → Report) : (s.onReport k f).sup = s.sup := by
  unfold State.onReport; split <;> rfl
@[simp] theorem State.onReport_captures (s : State) (k : Fin 16) (f : Report → Report) : (s.onReport k f).captures = s.captures := by
  unfold State.onReport; split <;> rfl
@[simp] theorem State.onReport_links (s : State) (k : Fin 16) (f : Report → Report) : (s.onReport k f).links = s.links := by
  unfold State.onReport; split <;> rfl
@[simp] theorem State.onReport_tick (s : State) (k : Fin 16) (f : Report → Report) : (s.onReport k f).tick = s.tick := by
  unfold State.onReport; split <;> rfl

/-! `State.onHalf` writes captures. -/

@[simp] theorem State.onHalf_pending (s : State) (h : Option HalfId) (f : Half → Half) : (s.onHalf h f).pending = s.pending := by cases h <;> rfl
@[simp] theorem State.onHalf_clock (s : State) (h : Option HalfId) (f : Half → Half) : (s.onHalf h f).clock = s.clock := by cases h <;> rfl
@[simp] theorem State.onHalf_tables (s : State) (h : Option HalfId) (f : Half → Half) : (s.onHalf h f).tables = s.tables := by cases h <;> rfl
@[simp] theorem State.onHalf_queue (s : State) (h : Option HalfId) (f : Half → Half) : (s.onHalf h f).queue = s.queue := by cases h <;> rfl
@[simp] theorem State.onHalf_engine (s : State) (h : Option HalfId) (f : Half → Half) : (s.onHalf h f).engine = s.engine := by cases h <;> rfl
@[simp] theorem State.onHalf_trig (s : State) (h : Option HalfId) (f : Half → Half) : (s.onHalf h f).trig = s.trig := by cases h <;> rfl
@[simp] theorem State.onHalf_synth (s : State) (h : Option HalfId) (f : Half → Half) : (s.onHalf h f).synth = s.synth := by cases h <;> rfl
@[simp] theorem State.onHalf_contacts (s : State) (h : Option HalfId) (f : Half → Half) : (s.onHalf h f).contacts = s.contacts := by cases h <;> rfl
@[simp] theorem State.onHalf_breakers (s : State) (h : Option HalfId) (f : Half → Half) : (s.onHalf h f).breakers = s.breakers := by cases h <;> rfl
@[simp] theorem State.onHalf_sup (s : State) (h : Option HalfId) (f : Half → Half) : (s.onHalf h f).sup = s.sup := by cases h <;> rfl
@[simp] theorem State.onHalf_reports (s : State) (h : Option HalfId) (f : Half → Half) : (s.onHalf h f).reports = s.reports := by cases h <;> rfl
@[simp] theorem State.onHalf_links (s : State) (h : Option HalfId) (f : Half → Half) : (s.onHalf h f).links = s.links := by cases h <;> rfl
@[simp] theorem State.onHalf_tick (s : State) (h : Option HalfId) (f : Half → Half) : (s.onHalf h f).tick = s.tick := by cases h <;> rfl

/-- The report of a BUILDING slot changed. -/
theorem State.onReport_building {s : State} {k : Fin 16} {r : Report} (h : s.reports[k] = .building r) (f : Report → Report) :
    s.onReport k f = { s with reports := s.reports.set k (.building (f r)) } := by
  unfold State.onReport; rw [h]

/-- A change of a report reaches its own slot, where one is BUILDING, and no other. -/
theorem State.onReport_get (s : State) (k j : Fin 16) (f : Report → Report) :
    (s.onReport k f).reports[j] =
      if j = k then (match s.reports[k] with | .building r => .building (f r) | x => x) else s.reports[j] := by
  unfold State.onReport
  by_cases hjk : j = k
  · subst hjk
    cases h : s.reports[j] <;> simp_all
  · cases h : s.reports[k] <;> simp_all [Fin.ext_iff, eq_comm]

/-- A change of a half reaches that half and no other. -/
theorem State.onHalf_get (s : State) (h : Option HalfId) (k : HalfId) (f : Half → Half) :
    (s.onHalf h f).captures.get k = if h = some k then f (s.captures.get k) else s.captures.get k := by
  cases h with
  | none => simp [State.onHalf]
  | some h =>
    by_cases hk : k = h
    · subst hk; simp [State.onHalf]
    · simp [State.onHalf, Captures.get_set_ne _ hk, Ne.symm hk]

end Sys2Proof.Machine
end

