-- ==== Sys2Proof/Laws/Keeps.lean ====
section
/-! SUPPORT. What each operation of the part leaves as it was: one lemma for each shared operation, over every field of the state it
never writes. A proof about such a field cites these and never unfolds the operation. -/

namespace Sys2Proof.Machine

/-- A fold of steps that each keep what `f` reads keeps it. -/
theorem foldl_keeps {α β : Type} (f : State → β) (g : State → α → State) (h : ∀ s x, f (g s x) = f s) (xs : List α)
    (s : State) : f (xs.foldl g s) = f s := by
  induction xs generalizing s with
  | nil => rfl
  | cons x xs ih => rw [List.foldl_cons, ih, h]

/-- Three folds over one list, of steps that each keep what `f` reads, keep it. -/
theorem keeps_three {α β : Type} (f : State → β) {g₁ g₂ g₃ : State → α → State} (h₁ : ∀ s x, f (g₁ s x) = f s)
    (h₂ : ∀ s x, f (g₂ s x) = f s) (h₃ : ∀ s x, f (g₃ s x) = f s) (xs : List α) (s : State) :
    f (xs.foldl g₃ (xs.foldl g₂ (xs.foldl g₁ s))) = f s := by
  rw [foldl_keeps f g₃ h₃, foldl_keeps f g₂ h₂, foldl_keeps f g₁ h₁]

/-- What `refuse` never writes. -/
@[simp] theorem State.refuse_keeps (s : State) (l : Link) (kind tag : Byte) (d : Denial) :
    (s.refuse l kind tag d).pending = s.pending ∧ (s.refuse l kind tag d).clock = s.clock ∧
    (s.refuse l kind tag d).tables = s.tables ∧ (s.refuse l kind tag d).queue = s.queue ∧
    (s.refuse l kind tag d).engine = s.engine ∧ (s.refuse l kind tag d).trig = s.trig ∧
    (s.refuse l kind tag d).synth = s.synth ∧ (s.refuse l kind tag d).contacts = s.contacts ∧
    (s.refuse l kind tag d).breakers = s.breakers ∧ (s.refuse l kind tag d).sup = s.sup ∧
    (s.refuse l kind tag d).reports = s.reports ∧ (s.refuse l kind tag d).captures = s.captures ∧
    (s.refuse l kind tag d).tick = s.tick := by
  unfold State.refuse
  try dsimp only
  and_intros
  all_goals repeat' split
  all_goals simp

/-- What `closeRest` never writes. -/
@[simp] theorem State.closeRest_keeps (s : State) (k : Fin 16) :
    (s.closeRest k).pending = s.pending ∧ (s.closeRest k).clock = s.clock ∧ (s.closeRest k).tables = s.tables ∧
    (s.closeRest k).queue = s.queue ∧ (s.closeRest k).engine = s.engine ∧ (s.closeRest k).trig = s.trig ∧
    (s.closeRest k).synth = s.synth ∧ (s.closeRest k).contacts = s.contacts ∧ (s.closeRest k).breakers = s.breakers ∧
    (s.closeRest k).sup = s.sup ∧ (s.closeRest k).captures = s.captures ∧ (s.closeRest k).links = s.links ∧
    (s.closeRest k).tick = s.tick := by
  unfold State.closeRest
  simp

/-- What `handOn` never writes. -/
@[simp] theorem State.handOn_keeps (s : State) (sh : Shot) :
    (s.handOn sh).pending = s.pending ∧ (s.handOn sh).clock = s.clock ∧ (s.handOn sh).tables = s.tables ∧
    (s.handOn sh).queue = s.queue ∧ (s.handOn sh).engine = s.engine ∧ (s.handOn sh).trig = s.trig ∧
    (s.handOn sh).synth = s.synth ∧ (s.handOn sh).contacts = s.contacts ∧ (s.handOn sh).breakers = s.breakers ∧
    (s.handOn sh).sup = s.sup ∧ (s.handOn sh).links = s.links ∧ (s.handOn sh).tick = s.tick := by
  unfold State.handOn
  try dsimp only
  and_intros
  all_goals repeat' split
  all_goals simp

/-- What `completeReport` never writes. -/
@[simp] theorem State.completeReport_keeps (s : State) (sh : Shot) :
    (s.completeReport sh).pending = s.pending ∧ (s.completeReport sh).clock = s.clock ∧
    (s.completeReport sh).tables = s.tables ∧ (s.completeReport sh).queue = s.queue ∧
    (s.completeReport sh).engine = s.engine ∧ (s.completeReport sh).trig = s.trig ∧ (s.completeReport sh).synth = s.synth ∧
    (s.completeReport sh).contacts = s.contacts ∧ (s.completeReport sh).breakers = s.breakers ∧
    (s.completeReport sh).sup = s.sup ∧ (s.completeReport sh).links = s.links ∧ (s.completeReport sh).tick = s.tick := by
  unfold State.completeReport
  simp

/-- What `tearDown` never writes. -/
@[simp] theorem State.tearDown_keeps (s : State) (sh : Shot) :
    (s.tearDown sh).pending = s.pending ∧ (s.tearDown sh).clock = s.clock ∧ (s.tearDown sh).queue = s.queue ∧
    (s.tearDown sh).trig = s.trig ∧ (s.tearDown sh).synth = s.synth ∧ (s.tearDown sh).contacts = s.contacts ∧
    (s.tearDown sh).breakers = s.breakers ∧ (s.tearDown sh).sup = s.sup ∧ (s.tearDown sh).tick = s.tick := by
  unfold State.tearDown
  simp

/-- What `settle` never writes. -/
@[simp] theorem State.settle_keeps (s : State) (sh : Shot) (c : Option Clock) :
    (s.settle sh c).pending = s.pending ∧ (s.settle sh c).clock = s.clock ∧ (s.settle sh c).queue = s.queue ∧
    (s.settle sh c).trig = s.trig ∧ (s.settle sh c).synth = s.synth ∧ (s.settle sh c).contacts = s.contacts ∧
    (s.settle sh c).breakers = s.breakers ∧ (s.settle sh c).sup = s.sup ∧ (s.settle sh c).tick = s.tick := by
  unfold State.settle
  try dsimp only
  and_intros
  all_goals repeat' split
  all_goals simp

/-- What `writeEnd` never writes. -/
@[simp] theorem State.writeEnd_keeps (s : State) (sh : Shot) (r : EndReason) :
    (s.writeEnd sh r).pending = s.pending ∧ (s.writeEnd sh r).clock = s.clock ∧ (s.writeEnd sh r).tables = s.tables ∧
    (s.writeEnd sh r).queue = s.queue ∧ (s.writeEnd sh r).engine = s.engine ∧ (s.writeEnd sh r).trig = s.trig ∧
    (s.writeEnd sh r).synth = s.synth ∧ (s.writeEnd sh r).contacts = s.contacts ∧ (s.writeEnd sh r).breakers = s.breakers ∧
    (s.writeEnd sh r).sup = s.sup ∧ (s.writeEnd sh r).captures = s.captures ∧ (s.writeEnd sh r).links = s.links ∧
    (s.writeEnd sh r).tick = s.tick := by
  unfold State.writeEnd
  simp

/-- What `endArmed` never writes. -/
@[simp] theorem State.endArmed_keeps (s : State) (sh : Shot) (r : EndReason) :
    (s.endArmed sh r).pending = s.pending ∧ (s.endArmed sh r).clock = s.clock ∧ (s.endArmed sh r).queue = s.queue ∧
    (s.endArmed sh r).trig = s.trig ∧ (s.endArmed sh r).synth = s.synth ∧ (s.endArmed sh r).contacts = s.contacts ∧
    (s.endArmed sh r).breakers = s.breakers ∧ (s.endArmed sh r).sup = s.sup ∧ (s.endArmed sh r).tick = s.tick := by
  unfold State.endArmed
  simp

/-- What `grantInto` never writes. -/
@[simp] theorem State.grantInto_keeps (s : State) (r : Request) (k : Fin 16) :
    (s.grantInto r k).pending = s.pending ∧ (s.grantInto r k).clock = s.clock ∧ (s.grantInto r k).tables = s.tables ∧
    (s.grantInto r k).trig = s.trig ∧ (s.grantInto r k).synth = s.synth ∧ (s.grantInto r k).contacts = s.contacts ∧
    (s.grantInto r k).breakers = s.breakers ∧ (s.grantInto r k).sup = s.sup ∧ (s.grantInto r k).tick = s.tick := by
  unfold State.grantInto
  simp

/-- What `grantLoop` never writes. -/
@[simp] theorem State.grantLoop_keeps (n : Nat) (s : State) :
    (State.grantLoop n s).pending = s.pending ∧ (State.grantLoop n s).clock = s.clock ∧
    (State.grantLoop n s).trig = s.trig ∧ (State.grantLoop n s).synth = s.synth ∧
    (State.grantLoop n s).contacts = s.contacts ∧ (State.grantLoop n s).breakers = s.breakers ∧
    (State.grantLoop n s).sup = s.sup ∧ (State.grantLoop n s).tick = s.tick := by
  induction n generalizing s with
  | zero => exact ⟨rfl, rfl, rfl, rfl, rfl, rfl, rfl, rfl⟩
  | succ n ih =>
    unfold State.grantLoop
    dsimp only
    and_intros
    all_goals repeat' split
    all_goals simp [ih]

/-- What `grantMoment` never writes. -/
@[simp] theorem State.grantMoment_keeps (s : State) :
    s.grantMoment.pending = s.pending ∧ s.grantMoment.clock = s.clock ∧ s.grantMoment.trig = s.trig ∧
    s.grantMoment.synth = s.synth ∧ s.grantMoment.contacts = s.contacts ∧ s.grantMoment.breakers = s.breakers ∧
    s.grantMoment.sup = s.sup ∧ s.grantMoment.tick = s.tick := by
  unfold State.grantMoment
  simp

/-- What `requestEnd` never writes. -/
@[simp] theorem State.requestEnd_keeps (s : State) (r : EndReason) :
    (s.requestEnd r).pending = s.pending ∧ (s.requestEnd r).clock = s.clock ∧ (s.requestEnd r).trig = s.trig ∧
    (s.requestEnd r).synth = s.synth ∧ (s.requestEnd r).contacts = s.contacts ∧ (s.requestEnd r).breakers = s.breakers ∧
    (s.requestEnd r).sup = s.sup ∧ (s.requestEnd r).tick = s.tick := by
  unfold State.requestEnd
  try dsimp only
  and_intros
  all_goals repeat' split
  all_goals simp

/-- What `judgeInhibit` never writes. -/
@[simp] theorem State.judgeInhibit_keeps (s : State) :
    s.judgeInhibit.pending = s.pending ∧ s.judgeInhibit.clock = s.clock ∧ s.judgeInhibit.trig = s.trig ∧
    s.judgeInhibit.synth = s.synth ∧ s.judgeInhibit.contacts = s.contacts ∧ s.judgeInhibit.breakers = s.breakers ∧
    s.judgeInhibit.sup = s.sup ∧ s.judgeInhibit.tick = s.tick := by
  unfold State.judgeInhibit
  try dsimp only
  and_intros
  all_goals repeat' split
  all_goals simp

/-- What `qualityChanged` never writes. -/
@[simp] theorem State.qualityChanged_keeps (s : State) :
    s.qualityChanged.pending = s.pending ∧ s.qualityChanged.clock = s.clock ∧ s.qualityChanged.trig = s.trig ∧
    s.qualityChanged.synth = s.synth ∧ s.qualityChanged.contacts = s.contacts ∧ s.qualityChanged.breakers = s.breakers ∧
    s.qualityChanged.sup = s.sup ∧ s.qualityChanged.tick = s.tick := by
  unfold State.qualityChanged
  try dsimp only
  and_intros
  all_goals repeat' split
  all_goals simp

/-- What `setQuality` never writes. -/
@[simp] theorem State.setQuality_keeps (s : State) (q : Quality) :
    (s.setQuality q).pending = s.pending ∧ (s.setQuality q).trig = s.trig ∧ (s.setQuality q).synth = s.synth ∧
    (s.setQuality q).contacts = s.contacts ∧ (s.setQuality q).breakers = s.breakers ∧ (s.setQuality q).sup = s.sup ∧
    (s.setQuality q).tick = s.tick := by
  unfold State.setQuality
  try dsimp only
  and_intros
  all_goals repeat' split
  all_goals simp

/-- What `leaveVisit` never writes. -/
@[simp] theorem State.leaveVisit_keeps (s : State) (sh : Shot) (run : Run) (cause : ExitCause) (n : Nat) :
    (s.leaveVisit sh run cause n).pending = s.pending ∧ (s.leaveVisit sh run cause n).clock = s.clock ∧
    (s.leaveVisit sh run cause n).tables = s.tables ∧ (s.leaveVisit sh run cause n).queue = s.queue ∧
    (s.leaveVisit sh run cause n).engine = s.engine ∧ (s.leaveVisit sh run cause n).trig = s.trig ∧
    (s.leaveVisit sh run cause n).synth = s.synth ∧ (s.leaveVisit sh run cause n).contacts = s.contacts ∧
    (s.leaveVisit sh run cause n).breakers = s.breakers ∧ (s.leaveVisit sh run cause n).sup = s.sup ∧
    (s.leaveVisit sh run cause n).captures = s.captures ∧ (s.leaveVisit sh run cause n).links = s.links ∧
    (s.leaveVisit sh run cause n).tick = s.tick := by
  unfold State.leaveVisit
  simp

/-- What `flushInto` never writes. -/
@[simp] theorem State.flushInto_keeps (s : State) (sh : Shot) (run : Run) :
    (s.flushInto sh run).pending = s.pending ∧ (s.flushInto sh run).clock = s.clock ∧
    (s.flushInto sh run).tables = s.tables ∧ (s.flushInto sh run).queue = s.queue ∧ (s.flushInto sh run).engine = s.engine ∧
    (s.flushInto sh run).trig = s.trig ∧ (s.flushInto sh run).synth = s.synth ∧ (s.flushInto sh run).contacts = s.contacts ∧
    (s.flushInto sh run).breakers = s.breakers ∧ (s.flushInto sh run).sup = s.sup ∧
    (s.flushInto sh run).captures = s.captures ∧ (s.flushInto sh run).links = s.links ∧ (s.flushInto sh run).tick = s.tick := by
  unfold State.flushInto
  simp

/-- What `endRunning` never writes. -/
@[simp] theorem State.endRunning_keeps (s : State) (sh : Shot) (run : Run) (r : EndReason) (cause : ExitCause) :
    (s.endRunning sh run r cause).pending = s.pending ∧ (s.endRunning sh run r cause).clock = s.clock ∧
    (s.endRunning sh run r cause).queue = s.queue ∧ (s.endRunning sh run r cause).trig = s.trig ∧
    (s.endRunning sh run r cause).contacts = s.contacts ∧ (s.endRunning sh run r cause).sup = s.sup ∧
    (s.endRunning sh run r cause).tick = s.tick := by
  unfold State.endRunning
  simp

/-- What `writeElem` never writes. -/
@[simp] theorem State.writeElem_keeps (s : State) (k : Fin 4) (c : BreakerChange) :
    (s.writeElem k c).pending = s.pending ∧ (s.writeElem k c).clock = s.clock ∧ (s.writeElem k c).tables = s.tables ∧
    (s.writeElem k c).queue = s.queue ∧ (s.writeElem k c).trig = s.trig ∧ (s.writeElem k c).synth = s.synth ∧
    (s.writeElem k c).contacts = s.contacts ∧ (s.writeElem k c).breakers = s.breakers ∧ (s.writeElem k c).sup = s.sup ∧
    (s.writeElem k c).captures = s.captures ∧ (s.writeElem k c).links = s.links ∧ (s.writeElem k c).tick = s.tick := by
  unfold State.writeElem
  try dsimp only
  and_intros
  all_goals repeat' split
  all_goals simp

/-- What `beginOpening` never writes. -/
@[simp] theorem State.beginOpening_keeps (s : State) (k : Fin 4) (c : Clock) :
    (s.beginOpening k c).pending = s.pending ∧ (s.beginOpening k c).clock = s.clock ∧
    (s.beginOpening k c).tables = s.tables ∧ (s.beginOpening k c).queue = s.queue ∧ (s.beginOpening k c).trig = s.trig ∧
    (s.beginOpening k c).synth = s.synth ∧ (s.beginOpening k c).contacts = s.contacts ∧ (s.beginOpening k c).sup = s.sup ∧
    (s.beginOpening k c).captures = s.captures ∧ (s.beginOpening k c).links = s.links ∧ (s.beginOpening k c).tick = s.tick := by
  unfold State.beginOpening
  simp

/-- What `beginClosing` never writes. -/
@[simp] theorem State.beginClosing_keeps (s : State) (k : Fin 4) (c : Clock) :
    (s.beginClosing k c).pending = s.pending ∧ (s.beginClosing k c).clock = s.clock ∧
    (s.beginClosing k c).tables = s.tables ∧ (s.beginClosing k c).queue = s.queue ∧ (s.beginClosing k c).trig = s.trig ∧
    (s.beginClosing k c).synth = s.synth ∧ (s.beginClosing k c).contacts = s.contacts ∧ (s.beginClosing k c).sup = s.sup ∧
    (s.beginClosing k c).captures = s.captures ∧ (s.beginClosing k c).links = s.links ∧ (s.beginClosing k c).tick = s.tick := by
  unfold State.beginClosing
  simp

/-- What `takeOpen` never writes. -/
@[simp] theorem State.takeOpen_keeps (s : State) (k : Fin 4) :
    (s.takeOpen k).pending = s.pending ∧ (s.takeOpen k).clock = s.clock ∧ (s.takeOpen k).tables = s.tables ∧
    (s.takeOpen k).queue = s.queue ∧ (s.takeOpen k).trig = s.trig ∧ (s.takeOpen k).synth = s.synth ∧
    (s.takeOpen k).contacts = s.contacts ∧ (s.takeOpen k).sup = s.sup ∧ (s.takeOpen k).captures = s.captures ∧
    (s.takeOpen k).links = s.links ∧ (s.takeOpen k).tick = s.tick := by
  unfold State.takeOpen
  try dsimp only
  and_intros
  all_goals repeat' split
  all_goals simp

/-- What `takeClosed` never writes. -/
@[simp] theorem State.takeClosed_keeps (s : State) (k : Fin 4) :
    (s.takeClosed k).pending = s.pending ∧ (s.takeClosed k).clock = s.clock ∧ (s.takeClosed k).tables = s.tables ∧
    (s.takeClosed k).queue = s.queue ∧ (s.takeClosed k).trig = s.trig ∧ (s.takeClosed k).synth = s.synth ∧
    (s.takeClosed k).contacts = s.contacts ∧ (s.takeClosed k).sup = s.sup ∧ (s.takeClosed k).captures = s.captures ∧
    (s.takeClosed k).links = s.links ∧ (s.takeClosed k).tick = s.tick := by
  unfold State.takeClosed
  try dsimp only
  and_intros
  all_goals repeat' split
  all_goals simp

/-- What `reachOpen` never writes. -/
@[simp] theorem State.reachOpen_keeps (s : State) (k : Fin 4) :
    (s.reachOpen k).pending = s.pending ∧ (s.reachOpen k).clock = s.clock ∧ (s.reachOpen k).tables = s.tables ∧
    (s.reachOpen k).queue = s.queue ∧ (s.reachOpen k).trig = s.trig ∧ (s.reachOpen k).contacts = s.contacts ∧
    (s.reachOpen k).sup = s.sup ∧ (s.reachOpen k).captures = s.captures ∧ (s.reachOpen k).links = s.links ∧
    (s.reachOpen k).tick.opened = s.tick.opened ∧ (s.reachOpen k).tick.engine = s.tick.engine ∧
    (s.reachOpen k).tick.compared = s.tick.compared ∧ (s.reachOpen k).tick.heat = s.tick.heat ∧
    (s.reachOpen k).tick.synth = s.tick.synth ∧ (s.reachOpen k).tick.residueSet = s.tick.residueSet ∧
    (s.reachOpen k).tick.events = s.tick.events ∧ (s.reachOpen k).tick.ended = s.tick.ended ∧
    (s.reachOpen k).tick.frame = s.tick.frame ∧ (s.reachOpen k).tick.previous = s.tick.previous := by
  unfold State.reachOpen
  simp

/-- What `reachClosed` never writes. -/
@[simp] theorem State.reachClosed_keeps (s : State) (k : Fin 4) :
    (s.reachClosed k).pending = s.pending ∧ (s.reachClosed k).clock = s.clock ∧ (s.reachClosed k).tables = s.tables ∧
    (s.reachClosed k).queue = s.queue ∧ (s.reachClosed k).trig = s.trig ∧ (s.reachClosed k).contacts = s.contacts ∧
    (s.reachClosed k).sup = s.sup ∧ (s.reachClosed k).captures = s.captures ∧ (s.reachClosed k).links = s.links ∧
    (s.reachClosed k).tick.opened = s.tick.opened ∧ (s.reachClosed k).tick.engine = s.tick.engine ∧
    (s.reachClosed k).tick.compared = s.tick.compared ∧ (s.reachClosed k).tick.heat = s.tick.heat ∧
    (s.reachClosed k).tick.synth = s.tick.synth ∧ (s.reachClosed k).tick.residueSet = s.tick.residueSet ∧
    (s.reachClosed k).tick.events = s.tick.events ∧ (s.reachClosed k).tick.ended = s.tick.ended ∧
    (s.reachClosed k).tick.frame = s.tick.frame ∧ (s.reachClosed k).tick.previous = s.tick.previous := by
  unfold State.reachClosed
  simp

/-- What `completeMove` never writes. -/
@[simp] theorem State.completeMove_keeps (s : State) (k : Fin 4) :
    (s.completeMove k).pending = s.pending ∧ (s.completeMove k).clock = s.clock ∧ (s.completeMove k).tables = s.tables ∧
    (s.completeMove k).queue = s.queue ∧ (s.completeMove k).trig = s.trig ∧ (s.completeMove k).contacts = s.contacts ∧
    (s.completeMove k).sup = s.sup ∧ (s.completeMove k).captures = s.captures ∧ (s.completeMove k).links = s.links ∧
    (s.completeMove k).tick.opened = s.tick.opened ∧ (s.completeMove k).tick.engine = s.tick.engine ∧
    (s.completeMove k).tick.compared = s.tick.compared ∧ (s.completeMove k).tick.heat = s.tick.heat ∧
    (s.completeMove k).tick.synth = s.tick.synth ∧ (s.completeMove k).tick.residueSet = s.tick.residueSet ∧
    (s.completeMove k).tick.events = s.tick.events ∧ (s.completeMove k).tick.ended = s.tick.ended ∧
    (s.completeMove k).tick.frame = s.tick.frame ∧ (s.completeMove k).tick.previous = s.tick.previous := by
  unfold State.completeMove
  try dsimp only
  and_intros
  all_goals repeat' split
  all_goals simp

/-- What `trip` never writes. -/
@[simp] theorem State.trip_keeps (s : State) (k : Fin 4) (run : Run) (c : Clock) :
    (s.trip k run c).pending = s.pending ∧ (s.trip k run c).clock = s.clock ∧ (s.trip k run c).tables = s.tables ∧
    (s.trip k run c).queue = s.queue ∧ (s.trip k run c).trig = s.trig ∧ (s.trip k run c).contacts = s.contacts ∧
    (s.trip k run c).sup = s.sup ∧ (s.trip k run c).captures = s.captures ∧ (s.trip k run c).links = s.links ∧
    (s.trip k run c).tick = s.tick := by
  unfold State.trip
  try dsimp only
  and_intros
  all_goals repeat' split
  all_goals simp

/-- What `close` never writes. -/
@[simp] theorem State.close_keeps (s : State) (k : Fin 4) (run : Run) (c : Clock) :
    (s.close k run c).pending = s.pending ∧ (s.close k run c).clock = s.clock ∧ (s.close k run c).tables = s.tables ∧
    (s.close k run c).queue = s.queue ∧ (s.close k run c).trig = s.trig ∧ (s.close k run c).contacts = s.contacts ∧
    (s.close k run c).sup = s.sup ∧ (s.close k run c).captures = s.captures ∧ (s.close k run c).links = s.links ∧
    (s.close k run c).tick = s.tick := by
  unfold State.close
  try dsimp only
  and_intros
  all_goals repeat' split
  all_goals simp

/-- What `breakerEvent` never writes. -/
@[simp] theorem State.breakerEvent_keeps (s : State) (run : Run) (i : Fin 16) (d : Direction) (c : Clock) (k : Fin 4) :
    (s.breakerEvent run i d c k).pending = s.pending ∧ (s.breakerEvent run i d c k).clock = s.clock ∧
    (s.breakerEvent run i d c k).tables = s.tables ∧ (s.breakerEvent run i d c k).queue = s.queue ∧
    (s.breakerEvent run i d c k).trig = s.trig ∧ (s.breakerEvent run i d c k).contacts = s.contacts ∧
    (s.breakerEvent run i d c k).sup = s.sup ∧ (s.breakerEvent run i d c k).captures = s.captures ∧
    (s.breakerEvent run i d c k).links = s.links ∧
    (s.breakerEvent run i d c k).tick = s.tick := by
  unfold State.breakerEvent
  try dsimp only
  and_intros
  all_goals repeat' split
  all_goals simp

/-- What `recordEvent` never writes. -/
@[simp] theorem State.recordEvent_keeps (s : State) (i : Fin 16) (d : Direction) (c : Clock) :
    (s.recordEvent i d c).pending = s.pending ∧ (s.recordEvent i d c).clock = s.clock ∧
    (s.recordEvent i d c).tables = s.tables ∧ (s.recordEvent i d c).queue = s.queue ∧
    (s.recordEvent i d c).engine = s.engine ∧ (s.recordEvent i d c).trig = s.trig ∧ (s.recordEvent i d c).synth = s.synth ∧
    (s.recordEvent i d c).contacts = s.contacts ∧ (s.recordEvent i d c).breakers = s.breakers ∧
    (s.recordEvent i d c).sup = s.sup ∧ (s.recordEvent i d c).captures = s.captures ∧
    (s.recordEvent i d c).links = s.links ∧ (s.recordEvent i d c).tick = s.tick := by
  unfold State.recordEvent
  try dsimp only
  and_intros
  all_goals repeat' split
  all_goals simp

/-- What `fileEvent` never writes. -/
@[simp] theorem State.fileEvent_keeps (s : State) (i : Fin 16) (d : Direction) (c : Clock) :
    (s.fileEvent i d c).pending = s.pending ∧ (s.fileEvent i d c).clock = s.clock ∧ (s.fileEvent i d c).tables = s.tables ∧
    (s.fileEvent i d c).queue = s.queue ∧ (s.fileEvent i d c).engine = s.engine ∧ (s.fileEvent i d c).trig = s.trig ∧
    (s.fileEvent i d c).synth = s.synth ∧ (s.fileEvent i d c).contacts = s.contacts ∧
    (s.fileEvent i d c).breakers = s.breakers ∧ (s.fileEvent i d c).sup = s.sup ∧
    (s.fileEvent i d c).captures = s.captures ∧ (s.fileEvent i d c).links = s.links := by
  unfold State.fileEvent
  try dsimp only
  and_intros
  all_goals repeat' split
  all_goals simp

/-- What `fileWaiting` never writes. -/
@[simp] theorem State.fileWaiting_keeps (s : State) :
    s.fileWaiting.pending = s.pending ∧ s.fileWaiting.clock = s.clock ∧ s.fileWaiting.tables = s.tables ∧
    s.fileWaiting.queue = s.queue ∧ s.fileWaiting.engine = s.engine ∧ s.fileWaiting.trig = s.trig ∧
    s.fileWaiting.synth = s.synth ∧ s.fileWaiting.contacts = s.contacts ∧ s.fileWaiting.breakers = s.breakers ∧
    s.fileWaiting.sup = s.sup ∧ s.fileWaiting.captures = s.captures ∧ s.fileWaiting.links = s.links := by
  unfold State.fileWaiting
  exact ⟨(foldl_keeps (fun s => s.pending) _ (fun s e => by simp) _ _).trans (by simp),
    (foldl_keeps (fun s => s.clock) _ (fun s e => by simp) _ _).trans (by simp),
    (foldl_keeps (fun s => s.tables) _ (fun s e => by simp) _ _).trans (by simp),
    (foldl_keeps (fun s => s.queue) _ (fun s e => by simp) _ _).trans (by simp),
    (foldl_keeps (fun s => s.engine) _ (fun s e => by simp) _ _).trans (by simp),
    (foldl_keeps (fun s => s.trig) _ (fun s e => by simp) _ _).trans (by simp),
    (foldl_keeps (fun s => s.synth) _ (fun s e => by simp) _ _).trans (by simp),
    (foldl_keeps (fun s => s.contacts) _ (fun s e => by simp) _ _).trans (by simp),
    (foldl_keeps (fun s => s.breakers) _ (fun s e => by simp) _ _).trans (by simp),
    (foldl_keeps (fun s => s.sup) _ (fun s e => by simp) _ _).trans (by simp),
    (foldl_keeps (fun s => s.captures) _ (fun s e => by simp) _ _).trans (by simp),
    (foldl_keeps (fun s => s.links) _ (fun s e => by simp) _ _).trans (by simp)⟩

/-- What `latchEdges` never writes. -/
@[simp] theorem State.latchEdges_keeps (s : State) (i : Fin 16) (d : Direction) (c : Clock) :
    (s.latchEdges i d c).pending = s.pending ∧ (s.latchEdges i d c).clock = s.clock ∧
    (s.latchEdges i d c).tables = s.tables ∧ (s.latchEdges i d c).queue = s.queue ∧ (s.latchEdges i d c).trig = s.trig ∧
    (s.latchEdges i d c).synth = s.synth ∧ (s.latchEdges i d c).contacts = s.contacts ∧
    (s.latchEdges i d c).breakers = s.breakers ∧ (s.latchEdges i d c).sup = s.sup ∧
    (s.latchEdges i d c).reports = s.reports ∧ (s.latchEdges i d c).captures = s.captures ∧
    (s.latchEdges i d c).links = s.links ∧ (s.latchEdges i d c).tick = s.tick := by
  unfold State.latchEdges
  try dsimp only
  and_intros
  all_goals repeat' split
  all_goals simp

/-- What `informBreakers` never writes. -/
@[simp] theorem State.informBreakers_keeps (s : State) (i : Fin 16) (d : Direction) (c : Clock) :
    (s.informBreakers i d c).pending = s.pending ∧ (s.informBreakers i d c).clock = s.clock ∧
    (s.informBreakers i d c).tables = s.tables ∧ (s.informBreakers i d c).queue = s.queue ∧
    (s.informBreakers i d c).trig = s.trig ∧ (s.informBreakers i d c).contacts = s.contacts ∧
    (s.informBreakers i d c).sup = s.sup ∧ (s.informBreakers i d c).captures = s.captures ∧
    (s.informBreakers i d c).links = s.links ∧
    (s.informBreakers i d c).tick.opened = s.tick.opened ∧ (s.informBreakers i d c).tick.engine = s.tick.engine ∧
    (s.informBreakers i d c).tick.compared = s.tick.compared ∧ (s.informBreakers i d c).tick.heat = s.tick.heat ∧
    (s.informBreakers i d c).tick.synth = s.tick.synth ∧ (s.informBreakers i d c).tick.residueSet = s.tick.residueSet ∧
    (s.informBreakers i d c).tick.events = s.tick.events ∧ (s.informBreakers i d c).tick.ended = s.tick.ended ∧
    (s.informBreakers i d c).tick.frame = s.tick.frame ∧ (s.informBreakers i d c).tick.previous = s.tick.previous := by
  unfold State.informBreakers
  split
  · exact ⟨keeps_three (fun s => s.pending) (fun t k => by simp) (fun t k => by split <;> simp) (fun t k => by split <;> simp) _ s,
      keeps_three (fun s => s.clock) (fun t k => by simp) (fun t k => by split <;> simp) (fun t k => by split <;> simp) _ s,
      keeps_three (fun s => s.tables) (fun t k => by simp) (fun t k => by split <;> simp) (fun t k => by split <;> simp) _ s,
      keeps_three (fun s => s.queue) (fun t k => by simp) (fun t k => by split <;> simp) (fun t k => by split <;> simp) _ s,
      keeps_three (fun s => s.trig) (fun t k => by simp) (fun t k => by split <;> simp) (fun t k => by split <;> simp) _ s,
      keeps_three (fun s => s.contacts) (fun t k => by simp) (fun t k => by split <;> simp) (fun t k => by split <;> simp) _ s,
      keeps_three (fun s => s.sup) (fun t k => by simp) (fun t k => by split <;> simp) (fun t k => by split <;> simp) _ s,
      keeps_three (fun s => s.captures) (fun t k => by simp) (fun t k => by split <;> simp) (fun t k => by split <;> simp) _ s,
      keeps_three (fun s => s.links) (fun t k => by simp) (fun t k => by split <;> simp) (fun t k => by split <;> simp) _ s,
      keeps_three (fun s => s.tick.opened) (fun t k => by simp) (fun t k => by split <;> simp) (fun t k => by split <;> simp) _ s,
      keeps_three (fun s => s.tick.engine) (fun t k => by simp) (fun t k => by split <;> simp) (fun t k => by split <;> simp) _ s,
      keeps_three (fun s => s.tick.compared) (fun t k => by simp) (fun t k => by split <;> simp) (fun t k => by split <;> simp) _ s,
      keeps_three (fun s => s.tick.heat) (fun t k => by simp) (fun t k => by split <;> simp) (fun t k => by split <;> simp) _ s,
      keeps_three (fun s => s.tick.synth) (fun t k => by simp) (fun t k => by split <;> simp) (fun t k => by split <;> simp) _ s,
      keeps_three (fun s => s.tick.residueSet) (fun t k => by simp) (fun t k => by split <;> simp) (fun t k => by split <;> simp) _ s,
      keeps_three (fun s => s.tick.events) (fun t k => by simp) (fun t k => by split <;> simp) (fun t k => by split <;> simp) _ s,
      keeps_three (fun s => s.tick.ended) (fun t k => by simp) (fun t k => by split <;> simp) (fun t k => by split <;> simp) _ s,
      keeps_three (fun s => s.tick.frame) (fun t k => by simp) (fun t k => by split <;> simp) (fun t k => by split <;> simp) _ s,
      keeps_three (fun s => s.tick.previous) (fun t k => by simp) (fun t k => by split <;> simp) (fun t k => by split <;> simp) _ s⟩
  · simp

/-- What `informCapture` never writes. -/
@[simp] theorem State.informCapture_keeps (s : State) (i : Fin 16) (d : Direction) :
    (s.informCapture i d).pending = s.pending ∧ (s.informCapture i d).clock = s.clock ∧
    (s.informCapture i d).tables = s.tables ∧ (s.informCapture i d).queue = s.queue ∧
    (s.informCapture i d).engine = s.engine ∧ (s.informCapture i d).trig = s.trig ∧ (s.informCapture i d).synth = s.synth ∧
    (s.informCapture i d).contacts = s.contacts ∧ (s.informCapture i d).breakers = s.breakers ∧
    (s.informCapture i d).sup = s.sup ∧ (s.informCapture i d).reports = s.reports ∧ (s.informCapture i d).links = s.links ∧
    (s.informCapture i d).tick = s.tick := by
  unfold State.informCapture
  try dsimp only
  and_intros
  all_goals repeat' split
  all_goals simp

/-- What `handOver` never writes. -/
@[simp] theorem State.handOver_keeps (s : State) (i : Fin 16) (d : Direction) (c : Clock) :
    (s.handOver i d c).pending = s.pending ∧ (s.handOver i d c).clock = s.clock ∧ (s.handOver i d c).tables = s.tables ∧
    (s.handOver i d c).queue = s.queue ∧ (s.handOver i d c).trig = s.trig ∧ (s.handOver i d c).contacts = s.contacts ∧
    (s.handOver i d c).sup = s.sup ∧ (s.handOver i d c).links = s.links := by
  unfold State.handOver
  simp

/-- What `endEpisode` never writes. -/
@[simp] theorem State.endEpisode_keeps (s : State) (i : Fin 16) (e : Episode) :
    (s.endEpisode i e).pending = s.pending ∧ (s.endEpisode i e).clock = s.clock ∧ (s.endEpisode i e).tables = s.tables ∧
    (s.endEpisode i e).queue = s.queue ∧ (s.endEpisode i e).trig = s.trig ∧ (s.endEpisode i e).sup = s.sup ∧
    (s.endEpisode i e).links = s.links := by
  unfold State.endEpisode
  try dsimp only
  and_intros
  all_goals repeat' split
  all_goals simp

/-- What `writeCapture` never writes. -/
@[simp] theorem State.writeCapture_keeps (s : State) :
    s.writeCapture.pending = s.pending ∧ s.writeCapture.clock = s.clock ∧ s.writeCapture.tables = s.tables ∧
    s.writeCapture.queue = s.queue ∧ s.writeCapture.engine = s.engine ∧ s.writeCapture.trig = s.trig ∧
    s.writeCapture.synth = s.synth ∧ s.writeCapture.contacts = s.contacts ∧ s.writeCapture.breakers = s.breakers ∧
    s.writeCapture.sup = s.sup ∧ s.writeCapture.reports = s.reports ∧ s.writeCapture.links = s.links ∧
    s.writeCapture.tick = s.tick := by
  unfold State.writeCapture
  try dsimp only
  and_intros
  all_goals repeat' split
  all_goals simp

/-- What `openTick` never writes. -/
@[simp] theorem State.openTick_keeps (s : State) :
    s.openTick.pending = s.pending ∧ s.openTick.clock = s.clock ∧ s.openTick.tables = s.tables ∧
    s.openTick.queue = s.queue ∧ s.openTick.engine = s.engine ∧ s.openTick.trig = s.trig ∧ s.openTick.synth = s.synth ∧
    s.openTick.contacts = s.contacts ∧ s.openTick.breakers = s.breakers ∧ s.openTick.reports = s.reports ∧
    s.openTick.links = s.links := by
  unfold State.openTick
  try dsimp only
  and_intros
  all_goals repeat' split
  all_goals simp

/-- What `completeBoth` never writes. -/
@[simp] theorem State.completeBoth_keeps (s : State) (k : Fin 4) :
    (s.completeBoth k).pending = s.pending ∧ (s.completeBoth k).clock = s.clock ∧ (s.completeBoth k).tables = s.tables ∧
    (s.completeBoth k).queue = s.queue ∧ (s.completeBoth k).trig = s.trig ∧ (s.completeBoth k).contacts = s.contacts ∧
    (s.completeBoth k).sup = s.sup ∧ (s.completeBoth k).captures = s.captures ∧ (s.completeBoth k).links = s.links ∧
    (s.completeBoth k).tick.opened = s.tick.opened ∧ (s.completeBoth k).tick.engine = s.tick.engine ∧
    (s.completeBoth k).tick.compared = s.tick.compared ∧ (s.completeBoth k).tick.heat = s.tick.heat ∧
    (s.completeBoth k).tick.synth = s.tick.synth ∧ (s.completeBoth k).tick.residueSet = s.tick.residueSet ∧
    (s.completeBoth k).tick.events = s.tick.events ∧ (s.completeBoth k).tick.ended = s.tick.ended ∧
    (s.completeBoth k).tick.frame = s.tick.frame ∧ (s.completeBoth k).tick.previous = s.tick.previous := by
  unfold State.completeBoth
  simp

/-- What `completeMoves` never writes. -/
@[simp] theorem State.completeMoves_keeps (s : State) :
    s.completeMoves.pending = s.pending ∧ s.completeMoves.clock = s.clock ∧ s.completeMoves.tables = s.tables ∧
    s.completeMoves.queue = s.queue ∧ s.completeMoves.trig = s.trig ∧ s.completeMoves.contacts = s.contacts ∧
    s.completeMoves.sup = s.sup ∧ s.completeMoves.captures = s.captures ∧ s.completeMoves.links = s.links ∧
    s.completeMoves.tick.opened = s.tick.opened ∧ s.completeMoves.tick.engine = s.tick.engine ∧
    s.completeMoves.tick.compared = s.tick.compared ∧ s.completeMoves.tick.heat = s.tick.heat ∧
    s.completeMoves.tick.synth = s.tick.synth ∧ s.completeMoves.tick.residueSet = s.tick.residueSet ∧
    s.completeMoves.tick.events = s.tick.events ∧ s.completeMoves.tick.ended = s.tick.ended ∧
    s.completeMoves.tick.frame = s.tick.frame ∧ s.completeMoves.tick.previous = s.tick.previous := by
  unfold State.completeMoves
  exact ⟨foldl_keeps (fun s => s.pending) _ (fun s k => by simp) _ s,
    foldl_keeps (fun s => s.clock) _ (fun s k => by simp) _ s,
    foldl_keeps (fun s => s.tables) _ (fun s k => by simp) _ s,
    foldl_keeps (fun s => s.queue) _ (fun s k => by simp) _ s,
    foldl_keeps (fun s => s.trig) _ (fun s k => by simp) _ s,
    foldl_keeps (fun s => s.contacts) _ (fun s k => by simp) _ s,
    foldl_keeps (fun s => s.sup) _ (fun s k => by simp) _ s,
    foldl_keeps (fun s => s.captures) _ (fun s k => by simp) _ s,
    foldl_keeps (fun s => s.links) _ (fun s k => by simp) _ s,
    foldl_keeps (fun s => s.tick.opened) _ (fun s k => by simp) _ s,
    foldl_keeps (fun s => s.tick.engine) _ (fun s k => by simp) _ s,
    foldl_keeps (fun s => s.tick.compared) _ (fun s k => by simp) _ s,
    foldl_keeps (fun s => s.tick.heat) _ (fun s k => by simp) _ s,
    foldl_keeps (fun s => s.tick.synth) _ (fun s k => by simp) _ s,
    foldl_keeps (fun s => s.tick.residueSet) _ (fun s k => by simp) _ s,
    foldl_keeps (fun s => s.tick.events) _ (fun s k => by simp) _ s,
    foldl_keeps (fun s => s.tick.ended) _ (fun s k => by simp) _ s,
    foldl_keeps (fun s => s.tick.frame) _ (fun s k => by simp) _ s,
    foldl_keeps (fun s => s.tick.previous) _ (fun s k => by simp) _ s⟩

/-- What `prepare` never writes. -/
@[simp] theorem State.prepare_keeps (s : State) :
    s.prepare.pending = s.pending ∧ s.prepare.clock = s.clock ∧ s.prepare.tables = s.tables ∧ s.prepare.queue = s.queue ∧
    s.prepare.trig = s.trig ∧ s.prepare.contacts = s.contacts ∧ s.prepare.links = s.links := by
  unfold State.prepare
  try dsimp only
  and_intros
  all_goals repeat' split
  all_goals simp

/-- What `setResidues` never writes. -/
@[simp] theorem State.setResidues_keeps (s : State) (sh : Shot) (old : Option (Fin 64)) (n : Fin 64) :
    (s.setResidues sh old n).pending = s.pending ∧ (s.setResidues sh old n).clock = s.clock ∧
    (s.setResidues sh old n).tables = s.tables ∧ (s.setResidues sh old n).queue = s.queue ∧
    (s.setResidues sh old n).engine = s.engine ∧ (s.setResidues sh old n).trig = s.trig ∧
    (s.setResidues sh old n).contacts = s.contacts ∧ (s.setResidues sh old n).breakers = s.breakers ∧
    (s.setResidues sh old n).sup = s.sup ∧ (s.setResidues sh old n).reports = s.reports ∧
    (s.setResidues sh old n).captures = s.captures ∧ (s.setResidues sh old n).links = s.links := by
  unfold State.setResidues
  simp

/-- What `openVisit` never writes. -/
@[simp] theorem State.openVisit_keeps (s : State) (sh : Shot) (n : Nat) (i : Fin 64) (e : Nat) :
    (s.openVisit sh n i e).pending = s.pending ∧ (s.openVisit sh n i e).clock = s.clock ∧
    (s.openVisit sh n i e).tables = s.tables ∧ (s.openVisit sh n i e).queue = s.queue ∧
    (s.openVisit sh n i e).engine = s.engine ∧ (s.openVisit sh n i e).trig = s.trig ∧
    (s.openVisit sh n i e).synth = s.synth ∧ (s.openVisit sh n i e).contacts = s.contacts ∧
    (s.openVisit sh n i e).breakers = s.breakers ∧ (s.openVisit sh n i e).sup = s.sup ∧
    (s.openVisit sh n i e).links = s.links ∧ (s.openVisit sh n i e).tick = s.tick := by
  unfold State.openVisit
  try dsimp only
  and_intros
  all_goals repeat' split
  all_goals simp

/-- What `enterState` never writes. -/
@[simp] theorem State.enterState_keeps (s : State) (sh : Shot) (run : Run) (i : Fin 64) :
    (s.enterState sh run i).pending = s.pending ∧ (s.enterState sh run i).clock = s.clock ∧
    (s.enterState sh run i).tables = s.tables ∧ (s.enterState sh run i).queue = s.queue ∧
    (s.enterState sh run i).trig = s.trig ∧ (s.enterState sh run i).contacts = s.contacts ∧
    (s.enterState sh run i).breakers = s.breakers ∧ (s.enterState sh run i).sup = s.sup ∧
    (s.enterState sh run i).links = s.links := by
  unfold State.enterState
  simp

/-- What `loadProfile` never writes. -/
@[simp] theorem State.loadProfile_keeps (s : State) (sh : Shot) :
    (s.loadProfile sh).pending = s.pending ∧ (s.loadProfile sh).clock = s.clock ∧ (s.loadProfile sh).tables = s.tables ∧
    (s.loadProfile sh).queue = s.queue ∧ (s.loadProfile sh).engine = s.engine ∧ (s.loadProfile sh).trig = s.trig ∧
    (s.loadProfile sh).reports = s.reports ∧ (s.loadProfile sh).captures = s.captures ∧ (s.loadProfile sh).links = s.links := by
  unfold State.loadProfile
  simp

/-- What `startShot` never writes. -/
@[simp] theorem State.startShot_keeps (s : State) (sh : Shot) :
    (s.startShot sh).pending = s.pending ∧ (s.startShot sh).clock = s.clock ∧ (s.startShot sh).tables = s.tables ∧
    (s.startShot sh).queue = s.queue ∧ (s.startShot sh).trig = s.trig ∧ (s.startShot sh).links = s.links := by
  unfold State.startShot
  simp

/-- What `setCondition` never writes. -/
@[simp] theorem State.setCondition_keeps (s : State) (i : Fin 12) (c : Condition) :
    (s.setCondition i c).pending = s.pending ∧ (s.setCondition i c).clock = s.clock ∧
    (s.setCondition i c).tables = s.tables ∧ (s.setCondition i c).queue = s.queue ∧ (s.setCondition i c).engine = s.engine ∧
    (s.setCondition i c).trig = s.trig ∧ (s.setCondition i c).synth = s.synth ∧ (s.setCondition i c).contacts = s.contacts ∧
    (s.setCondition i c).breakers = s.breakers ∧ (s.setCondition i c).reports = s.reports ∧
    (s.setCondition i c).captures = s.captures ∧ (s.setCondition i c).tick = s.tick := by
  unfold State.setCondition
  try dsimp only
  and_intros
  all_goals repeat' split
  all_goals simp

/-- What `compareLane` never writes. -/
@[simp] theorem State.compareLane_keeps (s : State) (i : Fin 12) :
    (s.compareLane i).pending = s.pending ∧ (s.compareLane i).clock = s.clock ∧ (s.compareLane i).tables = s.tables ∧
    (s.compareLane i).queue = s.queue ∧ (s.compareLane i).engine = s.engine ∧ (s.compareLane i).trig = s.trig ∧
    (s.compareLane i).synth = s.synth ∧ (s.compareLane i).contacts = s.contacts ∧ (s.compareLane i).breakers = s.breakers ∧
    (s.compareLane i).reports = s.reports ∧ (s.compareLane i).captures = s.captures := by
  unfold State.compareLane
  try dsimp only
  and_intros
  all_goals repeat' split
  all_goals simp

/-- What `compareLanes` never writes. -/
@[simp] theorem State.compareLanes_keeps (s : State) :
    s.compareLanes.pending = s.pending ∧ s.compareLanes.clock = s.clock ∧ s.compareLanes.tables = s.tables ∧
    s.compareLanes.queue = s.queue ∧ s.compareLanes.engine = s.engine ∧ s.compareLanes.trig = s.trig ∧
    s.compareLanes.synth = s.synth ∧ s.compareLanes.contacts = s.contacts ∧ s.compareLanes.breakers = s.breakers ∧
    s.compareLanes.reports = s.reports ∧ s.compareLanes.captures = s.captures := 
  ⟨foldl_keeps (fun s => s.pending) _ (fun s k => by simp) _ s,
    foldl_keeps (fun s => s.clock) _ (fun s k => by simp) _ s,
    foldl_keeps (fun s => s.tables) _ (fun s k => by simp) _ s,
    foldl_keeps (fun s => s.queue) _ (fun s k => by simp) _ s,
    foldl_keeps (fun s => s.engine) _ (fun s k => by simp) _ s,
    foldl_keeps (fun s => s.trig) _ (fun s k => by simp) _ s,
    foldl_keeps (fun s => s.synth) _ (fun s k => by simp) _ s,
    foldl_keeps (fun s => s.contacts) _ (fun s k => by simp) _ s,
    foldl_keeps (fun s => s.breakers) _ (fun s k => by simp) _ s,
    foldl_keeps (fun s => s.reports) _ (fun s k => by simp) _ s,
    foldl_keeps (fun s => s.captures) _ (fun s k => by simp) _ s⟩

/-- What `compareAll` never writes. -/
@[simp] theorem State.compareAll_keeps (s : State) :
    s.compareAll.pending = s.pending ∧ s.compareAll.clock = s.clock ∧ s.compareAll.trig = s.trig ∧
    s.compareAll.synth = s.synth ∧ s.compareAll.contacts = s.contacts ∧ s.compareAll.breakers = s.breakers := by
  unfold State.compareAll
  try dsimp only
  and_intros
  all_goals repeat' split
  all_goals simp

/-- What `heatAll` never writes. -/
@[simp] theorem State.heatAll_keeps (s : State) :
    s.heatAll.pending = s.pending ∧ s.heatAll.clock = s.clock ∧ s.heatAll.trig = s.trig ∧ s.heatAll.synth = s.synth ∧
    s.heatAll.contacts = s.contacts ∧ s.heatAll.breakers = s.breakers := by
  unfold State.heatAll
  try dsimp only
  and_intros
  all_goals repeat' split
  all_goals simp

/-- What `superviseEnd` never writes. -/
@[simp] theorem State.superviseEnd_keeps (s : State) :
    s.superviseEnd.pending = s.pending ∧ s.superviseEnd.clock = s.clock ∧ s.superviseEnd.tables = s.tables ∧
    s.superviseEnd.queue = s.queue ∧ s.superviseEnd.engine = s.engine ∧ s.superviseEnd.trig = s.trig ∧
    s.superviseEnd.synth = s.synth ∧ s.superviseEnd.contacts = s.contacts ∧ s.superviseEnd.breakers = s.breakers ∧
    s.superviseEnd.reports = s.reports ∧ s.superviseEnd.captures = s.captures := by
  unfold State.superviseEnd
  try dsimp only
  and_intros
  all_goals repeat' split
  all_goals simp

/-- What `flushElems` never writes. -/
@[simp] theorem State.flushElems_keeps (s : State) :
    s.flushElems.pending = s.pending ∧ s.flushElems.clock = s.clock ∧ s.flushElems.tables = s.tables ∧
    s.flushElems.queue = s.queue ∧ s.flushElems.trig = s.trig ∧ s.flushElems.synth = s.synth ∧
    s.flushElems.contacts = s.contacts ∧ s.flushElems.breakers = s.breakers ∧ s.flushElems.sup = s.sup ∧
    s.flushElems.captures = s.captures ∧ s.flushElems.links = s.links ∧ s.flushElems.tick = s.tick := by
  unfold State.flushElems
  try dsimp only
  and_intros
  all_goals repeat' split
  all_goals simp

/-- What `settleTick` never writes. -/
@[simp] theorem State.settleTick_keeps (s : State) :
    s.settleTick.pending = s.pending ∧ s.settleTick.clock = s.clock ∧ s.settleTick.tables = s.tables ∧
    s.settleTick.queue = s.queue ∧ s.settleTick.trig = s.trig ∧ s.settleTick.synth = s.synth ∧
    s.settleTick.contacts = s.contacts ∧ s.settleTick.breakers = s.breakers ∧ s.settleTick.sup = s.sup ∧
    s.settleTick.captures = s.captures ∧ s.settleTick.links = s.links := by
  unfold State.settleTick
  simp

/-- What `perform` never writes. -/
@[simp] theorem State.perform_keeps (s : State) (a : Action) :
    (s.perform a).pending = s.pending ∧ (s.perform a).clock = s.clock ∧ (s.perform a).trig = s.trig := by
  unfold State.perform
  try dsimp only
  and_intros
  all_goals repeat' split
  all_goals simp

/-- What `engineWork` never writes. -/
@[simp] theorem State.engineWork_keeps (s : State) :
    s.engineWork.pending = s.pending ∧ s.engineWork.clock = s.clock ∧ s.engineWork.trig = s.trig := by
  unfold State.engineWork
  try dsimp only
  and_intros
  all_goals repeat' split
  all_goals simp

/-- What `reenergiseLane` never writes. -/
@[simp] theorem State.reenergiseLane_keeps (s : State) (sh : Shot) (run : Run) (i : Fin 12) :
    (s.reenergiseLane sh run i).pending = s.pending ∧ (s.reenergiseLane sh run i).clock = s.clock ∧
    (s.reenergiseLane sh run i).tables = s.tables ∧ (s.reenergiseLane sh run i).queue = s.queue ∧
    (s.reenergiseLane sh run i).engine = s.engine ∧ (s.reenergiseLane sh run i).trig = s.trig ∧
    (s.reenergiseLane sh run i).contacts = s.contacts ∧ (s.reenergiseLane sh run i).breakers = s.breakers ∧
    (s.reenergiseLane sh run i).sup = s.sup ∧ (s.reenergiseLane sh run i).reports = s.reports ∧
    (s.reenergiseLane sh run i).captures = s.captures ∧ (s.reenergiseLane sh run i).links = s.links := by
  unfold State.reenergiseLane
  try dsimp only
  and_intros
  all_goals repeat' split
  all_goals simp

/-- What `reenergiseDue` never writes. -/
@[simp] theorem State.reenergiseDue_keeps (s : State) (sh : Shot) (run : Run) :
    (s.reenergiseDue sh run).pending = s.pending ∧ (s.reenergiseDue sh run).clock = s.clock ∧
    (s.reenergiseDue sh run).tables = s.tables ∧ (s.reenergiseDue sh run).queue = s.queue ∧
    (s.reenergiseDue sh run).engine = s.engine ∧ (s.reenergiseDue sh run).trig = s.trig ∧
    (s.reenergiseDue sh run).contacts = s.contacts ∧ (s.reenergiseDue sh run).breakers = s.breakers ∧
    (s.reenergiseDue sh run).sup = s.sup ∧ (s.reenergiseDue sh run).reports = s.reports ∧
    (s.reenergiseDue sh run).captures = s.captures ∧ (s.reenergiseDue sh run).links = s.links := 
  ⟨foldl_keeps (fun s => s.pending) _ (fun s k => by split <;> simp) _ s,
    foldl_keeps (fun s => s.clock) _ (fun s k => by split <;> simp) _ s,
    foldl_keeps (fun s => s.tables) _ (fun s k => by split <;> simp) _ s,
    foldl_keeps (fun s => s.queue) _ (fun s k => by split <;> simp) _ s,
    foldl_keeps (fun s => s.engine) _ (fun s k => by split <;> simp) _ s,
    foldl_keeps (fun s => s.trig) _ (fun s k => by split <;> simp) _ s,
    foldl_keeps (fun s => s.contacts) _ (fun s k => by split <;> simp) _ s,
    foldl_keeps (fun s => s.breakers) _ (fun s k => by split <;> simp) _ s,
    foldl_keeps (fun s => s.sup) _ (fun s k => by split <;> simp) _ s,
    foldl_keeps (fun s => s.reports) _ (fun s k => by split <;> simp) _ s,
    foldl_keeps (fun s => s.captures) _ (fun s k => by split <;> simp) _ s,
    foldl_keeps (fun s => s.links) _ (fun s k => by split <;> simp) _ s⟩

/-- What `playLanes` never writes. -/
@[simp] theorem State.playLanes_keeps (s : State) (sh : Shot) (run : Run) :
    (s.playLanes sh run).pending = s.pending ∧ (s.playLanes sh run).clock = s.clock ∧
    (s.playLanes sh run).tables = s.tables ∧ (s.playLanes sh run).queue = s.queue ∧ (s.playLanes sh run).engine = s.engine ∧
    (s.playLanes sh run).trig = s.trig ∧ (s.playLanes sh run).contacts = s.contacts ∧
    (s.playLanes sh run).breakers = s.breakers ∧ (s.playLanes sh run).sup = s.sup ∧
    (s.playLanes sh run).captures = s.captures ∧ (s.playLanes sh run).links = s.links := by
  unfold State.playLanes
  simp

/-- What `synthesise` never writes. -/
@[simp] theorem State.synthesise_keeps (s : State) :
    s.synthesise.pending = s.pending ∧ s.synthesise.clock = s.clock ∧ s.synthesise.tables = s.tables ∧
    s.synthesise.queue = s.queue ∧ s.synthesise.engine = s.engine ∧ s.synthesise.trig = s.trig ∧
    s.synthesise.contacts = s.contacts ∧ s.synthesise.breakers = s.breakers ∧ s.synthesise.sup = s.sup ∧
    s.synthesise.captures = s.captures ∧ s.synthesise.links = s.links := by
  unfold State.synthesise
  try dsimp only
  and_intros
  all_goals repeat' split
  all_goals simp

/-- What `closeTick` never writes. -/
@[simp] theorem State.closeTick_keeps (s : State) :
    s.closeTick.pending = s.pending ∧ s.closeTick.clock = s.clock ∧ s.closeTick.tables = s.tables ∧
    s.closeTick.queue = s.queue ∧ s.closeTick.engine = s.engine ∧ s.closeTick.trig = s.trig ∧
    s.closeTick.contacts = s.contacts ∧ s.closeTick.breakers = s.breakers ∧ s.closeTick.sup = s.sup ∧
    s.closeTick.captures = s.captures ∧ s.closeTick.links = s.links := by
  unfold State.closeTick
  simp

/-- What `runTick` never writes. -/
@[simp] theorem State.runTick_keeps (s : State) :
    s.runTick.pending = s.pending ∧ s.runTick.clock = s.clock ∧ s.runTick.trig = s.trig := by
  unfold State.runTick
  try dsimp only
  and_intros
  all_goals repeat' split
  all_goals simp

/-- What `endGoWait` never writes. -/
@[simp] theorem State.endGoWait_keeps (s : State) (l : Link) :
    (s.endGoWait l).pending = s.pending ∧ (s.endGoWait l).clock = s.clock ∧ (s.endGoWait l).trig = s.trig ∧
    (s.endGoWait l).synth = s.synth ∧ (s.endGoWait l).contacts = s.contacts ∧ (s.endGoWait l).breakers = s.breakers ∧
    (s.endGoWait l).sup = s.sup ∧ (s.endGoWait l).tick = s.tick := by
  unfold State.endGoWait
  try dsimp only
  and_intros
  all_goals repeat' split
  all_goals simp

/-- What `clearOverride` never writes. -/
@[simp] theorem State.clearOverride_keeps (s : State) :
    s.clearOverride.pending = s.pending ∧ s.clearOverride.clock = s.clock ∧ s.clearOverride.trig = s.trig ∧
    s.clearOverride.synth = s.synth ∧ s.clearOverride.contacts = s.contacts ∧ s.clearOverride.breakers = s.breakers ∧
    s.clearOverride.tick = s.tick := by
  unfold State.clearOverride
  try dsimp only
  and_intros
  all_goals repeat' split
  all_goals simp

/-- What `linkReset` never writes. -/
@[simp] theorem State.linkReset_keeps (s : State) (l : Link) :
    (s.linkReset l).pending = s.pending ∧ (s.linkReset l).clock = s.clock ∧ (s.linkReset l).trig = s.trig ∧
    (s.linkReset l).synth = s.synth ∧ (s.linkReset l).contacts = s.contacts ∧ (s.linkReset l).breakers = s.breakers ∧
    (s.linkReset l).tick = s.tick := by
  unfold State.linkReset
  try dsimp only
  and_intros
  all_goals repeat' split
  all_goals simp

/-- What `declareFault` never writes. -/
@[simp] theorem State.declareFault_keeps (s : State) (i : Fin 12) :
    (s.declareFault i).pending = s.pending ∧ (s.declareFault i).clock = s.clock ∧ (s.declareFault i).trig = s.trig ∧
    (s.declareFault i).synth = s.synth ∧ (s.declareFault i).contacts = s.contacts ∧
    (s.declareFault i).breakers = s.breakers ∧ (s.declareFault i).tick = s.tick := by
  unfold State.declareFault
  try dsimp only
  and_intros
  all_goals repeat' split
  all_goals simp

/-- What `setOverrideLatch` never writes. -/
@[simp] theorem State.setOverrideLatch_keeps (s : State) :
    s.setOverrideLatch.pending = s.pending ∧ s.setOverrideLatch.clock = s.clock ∧ s.setOverrideLatch.trig = s.trig ∧
    s.setOverrideLatch.synth = s.synth ∧ s.setOverrideLatch.contacts = s.contacts ∧
    s.setOverrideLatch.breakers = s.breakers ∧ s.setOverrideLatch.tick = s.tick := by
  unfold State.setOverrideLatch
  try dsimp only
  and_intros
  all_goals repeat' split
  all_goals simp

/-- What `retire` never writes. -/
@[simp] theorem State.retire_keeps (s : State) (k : Fin 16) (l : Link) (w : LinkSet) :
    (s.retire k l w).pending = s.pending ∧ (s.retire k l w).clock = s.clock ∧ (s.retire k l w).trig = s.trig ∧
    (s.retire k l w).synth = s.synth ∧ (s.retire k l w).contacts = s.contacts ∧ (s.retire k l w).breakers = s.breakers ∧
    (s.retire k l w).sup = s.sup ∧ (s.retire k l w).tick = s.tick := by
  unfold State.retire
  try dsimp only
  and_intros
  all_goals repeat' split
  all_goals simp

/-- What `setDiscipline` never writes. -/
@[simp] theorem State.setDiscipline_keeps (s : State) (on : Bool) :
    (s.setDiscipline on).pending = s.pending ∧ (s.setDiscipline on).trig = s.trig ∧ (s.setDiscipline on).synth = s.synth ∧
    (s.setDiscipline on).contacts = s.contacts ∧ (s.setDiscipline on).breakers = s.breakers ∧
    (s.setDiscipline on).sup = s.sup ∧ (s.setDiscipline on).tick = s.tick := by
  unfold State.setDiscipline
  try dsimp only
  and_intros
  all_goals repeat' split
  all_goals simp

/-- What `reanchor` never writes. -/
@[simp] theorem State.reanchor_keeps (s : State) :
    s.reanchor.pending = s.pending ∧ s.reanchor.tables = s.tables ∧ s.reanchor.queue = s.queue ∧
    s.reanchor.engine = s.engine ∧ s.reanchor.trig = s.trig ∧ s.reanchor.synth = s.synth ∧
    s.reanchor.contacts = s.contacts ∧ s.reanchor.breakers = s.breakers ∧ s.reanchor.sup = s.sup ∧
    s.reanchor.reports = s.reports ∧ s.reanchor.captures = s.captures ∧ s.reanchor.links = s.links ∧ s.reanchor.tick = s.tick := by
  unfold State.reanchor
  try dsimp only
  and_intros
  all_goals repeat' split
  all_goals simp

/-- What `startSecond` never writes. -/
@[simp] theorem State.startSecond_keeps (s : State) :
    s.startSecond.pending = s.pending ∧ s.startSecond.clock = s.clock ∧ s.startSecond.tables = s.tables ∧
    s.startSecond.queue = s.queue ∧ s.startSecond.trig = s.trig ∧ s.startSecond.links = s.links := by
  unfold State.startSecond
  try dsimp only
  and_intros
  all_goals repeat' split
  all_goals simp

/-- What `acceptMark` never writes. -/
@[simp] theorem State.acceptMark_keeps (s : State) (a : Acceptance) :
    (s.acceptMark a).pending = s.pending ∧ (s.acceptMark a).trig = s.trig := by
  unfold State.acceptMark
  simp

/-- What `handleMark` never writes. -/
@[simp] theorem State.handleMark_keeps (s : State) :
    s.handleMark.pending = s.pending ∧ s.handleMark.trig = s.trig := by
  unfold State.handleMark
  try dsimp only
  and_intros
  all_goals repeat' split
  all_goals simp

/-- What `expire` never writes. -/
@[simp] theorem State.expire_keeps (s : State) :
    s.expire.pending = s.pending ∧ s.expire.trig = s.trig ∧ s.expire.synth = s.synth ∧ s.expire.contacts = s.contacts ∧
    s.expire.breakers = s.breakers ∧ s.expire.sup = s.sup ∧ s.expire.tick = s.tick := by
  unfold State.expire
  try dsimp only
  and_intros
  all_goals repeat' split
  all_goals simp

/-- What `takeTrig` never writes. -/
@[simp] theorem State.takeTrig_keeps (s : State) :
    s.takeTrig.pending = s.pending ∧ s.takeTrig.clock = s.clock ∧ s.takeTrig.tables = s.tables ∧
    s.takeTrig.queue = s.queue ∧ s.takeTrig.trig = s.trig ∧ s.takeTrig.synth = s.synth ∧ s.takeTrig.contacts = s.contacts ∧
    s.takeTrig.breakers = s.breakers ∧ s.takeTrig.sup = s.sup ∧ s.takeTrig.reports = s.reports ∧
    s.takeTrig.captures = s.captures ∧ s.takeTrig.links = s.links ∧ s.takeTrig.tick = s.tick := by
  unfold State.takeTrig
  try dsimp only
  and_intros
  all_goals repeat' split
  all_goals simp

/-- What `deviationFault` never writes. -/
@[simp] theorem State.deviationFault_keeps (s : State) (i : Fin 12) :
    (s.deviationFault i).pending = s.pending ∧ (s.deviationFault i).clock = s.clock ∧ (s.deviationFault i).trig = s.trig := by
  unfold State.deviationFault
  try dsimp only
  and_intros
  all_goals repeat' split
  all_goals simp

end Sys2Proof.Machine
end

