-- ==== Sys2Proof/Laws/Ops.lean ====
section
/-! SUPPORT. What each shared operation can do, said once: the choice and the moment of a grant, the end of a shot, the work of a
tick. A later proof cites these and does not unfold the operation. -/

namespace Sys2Proof.Machine

/-! ## Sets -/

/-- `lowest` gives the first index that is accepted. -/
theorem lowest_eq_some {n : Nat} {f : Fin n → Bool} {i : Fin n} :
    lowest f = some i ↔ f i = true ∧ ∀ j, j < i → f j = false := by
  unfold lowest
  rw [List.find?_eq_some_iff_getElem]
  simp only [List.getElem_finRange, List.length_finRange]
  constructor
  · rintro ⟨h, k, hk, he, hj⟩
    obtain rfl : k = i.val := by rw [← he]; simp
    exact ⟨h, fun j hj' => by simpa using hj j.val hj'⟩
  · rintro ⟨h, hj⟩
    exact ⟨h, i.val, i.isLt, by simp, fun j hj' => by simpa using hj ⟨j, by omega⟩ hj'⟩

/-- `lowest` gives nothing when no index is accepted. -/
theorem lowest_eq_none {n : Nat} {f : Fin n → Bool} : lowest f = none ↔ ∀ i, f i = false := by
  unfold lowest; simp

/-- The members of a set are the indices it has. -/
@[simp] theorem mem_members {n : Nat} {m : BitVec n} {i : Fin n} : i ∈ members m ↔ has m i = true := by simp [members]

/-! ## Grants (R30 to R35) -/

@[simp] theorem Engine.isIdle_iff {e : Engine} : e.isIdle = true ↔ e = .idle := by cases e <;> simp [Engine.isIdle]

/-- A request is eligible only while the engine is IDLE (R30 condition 1). -/
theorem State.eligible_idle {s : State} {r : Request} (h : s.eligible r = true) : s.engine = .idle := by
  by_contra hn
  have hi : s.engine.isIdle = false := by rw [Bool.eq_false_iff, ne_eq, Engine.isIdle_iff]; exact hn
  simp [State.eligible, State.cause, hi] at h

/-- The request chosen is queued and eligible (R32). -/
theorem State.choice_mem {s : State} {r : Request} (h : s.choice = some r) :
    r ∈ s.queue.requests ∧ s.eligible r = true := by
  unfold State.choice at h
  dsimp only at h
  split at h
  · rename_i h1
    cases h
    simpa using List.mem_of_find?_eq_some h1
  · simpa using List.mem_of_find?_eq_some h

/-- No request is chosen unless the engine is IDLE. -/
theorem State.choice_of_busy {s : State} (h : s.engine ≠ .idle) : s.choice = none := by
  cases hc : s.choice with
  | none => rfl
  | some r => exact absurd (State.eligible_idle (State.choice_mem hc).2) h

/-- The minimum that `bestPriority` folds out is attained. -/
theorem State.bestPriority_attained (s : State) {es : List Request} (h : es ≠ []) :
    ∃ r ∈ es, (s.priorityOf r).priority = s.bestPriority es := by
  cases es with
  | nil => exact absurd rfl h
  | cons r rs =>
    have key : ∀ (xs : List Request) (n : Nat), xs.foldl (fun p x => min p (s.priorityOf x).priority) n = n ∨
        ∃ x ∈ xs, (s.priorityOf x).priority = xs.foldl (fun p x => min p (s.priorityOf x).priority) n := by
      intro xs
      induction xs with
      | nil => intro n; exact .inl rfl
      | cons x xs ih =>
        intro n
        rw [List.foldl_cons]
        rcases ih (min n (s.priorityOf x).priority) with h | ⟨y, hy, h⟩
        · rw [h]
          rcases Nat.le_total n (s.priorityOf x).priority with hl | hl
          · exact .inl (Nat.min_eq_left hl)
          · exact .inr ⟨x, by simp, (Nat.min_eq_right hl).symm⟩
        · exact .inr ⟨y, by simp [hy], h⟩
    rcases key rs (s.priorityOf r).priority with h | ⟨x, hx, h⟩
    · exact ⟨r, by simp, h.symm⟩
    · exact ⟨x, by simp [hx], h⟩

/-- Some request is chosen when one is eligible (R32). -/
theorem State.choice_isSome {s : State} {r : Request} (hr : r ∈ s.queue.requests) (he : s.eligible r = true) :
    ∃ x, s.choice = some x := by
  unfold State.choice
  dsimp only
  split
  · exact ⟨_, rfl⟩
  · have hne : s.queue.requests.filter s.eligible ≠ [] := fun h => by
      have : r ∈ s.queue.requests.filter s.eligible := by simp [hr, he]
      simp [h] at this
    obtain ⟨x, hx, hp⟩ := s.bestPriority_attained hne
    cases hf : (s.queue.requests.filter s.eligible).find?
        fun r => (s.priorityOf r).priority == s.bestPriority (s.queue.requests.filter s.eligible) with
    | some y => exact ⟨y, rfl⟩
    | none => exact absurd (List.find?_eq_none.1 hf x hx) (by simp [hp])

/-- No grant waits exactly when nothing is chosen. -/
theorem State.noGrantWaits_iff {s : State} : s.NoGrantWaits ↔ s.choice = none := by
  constructor
  · intro h
    cases hc : s.choice with
    | none => rfl
    | some r =>
      have hm := State.choice_mem hc
      exact absurd (by simpa [State.eligible] using hm.2) (h (State.eligible_idle hm.2) r hm.1)
  · intro h _ r hr hn
    obtain ⟨x, hx⟩ := State.choice_isSome hr (by simp [State.eligible, hn])
    simp [h] at hx

/-- An eligible request finds an EMPTY slot (R30 condition 2). -/
theorem State.choice_slot {s : State} {r : Request} (h : s.choice = some r) : ∃ k, s.emptySlot = some k := by
  have he := (State.choice_mem h).2
  cases hs : s.emptySlot with
  | some k => exact ⟨k, rfl⟩
  | none =>
    have hi := State.eligible_idle he
    simp [State.eligible, State.cause, hs, hi, Engine.isIdle] at he

/-- A grant leaves the engine ARMED (R33 step 7). -/
@[simp] theorem State.grantInto_engine (s : State) (r : Request) (k : Fin 16) :
    (s.grantInto r k).engine =
      .armed { req := r, serial := serialAfter s.queue.lastSerial, slot := k, half := s.halfFor r } (s.latchAtGrant r) := by
  simp [State.grantInto]

/-- A grant takes its request out of the queue (R33 steps 1 to 3). -/
@[simp] theorem State.grantInto_queue (s : State) (r : Request) (k : Fin 16) :
    (s.grantInto r k).queue =
      { s.queue with requests := (s.queue.requests.erase r).map Request.passOver,
                     lastSerial := serialAfter s.queue.lastSerial } := by
  simp [State.grantInto]

/-- While the engine is not IDLE no grant is made. -/
theorem State.grantLoop_of_busy {s : State} (n : Nat) (h : s.engine ≠ .idle) : State.grantLoop n s = s := by
  cases n with
  | zero => rfl
  | succ n => simp [State.grantLoop, State.choice_of_busy h]

/-- While the engine is not IDLE a grant moment changes nothing. -/
theorem State.grantMoment_of_busy {s : State} (h : s.engine ≠ .idle) : s.grantMoment = s := State.grantLoop_of_busy _ h

/-- With nothing to choose a grant moment changes nothing. -/
theorem State.grantMoment_of_none {s : State} (h : s.choice = none) : s.grantMoment = s := by
  unfold State.grantMoment
  cases s.queue.requests.length <;> simp [State.grantLoop, h]

/-- A property that each grant keeps, and each end of a granted SECOND shot at its grant (R35), survives a grant moment. -/
theorem State.grantLoop_induct {P : State → Prop}
    (hg : ∀ s r k, P s → s.choice = some r → s.emptySlot = some k → P (s.grantInto r k))
    (he : ∀ s sh latch, P s → s.engine = .armed sh latch → P (s.endArmed sh .timeLost)) :
    ∀ (n : Nat) (s : State), P s → P (State.grantLoop n s) := by
  intro n
  induction n with
  | zero => intro s h; exact h
  | succ n ih =>
    intro s h
    unfold State.grantLoop
    dsimp only
    split
    · rename_i r k hc hk
      split
      · split
        · rename_i sh latch heng
          exact ih _ (he _ sh latch (hg s r k h hc hk) heng)
        · exact hg s r k h hc hk
      · exact hg s r k h hc hk
    · exact h

/-- A property that each grant keeps, and each end of a granted SECOND shot at its grant (R35), survives a grant moment. -/
theorem State.grantMoment_induct {P : State → Prop} {s : State} (h : P s)
    (hg : ∀ s r k, P s → s.choice = some r → s.emptySlot = some k → P (s.grantInto r k))
    (he : ∀ s sh latch, P s → s.engine = .armed sh latch → P (s.endArmed sh .timeLost)) : P s.grantMoment :=
  State.grantLoop_induct hg he _ _ h

/-! ## The end of a shot (R58 to R64) -/

/-- With a debounce horizon above 0 a shot settles without its teardown (R63). -/
theorem State.settle_of_horizon {s : State} {sh : Shot} {start : Option Clock}
    (h : (s.profile sh.req.profile).horizon ≠ 0) : s.settle sh start = { s with engine := .settling sh start s.now } := by
  unfold State.settle State.horizon
  rw [if_neg h]

/-- With a debounce horizon of 0 the teardown comes in the same action (R63). -/
theorem State.settle_of_zero {s : State} {sh : Shot} {start : Option Clock}
    (h : (s.profile sh.req.profile).horizon = 0) :
    s.settle sh start = ({ s with engine := .settling sh start s.now } : State).tearDown sh := by
  unfold State.settle State.horizon
  rw [if_pos h]

/-- The engine is IDLE after a teardown (R64 step 4). -/
@[simp] theorem State.tearDown_engine (s : State) (sh : Shot) : (s.tearDown sh).engine = .idle := rfl

/-- The locks of the shot are released at its teardown (R64 step 3). -/
@[simp] theorem State.tearDown_tables (s : State) (sh : Shot) : (s.tearDown sh).tables = s.tables.releaseFor sh.req := by
  simp [State.tearDown]

/-- The engine after a shot settles: SETTLING, or IDLE when the horizon is 0 (R63). -/
theorem State.settle_engine (s : State) (sh : Shot) (start : Option Clock) :
    (s.settle sh start).engine =
      if (s.profile sh.req.profile).horizon = 0 then .idle else .settling sh start s.now := by
  split
  · rename_i h; rw [State.settle_of_zero h]; simp
  · rename_i h; rw [State.settle_of_horizon h]

/-- After a grant moment nothing is chosen: every moment is used to the end (R31). -/
theorem State.grantLoop_choice (n : Nat) : ∀ s : State, s.queue.requests.length ≤ n → (State.grantLoop n s).choice = none := by
  induction n with
  | zero =>
    intro s h
    cases hc : s.choice with
    | none => exact hc
    | some r => exact absurd (List.length_pos_of_mem (State.choice_mem hc).1) (by omega)
  | succ n ih =>
    intro s h
    unfold State.grantLoop
    dsimp only
    split
    · rename_i r k hc hk
      have hlen : (s.grantInto r k).queue.requests.length ≤ n := by
        have hm := (State.choice_mem hc).1
        simp only [State.grantInto_queue, List.length_map, List.length_erase_of_mem hm]
        omega
      split
      · simp only [State.grantInto_engine]
        exact ih _ (by simpa using hlen)
      · exact State.choice_of_busy (by simp)
    · rename_i hc
      cases hcc : s.choice with
      | none => rfl
      | some r =>
        obtain ⟨k, hk⟩ := State.choice_slot hcc
        exact absurd hk (hc r k hcc)

/-- After a grant moment no grant waits (R31). -/
theorem State.grantMoment_noGrantWaits (s : State) : s.grantMoment.NoGrantWaits :=
  State.noGrantWaits_iff.2 (State.grantLoop_choice _ _ (Nat.le_refl _))

/-! ## Ends requested (R58) -/

theorem State.requestEnd_of_idle {s : State} (r : EndReason) (h : s.engine = .idle) : s.requestEnd r = s := by
  simp [State.requestEnd, h]

theorem State.requestEnd_of_settling {s : State} {sh : Shot} {a : Option Clock} {b : Clock} (r : EndReason)
    (h : s.engine = .settling sh a b) : s.requestEnd r = s := by
  simp [State.requestEnd, h]

theorem State.requestEnd_of_armed {s : State} {sh : Shot} {a : Option Clock} (r : EndReason)
    (h : s.engine = .armed sh a) : s.requestEnd r = (s.endArmed sh r).grantMoment := by
  simp [State.requestEnd, h]

/-- In RUNNING the first reason requested becomes the pending end. -/
theorem State.requestEnd_of_running {s : State} {sh : Shot} {run : Run} (r : EndReason) (h : s.engine = .running sh run) :
    s.requestEnd r = { s with engine := .running sh { run with pendingEnd := some (run.pendingEnd.getD r) } } := by
  simp only [State.requestEnd, h]
  cases hp : run.pendingEnd with
  | none => rfl
  | some x =>
    have h2 : Engine.running sh { run with pendingEnd := some x } = s.engine := by rw [h, ← hp]
    simp only [Option.getD_some, h2]

/-! ## The requests of the simulators (R110) -/

/-- What the cut requests of a simulator make of a lane: a LIVE lane that it binds becomes CUTTING, a CUT one loses a request that
waits, and a CUTTING one a request of this microsecond that is no longer to be made (R80, R110). -/
theorem State.cutRequests_lane (s : State) (k : Fin 4) (i : Fin 12) :
    (s.cutRequests k).synth.lanes[i] =
      if (s.breakers[k]).setting.binds i = true then (s.synth.lanes[i]).requestCut k s.now (s.released i)
      else s.synth.lanes[i] := by
  simp [State.cutRequests]

/-- What reaching CLOSED makes of a lane: of one that the simulator binds and where a request is to be made (R110). -/
theorem State.reenergiseRequests_lane (s : State) (k : Fin 4) (i : Fin 12) :
    (s.reenergiseRequests k).synth.lanes[i] =
      if (s.breakers[k]).setting.binds i = true ∧ (s.noteClosed k).asksAt k i = true then
        (s.synth.lanes[i]).requestReenergise s.now
      else s.synth.lanes[i] := by
  simp [State.reenergiseRequests]

/-- A request of this microsecond is to be made exactly when some simulator that counts for the lane finds it held by no other (R110). -/
theorem State.released_iff {s : State} {i : Fin 12} :
    s.released i = true ↔ ∃ m : Fin 4, has s.tick.moves.asked[i] m = true ∧ s.heldByOther m i = false := by
  simp [State.released]

/-- The simulators that count for a lane once one more has reached CLOSED (R110). -/
theorem State.noteClosed_asked (s : State) (k m : Fin 4) (i : Fin 12) :
    has (s.noteClosed k).tick.moves.asked[i] m = (has s.tick.moves.asked[i] m || (m == k && s.counts k i)) := by
  by_cases h : s.counts k i = true
  · simp [State.noteClosed, h, Bool.or_comm]
  · simp [State.noteClosed, h]

/-- No other simulator holds a lane exactly when none does (R110). -/
theorem State.heldByOther_eq_false {s : State} {k : Fin 4} {i : Fin 12} :
    s.heldByOther k i = false ↔ ∀ j : Fin 4, j ≠ k → (s.breakers[j]).holds i = false := by
  simp [State.heldByOther]

/-! ## The work of a tick -/

/-- With no move due at this microsecond the tick finds the positions as they are (R107). -/
theorem State.completeMoves_of_none {s : State} (h : ∀ k, s.moveDue k = false) : s.completeMoves = s := by
  have key : ∀ k, s.completeMove k = s := by
    intro k
    have hk := h k
    unfold State.moveDue at hk
    unfold State.completeMove
    split
    · rename_i due target ht
      simp only [ht] at hk
      rw [if_neg (by simp [hk])]
    · rfl
  have both : ∀ k, s.completeBoth k = s := fun k => by rw [State.completeBoth, key, key]
  unfold State.completeMoves
  generalize List.finRange 4 = ks
  induction ks with
  | nil => rfl
  | cons k ks ih => rw [List.foldl_cons, both, ih]

/-- A step that can change no more of the engine than the breaker elements that wait for the tick. -/
def State.FreshOnly (s t : State) : Prop :=
  ∀ sh run, s.engine = .running sh run → ∃ es, t.engine = .running sh { run with fresh := es }

theorem State.FreshOnly.refl (s : State) : s.FreshOnly s := fun _ run h => ⟨run.fresh, h⟩

theorem State.FreshOnly.trans {s t u : State} (h : s.FreshOnly t) (g : t.FreshOnly u) : s.FreshOnly u := by
  intro sh run hr
  obtain ⟨es, he⟩ := h sh run hr
  obtain ⟨fs, hf⟩ := g _ _ he
  exact ⟨fs, hf⟩

theorem State.FreshOnly.of_eq {s t : State} (h : t.engine = s.engine) : s.FreshOnly t := fun _ run hr => ⟨run.fresh, h.trans hr⟩

/-- A breaker element written leaves the engine but for the elements that wait (R113). -/
theorem State.writeElem_fresh (s : State) (k : Fin 4) (c : BreakerChange) : s.FreshOnly (s.writeElem k c) := by
  intro sh run h
  simp only [State.writeElem, h]
  split
  · exact ⟨_, rfl⟩
  · exact ⟨run.fresh, by simp [h]⟩

theorem State.beginOpening_fresh (s : State) (k : Fin 4) (c : Clock) : s.FreshOnly (s.beginOpening k c) :=
  .trans (.of_eq (by simp)) (State.writeElem_fresh _ _ _)

theorem State.beginClosing_fresh (s : State) (k : Fin 4) (c : Clock) : s.FreshOnly (s.beginClosing k c) :=
  .trans (.of_eq (by simp)) (State.writeElem_fresh _ _ _)

theorem State.takeOpen_fresh (s : State) (k : Fin 4) : s.FreshOnly (s.takeOpen k) := by
  have h (b : Simulator) : s.FreshOnly ((s.setBreaker k b).writeElem k .opened) :=
    .trans (.of_eq (State.setBreaker_engine s k b)) (State.writeElem_fresh _ k .opened)
  unfold State.takeOpen
  dsimp only
  split
  · exact (h _).trans (State.beginClosing_fresh _ _ _)
  · exact h _

theorem State.takeClosed_fresh (s : State) (k : Fin 4) : s.FreshOnly (s.takeClosed k) := by
  have h (b : Simulator) : s.FreshOnly ((s.setBreaker k b).writeElem k .closed) :=
    .trans (.of_eq (by simp)) (State.writeElem_fresh _ k .closed)
  unfold State.takeClosed
  dsimp only
  split
  · exact (h _).trans (State.beginOpening_fresh _ _ _)
  · exact h _

theorem State.reachOpen_fresh (s : State) (k : Fin 4) : s.FreshOnly (s.reachOpen k) :=
  (s.takeOpen_fresh k).trans (.of_eq rfl)

theorem State.reachClosed_fresh (s : State) (k : Fin 4) : s.FreshOnly (s.reachClosed k) :=
  (s.takeClosed_fresh k).trans (.of_eq rfl)

theorem State.completeMove_fresh (s : State) (k : Fin 4) : s.FreshOnly (s.completeMove k) := by
  unfold State.completeMove
  split
  · split
    · split
      · exact State.reachOpen_fresh _ _
      · exact State.reachClosed_fresh _ _
    · exact .refl _
  · exact .refl _

/-- The moves completed at a tick change no more of the engine than the breaker elements that wait for it (R107, R113). -/
theorem State.completeMoves_fresh (s : State) : s.FreshOnly s.completeMoves := by
  unfold State.completeMoves
  generalize List.finRange 4 = ks
  induction ks generalizing s with
  | nil => exact .refl _
  | cons k ks ih => exact .trans (.trans (State.completeMove_fresh s k) (State.completeMove_fresh _ k)) (ih _)

/-- A tick with no move due is made ready by its opening alone. -/
theorem State.prepare_of_noMove {s : State} (h : ∀ k, s.moveDue k = false) : s.prepare = s.openTick := by
  have hc : s.openTick.completeMoves = s.openTick := State.completeMoves_of_none fun k => by
    have hk := h k
    simpa [State.moveDue, State.now] using hk
  rw [State.prepare, hc, ite_self]

/-- A tick with an end pending is made ready by its opening alone (R114, R115). -/
theorem State.prepare_of_end {s : State} {sh : Shot} {run : Run} (h : s.engine = .running sh run)
    (hp : run.pendingEnd.isSome = true) : s.prepare = s.openTick := by
  obtain ⟨r, hr⟩ := Option.isSome_iff_exists.1 hp
  have ho : s.openTick.engine = .running sh run := by simpa using h
  obtain ⟨es, he⟩ := s.openTick.completeMoves_fresh sh run ho
  have key : ∀ (t : State) (u : Run), t.engine = .running sh u → u.pendingEnd = some r →
      t.action.ending = some (r, .finish r) := fun t u hu hp => by simp only [State.action, hu, hp, Action.ending]
  rw [State.prepare, key _ _ ho hr, key _ _ he hr, if_pos ⟨rfl, rfl⟩]

/-- Once the engine's work at a tick is done it is not done again: a move due since then completes (R107). -/
theorem State.engineWork_of_done {s : State} (h : s.engineDue = false) :
    s.engineWork = if s.tickDue = true then s.completeMoves else s := by
  simp [State.engineWork, h]

/-- Once the engine's work at a tick is done, and with no move due, the rest of the tick finds the state as it is. -/
theorem State.engineWork_of_rest {s : State} (h : s.engineDue = false) (hm : ∀ k, s.moveDue k = false) : s.engineWork = s := by
  rw [State.engineWork_of_done h, State.completeMoves_of_none hm, ite_self]

/-- With no event waiting for the tick nothing is filed. -/
theorem State.fileWaiting_of_nil {s : State} (h : s.tick.events = []) : s.fileWaiting = s := by
  unfold State.fileWaiting
  rw [h]
  have : { s.tick with events := [] } = s.tick := by rw [← h]
  simp [this]

end Sys2Proof.Machine
end

