-- ==== Sys2Proof/Tests/Slice0.lean ====
section
/-! SUPPORT. Tests of the model: the checks of WellFormed, figures of the manual's worked examples, one small step for each
command, and for each statement with hypotheses a state and operands that meet them. -/

namespace Sys2Proof.Tests

open Sys2Proof Sys2Proof.Machine

set_option Elab.async false

/-! ## A bench: two states, one profile, one shot -/

/-- The state a command leaves. -/
def after (c : Instr) (s : State) : State :=
  match exec c s with
  | .next t => t
  | _ => s

/-- The status of the reply pending on a link. -/
def replyOf (l : Link) (s : State) : Option Status := (s.link l).reply.map fun r => r.status

/-- A lane that plays nothing. -/
def silent : LaneSetting := { rms := 0, angle := 0, freq := 0, tau := 0 }

/-- The prefault state of the example of section 4.4 on lane 0, with an exit of each kind the tests need. -/
def prefault : StateEntry :=
  { label := 200, pattern := 0, captureMark := false, pow := none,
    lanes := (Vector.replicate 12 silent).set 0 { rms := 1000, angle := 3000, freq := 50000, tau := 0 },
    exits := [{ kind := .time 50, target := .state 1 }, { kind := .trigger, target := .finish },
              { kind := .panelStep, target := .finish }, { kind := .inputEdge 2, target := .finish }],
    assessments := [] }

/-- The fault state of the example of section 1.3 on lanes 0 and 6; its target is END here. -/
def fault : StateEntry :=
  { label := 201, pattern := 0x80, captureMark := true, pow := some { lane := 6, angle := 0 },
    lanes := ((Vector.replicate 12 silent).set 0 { rms := 5000, angle := 3000, freq := 50000, tau := 40 }).set 6
      { rms := 2000, angle := 0, freq := 50000, tau := 0 },
    exits := [{ kind := .inputLevel 1 false, target := .finish }, { kind := .time 200000, target := .finish }],
    assessments := [{ kind := .operate 0, origin := .visitEntry, mode := .below, low := 0, high := 40000 }] }

/-- A simulator on current lane 0, tripped by BI1 and closed by BI2. -/
def breaker0 : BreakerSetting :=
  { enabled := true, trip := some 1, close := some 2, openTime := 100, closeTime := 100, aOut := some 0, bOut := some 1,
    lanes := 1, initial := .closed, cutLimit := 2 }

/-- A simulator out of use. -/
def spare : BreakerSetting := { BreakerSetting.zero with cutLimit := 1 }

/-- Every input enabled with debounce 1,000 µs, simulator 0 in use, lane 0 adjustable in steps of 10 mA. -/
def rig : Profile :=
  { inputs := Vector.replicate 16 { enabled := true, active := .closed, debounce := 1000 },
    breakers := (Vector.replicate 4 spare).set 0 breaker0, steps := (Vector.replicate 12 0).set 0 10 }

/-- A request of the Plan link over both states. -/
def asked (c : StartCondition) : Request :=
  { ticket := 5, link := .plan, start := 0, profile := 0, condition := c, mode := .full, adjust := true, capture := true,
    trigMask := 1, preCount := 4, capLanes := 1, reach := 3, laneUse := 0x041, passed := 0 }

/-- The granted shot of a request. -/
def shotOf (c : StartCondition) : Shot := { req := asked c, serial := 1, slot := 0, half := some .a }

/-- The tables with both states and the profile held by the Plan link, each with a lock count. -/
def tablesWith (lock : Nat) : Tables :=
  { states := ((Vector.replicate 64 .free).set 0 (.loaded (some .plan) lock prefault)).set 1
      (.loaded (some .plan) lock fault),
    profiles := (Vector.replicate 4 .free).set 0 (.loaded (some .plan) lock rig) }

/-- The IDLE part with the tables loaded, at clock 1,000 µs. -/
def idle : State := { State.reset with clock := { State.reset.clock with clock := 1000 }, tables := tablesWith 0 }

/-- A request waiting in the queue of an IDLE part. -/
def waiting (c : StartCondition) : State :=
  { idle with tables := tablesWith 1, queue := { requests := [asked c], lastTicket := 5, lastSerial := 0 } }

/-- A shot granted. -/
def granted (c : StartCondition) : State := after .grant (waiting c)

/-- A shot ARMED with its start latch set one microsecond ago. -/
def latched : State := { granted .immediate with engine := .armed (shotOf .immediate) (some 999) }

/-- A running record that started 100 µs ago. -/
def began (inForce : Fin 64) : Run :=
  { Run.begin 900 inForce with entry := 0 }

/-- The shot RUNNING, at clock 1,000 µs, a tick. -/
def running (run : Run) : State :=
  { latched with
    engine := .running (shotOf .immediate) run,
    contacts := Vector.replicate 16 { Contact.reset .opened with prevRaw := some .opened },
    breakers := Vector.ofFn fun k => Simulator.start rig.breakers[k],
    reports := latched.reports.set 0 (.building
      { header := { Header.granted (asked .immediate) 1 900 false with visitCount := 1 },
        visits := [.opened 0 run.inForce 200 0], results := [], timeline := [] }) }

/-- The shot SETTLING since clock 0, every visit closed. -/
def settling : State := { granted .immediate with engine := .settling (shotOf .immediate) none 0 }

/-- Lane 0 of a state's Synthesizer replaced. -/
def withLane0 (s : State) (x : SynthLane) : State := { s with synth := { s.synth with lanes := s.synth.lanes.set 0 x } }

/-- Simulator 0 of a state replaced. -/
def withBreaker0 (s : State) (b : Simulator) : State := { s with breakers := s.breakers.set 0 b }

/-! ## WellFormed refuses the ill-formed -/

theorem test_wellFormed_badFrame : (Instr.badFrame .plan []).wellFormed = false := by decide
theorem test_wellFormed_loadState_short : (Instr.loadState .plan 0 [1, 2]).wellFormed = false := by decide
theorem test_wellFormed_loadState_long : (Instr.loadState .plan 0 (List.replicate 1025 0)).wellFormed = false := by
  decide +kernel
theorem test_wellFormed_loadProfile : (Instr.loadProfile .plan 0 (List.replicate 160 0)).wellFormed = false := by
  decide +kernel

/-! ## Figures of the manual -/

/-- Section 11.2: the CRC of "123456789". -/
theorem test_crc_check :
    crc [0x31, 0x32, 0x33, 0x34, 0x35, 0x36, 0x37, 0x38, 0x39] = 0x29B1 := by decide +kernel

/-- Section 4.3, the 50 Hz lane. -/
theorem test_increment : phaseIncrement 50000 = 10737418 ∧ angleOffset 3000 = 357913941 ∧ peak 5000 = 7071 := by
  decide +kernel
theorem test_sine : sine 341 = 16369 ∧ sine 351 = 16802 ∧ sine 361 = 17232 := by decide +kernel
theorem test_wave :
    acValue { rms := 5000, angle := 3000, freq := 50000, tau := 0 } 5000 21474836 = 3719 ∧ laneCode 0 3719 = 2693 := by
  decide +kernel
theorem test_direct :
    acValue { rms := 11000, angle := 3000, freq := 0, tau := 0 } 11000 0 = 5495 ∧ laneCode 6 5495 = 4244 := by
  decide +kernel

/-- Section 4.4, the offset at a fault entry and its decay. -/
theorem test_offset : entryResidue 0 { rms := 5000, angle := 3000, freq := 50000, tau := 40 } 706 3532 = -185204736 := by
  decide +kernel
theorem test_decay : decayCoefficient 40 = 82 ∧ decay (-185204736) 82 = -184973004 ∧
    decay (-184973004) 82 = -184741562 := by decide +kernel

/-- Section 4.5, a clipped value. -/
theorem test_clip : rawCode 0 62426 = 45200 ∧ laneCode 0 62426 = 32767 ∧ commandedValue 0 62426 = 45255 := by
  decide +kernel

/-- Section 7.3, one tick of the heat example. -/
theorem test_heat : heatNext 0 30000 12500 = 743750000 ∧ heatNext 30001387500000 0 12500 = 30001231250000 := by
  decide +kernel

/-- Section 10.5, marks of the worked example. -/
theorem test_mark_window : markSecond 1000025 = some 1 ∧ markSecond 2000089 = some 2 ∧ markSecond 1000101 = none := by
  decide +kernel

/-! ## One step of each command -/

theorem test_powerOnReset : (after .powerOnReset (running (began 0))).engine = .idle := by decide +kernel
theorem test_badFrame_short : replyOf .plan (after (.badFrame .plan [0xA5, 0, 9]) idle) = some .badFrame := by
  decide +kernel
theorem test_badFrame_kind :
    replyOf .plan (after (.badFrame .plan
      ([0xA5, 0x7F, 9, 0, 0] ++ halfBytes (crc [0x7F, 9, 0, 0]))) idle) = some .badKind := by decide +kernel
theorem test_nop : replyOf .panel (after (.nop .panel 1) idle) = some .ok := by decide +kernel
theorem test_peekNotices : ((after (.peekNotices .plan 1) (granted .go)).link .plan).notices.granted = true := by
  decide +kernel
theorem test_takeNotices : ((after (.takeNotices .plan 1) (granted .go)).link .plan).notices = .clear := by
  decide +kernel
theorem test_clearFault :
    ((after (.clearFault .plan 1) (after (.go .plan 2) idle)).link .plan).fault = none := by decide +kernel
theorem test_linkReset : (after (.linkReset .plan 1) (waiting .go)).queue.requests = [] := by decide +kernel
theorem test_linkReset_frees : (after (.linkReset .plan 1) (waiting .go)).tables.states[0] = .free := by decide +kernel
theorem test_loadState_length :
    replyOf .plan (after (.loadState .plan 1 (2 :: List.replicate 129 0)) idle) = some .badField := by decide +kernel
theorem test_loadProfile_held :
    replyOf .panel (after (.loadProfile .panel 1 (List.replicate 161 0)) idle) = some .held := by decide +kernel
theorem test_freeState : (after (.freeState .plan 1 1) idle).tables.states[1] = .free := by decide +kernel
theorem test_freeProfile_locked : replyOf .plan (after (.freeProfile .plan 1 0) (waiting .go)) = some .locked := by
  decide +kernel
theorem test_readState : replyOf .supervision (after (.readState .supervision 1 64) idle) = some .badField := by
  decide +kernel
theorem test_readProfile : replyOf .supervision (after (.readProfile .supervision 1 3) idle) = some .ok := by
  decide +kernel
theorem test_tableStatus : replyOf .panel (after (.tableStatus .panel 1) idle) = some .ok := by decide +kernel
theorem test_submitShot :
    (after (.submitShot .plan 1 0 0 1 0 1 1 1 4 1) idle).engine =
      .armed { shotOf .go with req := { asked .go with ticket := 1 } } none := by decide +kernel
theorem test_submitShot_room : replyOf .plan (after (.submitShot .plan 1 64 0 1 0 1 1 1 4 1) idle) = some .badField := by
  decide +kernel
theorem test_abort : (after (.abort .panel 1 5) (waiting .go)).queue.requests = [] := by decide +kernel
theorem test_abort_running : (after (.abort .panel 1 0) (running (began 0))).endPending = true := by decide +kernel
theorem test_setLinkPriority :
    ((after (.setLinkPriority .plan 1 9 16) idle).link .plan).priority = some { priority := 7, maxWait := 15 } := by
  decide +kernel
theorem test_queueStatus : replyOf .supervision (after (.queueStatus .supervision 1) idle) = some .ok := by
  decide +kernel
theorem test_grant : (granted .immediate).engine = .armed (shotOf .immediate) (some 1000) := by decide +kernel
theorem test_go : (after (.go .plan 1) (granted .go)).engine = .armed (shotOf .go) (some 1000) := by decide +kernel
theorem test_go_owner : replyOf .panel (after (.go .panel 1) (granted .go)) = some .notOwner := by decide +kernel
theorem test_panelStep : (after (.panelStep .panel 1) (running (began 0))).engine =
    .running (shotOf .immediate) { began 0 with stepLatch := true } := by decide +kernel
theorem test_panelStep_none : replyOf .panel (after (.panelStep .panel 1) (running (began 1))) = some .noStepExit := by
  decide +kernel
theorem test_adjust : ((after (.adjust .panel 1 0 0xFD) (running (began 0))).synth.lanes[0]).adjust = -3 := by
  decide +kernel
theorem test_adjust_mask : replyOf .panel (after (.adjust .panel 1 1 1) (running (began 0))) = some .notInMask := by
  decide +kernel
theorem test_setSupervision :
    ((after (.setSupervision .supervision 1 6 1 500 3 0 0) idle).sup.lanes[6]).settings.deviation = 500 := by
  decide +kernel
theorem test_setSupervision_busy :
    replyOf .supervision (after (.setSupervision .supervision 1 6 1 500 3 0 0) (granted .go)) = some .locked := by
  decide +kernel
theorem test_declareLaneFault :
    (after (.declareLaneFault .supervision 1 6) (granted .go)).engine = .settling (shotOf .go) none 1000 := by
  decide +kernel
theorem test_clearLaneFault :
    ((after (.clearLaneFault .supervision 1 6) (after (.declareLaneFault .supervision 1 6) idle)).sup.lanes[6]).condition =
      .ready := by decide +kernel
theorem test_setOverride : (after (.setOverride .supervision 1 2) idle).sup.override = true := by decide +kernel
theorem test_supervisionStatus : replyOf .plan (after (.supervisionStatus .plan 1) idle) = some .ok := by decide +kernel
theorem test_subscribe : ((after (.subscribe .supervision 1 1 17) idle).link .supervision).threshold = 16 := by
  decide +kernel
theorem test_reportStatus : replyOf .plan (after (.reportStatus .plan 1) idle) = some .ok := by decide +kernel
theorem test_readReport : replyOf .plan (after (.readReport .plan 1 0 0 0 0 0 0) (granted .go)) = some .notReady := by
  decide +kernel
theorem test_retireReport :
    (after (.retireReport .panel 1 0 1) (after (.retireReport .plan 1 0 1) (after .teardown settling))).reports[0] =
      .empty := by decide +kernel
theorem test_readCapture : replyOf .plan (after (.readCapture .plan 1 0 0 1) idle) = some .noCapture := by decide +kernel
theorem test_setDiscipline : (after (.setDiscipline .plan 1 1) idle).clock.quality = .free := by decide +kernel
theorem test_timeStatus : replyOf .plan (after (.timeStatus .plan 1) idle) = some .ok := by decide +kernel

/-- The IDLE part whose MARK line was low, with discipline ON and the reference of the mark at clock 5,300,017 µs, as the
mark of 6,300,042 µs of section 10.5 finds it. -/
def acquiring : State :=
  { idle with clock := { idle.clock with clock := 6300042, discipline := true, quality := .acquiring,
                                         reference := some 5300017, markPrev := some false } }

theorem test_mark :
    (after .mark acquiring).clock.count = 1 ∧ (after .mark acquiring).clock.deviation = some 25 ∧
      (after .mark acquiring).clock.anchor = 42 := by decide +kernel
theorem test_qualityExpiry :
    (after .qualityExpiry { acquiring with clock := { acquiring.clock with clock := 6300118 } }).clock.quality = .free := by
  decide +kernel
theorem test_clockWrap :
    (after .clockWrap { idle with clock := { idle.clock with clock := BitVec.allOnes 48 } }).clock.anchor = 44 := by
  decide +kernel
theorem test_trigEdge :
    (after .trigEdge { granted .trigger with trig := { prev := some false, now := false } }).engine =
      .armed (shotOf .trigger) (some 1000) := by decide +kernel
theorem test_inhibitAssert : (after .inhibitAssert (granted .go)).engine = .settling (shotOf .go) none 1000 := by
  decide +kernel
theorem test_inhibitDeassert :
    (after .inhibitDeassert { waiting .go with sup := { idle.sup with inhibit := true, pin := true } }).engine =
      .armed (shotOf .go) none := by decide +kernel
theorem test_contactRawEdge :
    ((after (.contactRawEdge 1 .closed) (running (began 0))).contacts[1]).episode = some ⟨1000, 1000⟩ := by decide +kernel

/-- BI1 has stood CLOSED for its whole debounce, since 950 µs before the shot's present microsecond. -/
def settledInput (start : Clock) : State :=
  { running (began 0) with
    contacts := (running (began 0)).contacts.set 1
      { setting := { enabled := true, active := .closed, debounce := 20 }, accepted := .opened,
        episode := some ⟨start, 980⟩, prevRaw := some .closed, pin := .closed } }

theorem test_episodeEnd : ((after (.episodeEnd 1) (settledInput 960)).breakers[0]).timer = some (1060, .opened) := by
  decide +kernel

/-- R87: an episode that ended at the start tick's sample under the old settings is in progress again after SHOT_START. -/
theorem test_shotStart_sampleAnew :
    let s := after .shotStart (after (.episodeEnd 1) { latched with contacts := (settledInput 960).contacts })
    (s.contacts[1]).episode = some ⟨960, 980⟩ ∧ (s.contacts[1]).accepted = .opened := by decide +kernel

/-- Simulator 0 OPENING, due now. -/
def opening : State :=
  withBreaker0 (running (began 0))
    { setting := breaker0, position := .opening, timer := some (1000, .opened), tripLatch := false, closeLatch := false,
      interrupting := false }

theorem test_moveComplete : ((after (.moveComplete 0) opening).synth.lanes[0]).cut = .cutting 0 0 := by decide +kernel

/-- R80: a re-energising request that waits already stands. -/
theorem test_moveComplete_waiting :
    ((after (.moveComplete 0) (withLane0
      (withBreaker0 opening { opening.breakers[0] with position := .closing, timer := some (1000, .closed) })
      { SynthLane.reset with cut := .cutting 0 1, reenergise := some 950 })).synth.lanes[0]).reenergise = some 950 := by
  decide +kernel

/-- R110: at a CUTTING lane that another simulator takes hold of, the request made at the same microsecond does not stand, and one
made earlier does. -/
theorem test_requestCut :
    (({ SynthLane.reset with cut := .cutting 0 1, reenergise := some 1000 } : SynthLane).requestCut 1 1000 false).reenergise = none ∧
    (({ SynthLane.reset with cut := .cutting 0 1, reenergise := some 950 } : SynthLane).requestCut 1 1000 false).reenergise =
      some 950 := by decide +kernel

/-- Simulators 0 and 1 CLOSING, due now, both on lane 0, which is CUTTING; the trip command of simulator 0 stands, with an open time
of 0. -/
def bothClosing : State :=
  let s := withLane0 (running (began 0)) { SynthLane.reset with cut := .cutting 0 1 }
  let closing (x : BreakerSetting) : Simulator :=
    { setting := x, position := .closing, timer := some (1000, .closed), tripLatch := false, closeLatch := false,
      interrupting := true }
  { s with
    breakers := (s.breakers.set 0 (closing { breaker0 with openTime := 0 })).set 1 (closing { breaker0 with trip := none }),
    contacts := s.contacts.set 1 { s.contacts[1] with accepted := .closed } }

/-- R107, R110, R115: the request of simulator 0, which reaches CLOSED and OPEN at the microsecond at which simulator 1 reaches
CLOSED, is made in whichever order they move. -/
theorem test_moves_order :
    let a := after (.moveComplete 1) (after (.moveComplete 0) (after (.moveComplete 0) bothClosing))
    let b := after (.moveComplete 0) (after (.moveComplete 0) (after (.moveComplete 1) bothClosing))
    (a.breakers[0]).position = .opened ∧ (a.synth.lanes[0]).reenergise = some 1000 ∧ a.synth = b.synth := by decide +kernel

/-- R163: the time since an entry at offset 2⁴⁸ − 6, 50 µs later, when the offsets of the shot have started again from 0. -/
theorem test_since_wraps :
    ({ idle with clock := { idle.clock with clock := 144 } } : State).since 100 (2 ^ 48 - 6) = 50 := by decide +kernel
theorem test_readbackFrame : (after (.readbackFrame (Vector.replicate 12 0xFFFFFF)) idle).sup.lastFrame[3] = -1 := by
  decide +kernel
theorem test_sampleTick :
    (after .sampleTick (running (began 1))).synth.codes[0] = 2557 ∧
      ((after .sampleTick (running (began 1))).synth.lanes[0]).accum = 10737418 := by decide +kernel

/-- Simulator 0 OPENING, due now, with its close command standing and a close time of 0. -/
def reclosing : State :=
  withBreaker0 { opening with contacts := opening.contacts.set 2 { opening.contacts[2] with accepted := .closed } }
    { opening.breakers[0] with setting := { breaker0 with closeTime := 0 } }

/-- R106, R107: a move of time 0 that the completion of another begins is completed at the same tick, also when the engine's work at
it was done before. -/
theorem test_sampleTick_moves :
    ((after .sampleTick reclosing).breakers[0]).position = .closed ∧
    ((after .sampleTick { reclosing with tick := { reclosing.tick with opened := true, engine := true } }).breakers[0]).position =
      .closed := by decide +kernel
theorem test_timeExit : (after .timeExit (running (began 0))).engine =
    .running (shotOf .immediate) { began 1 with visit := 1, entry := 100 } := by decide +kernel

/-- DEFERRING since 50 µs ago, lane 6 at the phase of the example of section 3.6. -/
def deferring (accum : Phase) : State :=
  let s := running { began 0 with deferral := some { target := 1, slot := 0, kind := .time 50, offset := 50 } }
  let entry := { prefault with lanes := prefault.lanes.set 6 { rms := 2000, angle := 0, freq := 50000, tau := 0 } }
  { s with
    tables := { s.tables with states := s.tables.states.set 0 (.loaded (some .plan) 1 entry) },
    synth := { s.synth with lanes := s.synth.lanes.set 6 { SynthLane.reset with accum := accum } } }

theorem test_deferralEnd_waits : after .deferralEnd (deferring 4294962496) = deferring 4294962496 := by decide +kernel
theorem test_deferralEnd : (after .deferralEnd (deferring 10732618)).engine =
    .running (shotOf .immediate) { began 1 with visit := 1, entry := 100 } := by decide +kernel
theorem test_shotStart : (after .shotStart latched).engine = .running (shotOf .immediate) (.begin 1000 0) := by
  decide +kernel

/-- R87, R88: the start tick's sample is the one that finds the level on the line after the start, so that an input newly enabled
and found at its accepted level has no episode. -/
theorem test_shotStart_oneSample :
    let s := after .shotStart { latched with contacts := latched.contacts.set 3 { latched.contacts[3] with pin := .closed } }
    (s.contacts[3]).episode = none ∧ s.dueWork = some (.contactRawEdge 3 .closed) ∧
    ((after (.contactRawEdge 3 .opened) s).contacts[3]).episode = none ∧
    ((after (.contactRawEdge 3 .closed) s).contacts[3]).episode = some ⟨1000, 1000⟩ := by decide +kernel
theorem test_shotEnd : (after .shotEnd (running { began 0 with pendingEnd := some .inhibited })).engine =
    .settling (shotOf .immediate) (some 900) 1000 := by decide +kernel

/-- The first visit of the RUNNING shot, in the fault state with BI0 operated after 23,417 µs, closes now. -/
def closing : State :=
  let s := running (began 1)
  let left : Visit :=
    { Visit.opened 0 1 201 0 with
      exit := some 50, closeAt := some 1000,
      inputs := [{ input := 0, firstOperate := some 23417, width := none, firstReset := none, operates := 1 }] }
  { s with
    reports := s.reports.set 0 (.building
      { header := { Header.granted (asked .immediate) 1 900 false with visitCount := 2 },
        visits := [left, .opened 1 1 201 50], results := [], timeline := [] }) }

theorem test_visitClose : (match (after .visitClose closing).reports[0] with
    | .building r => r.header.pass
    | _ => 0) = 1 := by decide +kernel
theorem test_teardown : (after .teardown settling).engine = .idle := by decide +kernel
theorem test_teardown_unlocks : ((after .teardown settling).tables.states[0]).lock = 0 := by decide +kernel

/-- Lane 6 supervised with miss run 2 and miss limit 3, at a compared tick without a frame (section 7.2). -/
def missing : State :=
  let s := running (began 1)
  let lane : SupLane :=
    { settings := { enabled := true, deviation := 500, missLimit := 3, rating := 0, heatLimit := 0 },
      condition := .ready, missRun := 2 }
  { s with
    sup := { s.sup with lanes := s.sup.lanes.set 6 lane }
    tick := { TickWork.none with previous := some { offset := 50, inputs := 0, outputs := 0 } } }

theorem test_deviationFault : ((after (.deviationFault 6) missing).sup.lanes[6]).condition = .deviation ∧
    (after (.deviationFault 6) missing).endPending = true := by decide +kernel

/-- `missing` with lane 0 supervised and at its last miss too. -/
def missingTwo : State := { missing with sup := { missing.sup with lanes := missing.sup.lanes.set 0 missing.sup.lanes[6] } }

/-- R120, R123: of two lanes that rise to their limits each is FAULTED at the one comparison of the tick, so that a CLEAR_LANE_FAULT
that follows finds the lane that the end request names FAULTED. -/
theorem test_deviationFault_two :
    let s := after (.deviationFault 6) missingTwo
    (s.sup.lanes[0]).condition = .deviation ∧ (s.sup.lanes[6]).condition = .deviation ∧
    s.engine = .running (shotOf .immediate) { began 1 with pendingEnd := some (.deviation 0) } ∧
    after (.deviationFault 0) s = s := by decide +kernel

/-- `missing` with an end pending. -/
def missingAtEnd : State := { missing with engine := .running (shotOf .immediate) { began 1 with pendingEnd := some .inhibited } }

/-- R123: at the end tick DEVIATION_FAULT leaves the lane FAULTED and the shot ended, so that nothing taken after it at the tick can
let the shot run on. -/
theorem test_deviationFault_end : ((after (.deviationFault 6) missingAtEnd).sup.lanes[6]).condition = .deviation ∧
    (after (.deviationFault 6) missingAtEnd).engine = .settling (shotOf .immediate) (some 900) 1000 := by decide +kernel

/-- Lane 0 CUTTING for simulator 0 in the RUNNING shot. -/
def cutting (prev : Int) (tested : Nat) : State :=
  withLane0 (running (began 1)) { SynthLane.reset with cut := .cutting 0 tested, prev := prev }

theorem test_cutTakesEffect : ((after (.cutTakesEffect 0) (cutting (-1) 0)).synth.lanes[0]).cut = .cut := by
  decide +kernel
theorem test_cutLimit : ((after (.cutLimit 0) (cutting 1 1)).synth.lanes[0]).cut = .cut := by decide +kernel

/-- Lane 0 CUT with a re-energising request of the microsecond before. -/
def requested (c : CutState) : State :=
  withLane0 (running (began 1)) { SynthLane.reset with cut := c, reenergise := some 999 }

theorem test_reenergise : ((after (.reenergise 0) (requested .cut)).synth.lanes[0]).residue = -231473152 := by
  decide +kernel

/-! ## Witnesses: a state and operands that meet the hypotheses of each statement -/

/-- A state with one NOP waiting. -/
def withNop (s : State) : State := { s with pending := [.nop .plan 0] }

/-- The state one step later. -/
def next (s : State) : State :=
  match step s with
  | .next t => t
  | _ => s

theorem step_withNop (s : State) (h : s.pending = []) : step (withNop s) = .next (after (.nop .plan 0) s) := by
  have : ({ withNop s with pending := [] } : State) = s := by rw [← h]; rfl
  show exec (.nop .plan 0) { withNop s with pending := [] } = _
  rw [this]
  rfl

theorem witness_StepRunsTheFrontCommand : ∃ c rest s, State.pending s = c :: rest :=
  ⟨.grant, [.sampleTick], { idle with pending := [.grant, .sampleTick] }, rfl⟩

theorem witness_EmptyQueue_due : idle.pending = [] ∧ idle.dueEvent = some .sampleTick := by decide +kernel
theorem witness_EmptyQueue_quiet :
    (after .sampleTick idle).pending = [] ∧ (after .sampleTick idle).dueEvent = none := by decide +kernel
theorem witness_RefusalLatches : ∃ l m : Link, m ≠ l := ⟨.plan, .panel, by decide⟩

/-- A frame for each clause of R176: too short, no sync byte, a length of 1,025, a byte missing, a wrong CRC, and a NOP. -/
theorem witness_Frames_clauses :
    [0xA5, 0, 0, 0, 0, 0].length < (7 : Nat) ∧ ([0xA4, 0, 0, 0, 0, 0, 0] : List Byte).head? ≠ some 0xA5 ∧
    frameLength [0xA5, 0, 0, 0x01, 0x04, 0, 0] = 1025 ∧ frameLength [0xA5, 0, 0, 1, 0, 0, 0] = 1 ∧
    judgeFrame [0xA5, 0, 0, 0, 0, 0, 0] = .error .badFrame ∧ judgeFrame (requestFrame .nop 7 []) = .ok (.nop, []) := by
  decide +kernel
theorem witness_FramesCarryEveryRequest :
    (Instr.readCapture .panel 9 1 3 32).wellFormed = true ∧
      frameParts (.readCapture .panel 9 1 3 32) = some (.panel, .readCapture, 9, [1, 3, 0, 32]) := by decide +kernel
theorem fault_legal : fault.Legal := by
  refine ⟨by decide +kernel, fun i => ⟨?_, ?_, ?_, ?_⟩, ?_, by decide, by decide, ?_, by decide, ?_⟩
  · revert i; decide +kernel
  · revert i; decide +kernel
  · revert i; decide +kernel
  · revert i; decide +kernel
  · intro p h; cases h; decide
  · intro x h
    simp only [fault, List.mem_cons, List.not_mem_nil, or_false] at h
    rcases h with rfl | rfl
    · exact (by decide : (1 : InputSet) ≠ 0)
    · exact ⟨by decide, by decide⟩
  · intro a h
    simp only [fault, List.mem_cons, List.not_mem_nil, or_false] at h
    subst h
    exact ⟨by decide, by decide, by decide⟩
theorem rig_legal : rig.Legal := by
  refine ⟨by decide +kernel, fun k => ⟨?_, ?_, ?_, ?_, ?_⟩, fun j k o hj hk => ?_, by decide +kernel⟩
  · revert k; decide +kernel
  · revert k; decide +kernel
  · revert k; decide +kernel
  · revert k; decide +kernel
  · revert k; decide +kernel
  · have only : ∀ j : Fin 4, (rig.breakers[j]).enabled = true → j = 0 := by decide +kernel
    rw [only j hj.1, only k hk.1]
theorem witness_FramesCarry_records : fault.Legal ∧ rig.Legal := ⟨fault_legal, rig_legal⟩
theorem witness_FramesCarry_load :
    (Instr.loadState .plan 9 (List.replicate 1024 0)).wellFormed = true ∧
      (Instr.loadState .plan 9 (List.replicate 10 0)).wellFormed = true := by decide +kernel
theorem witness_RequestsAreRefusedOrAnswered :
    frameParts (.go .plan 1) = some (.plan, .go, 1, []) ∧ exec (.go .plan 1) idle = .next (after (.go .plan 1) idle) :=
  ⟨rfl, rfl⟩
theorem witness_RequestsKeepOtherLinks :
    frameParts (.linkReset .plan 1) = some (.plan, .linkReset, 1, []) ∧ Link.panel ≠ .plan ∧
      exec (.linkReset .plan 1) (granted .go) = .next (after (.linkReset .plan 1) (granted .go)) :=
  ⟨rfl, by decide, rfl⟩

theorem witness_LinkReset_quiet : Link.plan ≠ .supervision ∧
    ∀ sh, (waiting .go).engine = .armed sh none → sh.req.link = .plan → sh.req.condition ≠ .go :=
  ⟨by decide, fun _ h => by cases h⟩
theorem witness_LinkReset_go : Link.plan ≠ .supervision ∧ (granted .go).engine = .armed (shotOf .go) none ∧
    (shotOf .go).req.link = .plan ∧ (shotOf .go).req.condition = .go := by decide +kernel
theorem witness_LinkReset_supervision :
    ∀ sh, (granted .go).engine = .armed sh none → sh.req.link ≠ .supervision := by
  have h : (granted .go).engine = .armed (shotOf .go) none := by decide +kernel
  intro sh he
  rw [h] at he
  cases he
  decide

theorem witness_Loads_state : 10 ≤ (2 :: List.replicate 129 (0 : Byte)).length ∧
    field (2 :: List.replicate 129 (0 : Byte)) 0 1 < 64 ∧ 10 ≤ (List.replicate 10 (64 : Byte)).length ∧
    ¬field (List.replicate 10 (64 : Byte)) 0 1 < 64 := by decide +kernel
theorem witness_Loads_profile : (3 :: List.replicate 160 (0 : Byte)).length = 161 ∧
    field (3 :: List.replicate 160 (0 : Byte)) 0 1 < 4 ∧ ¬field (4 :: List.replicate 160 (0 : Byte)) 0 1 < 4 := by
  decide +kernel
theorem witness_Frees : (63 : Byte).toNat < 64 ∧ ¬(64 : Byte).toNat < 64 ∧ (3 : Byte).toNat < 4 ∧ ¬(4 : Byte).toNat < 4 := by
  decide
theorem witness_TableReads : (63 : Fin 64).val = (63 : Byte).toNat ∧ 64 ≤ (64 : Byte).toNat ∧
    (3 : Fin 4).val = (3 : Byte).toNat ∧ 4 ≤ (4 : Byte).toNat := by decide
theorem witness_StepsKeepLockCounts : (waiting .go).LocksCounted ∧ (waiting .go).OrphansLocked ∧
    step (withNop (waiting .go)) = .next (after (.nop .plan 0) (waiting .go)) :=
  ⟨by decide +kernel, by decide +kernel, step_withNop _ rfl⟩
theorem witness_Locked_lock : has (asked .go).reach 2 = false ∧ has (asked .go).reach 1 = true ∧
    (tablesWith 0).states[1] = .loaded (some .plan) 0 fault ∧ (tablesWith 1).states[1] = .loaded (some .plan) 1 fault ∧
    (asked .go).profile ≠ 3 ∧ (asked .go).profile = 0 ∧ (tablesWith 1).profiles[0] = .loaded (some .plan) 1 rig := by
  decide +kernel
theorem witness_LockedRecordsStand : Instr.freeState .plan 1 1 ≠ .powerOnReset ∧ (waiting .go).LocksCounted ∧
    exec (.freeState .plan 1 1) (waiting .go) = .next (after (.freeState .plan 1 1) (waiting .go)) ∧
    (waiting .go).tables.states[1] = .loaded (some .plan) 1 fault ∧
    (waiting .go).tables.profiles[0] = .loaded (some .plan) 1 rig := by
  refine ⟨by decide, by decide +kernel, rfl, by decide +kernel, by decide +kernel⟩
theorem witness_Locked_linkReset : (waiting .go).LocksCounted ∧ Link.plan ≠ .supervision ∧
    (waiting .go).tables.states[0] = .loaded (some .plan) 1 prefault ∧
    (∀ sh, (waiting .go).engine = .armed sh none → sh.req.link = .plan → sh.req.condition = .go →
      ((waiting .go).profile sh.req.profile).horizon ≠ 0) ∧
    (granted .go).LocksCounted ∧ (granted .go).engine = .armed (shotOf .go) none ∧ ((granted .go).profile 0).horizon ≠ 0 :=
  ⟨by decide +kernel, by decide, by decide +kernel, fun _ h => (by cases h), by decide +kernel, by decide +kernel,
    by decide +kernel⟩
theorem witness_Locked_other : Link.panel ≠ .supervision ∧
    (waiting .go).tables.states[0] = .loaded (some .plan) 1 prefault ∧ some Link.plan ≠ some Link.panel ∧
    (((waiting .go).queue.requests.filter fun r => r.link ≠ .panel) ++
      ((waiting .go).engine.shot?.map Shot.req).toList).countP (fun r => has r.reach 0) = 1 ∧
    (((waiting .go).queue.requests.filter fun r => r.link ≠ .panel) ++
      ((waiting .go).engine.shot?.map Shot.req).toList).countP (fun r => r.profile == 0) = 1 := by decide +kernel

/-- The IDLE part with one legal profile and no state entry. -/
def oneProfile : State := { idle with tables := { State.reset.tables with
  profiles := State.reset.tables.profiles.set 0 (.loaded (some .plan) 0 rig) } }

theorem witness_StepsKeepRecordsLegal :
    oneProfile.RecordsLegal ∧ step (withNop oneProfile) = .next (after (.nop .plan 0) oneProfile) := by
  refine ⟨⟨fun i => ?_, fun i => ?_⟩, step_withNop _ rfl⟩
  · have h : oneProfile.tables.states[i] = .free := by revert i; decide +kernel
    rw [h]
    trivial
  · by_cases h : i = 0
    · subst h
      exact rig_legal
    · have hf : oneProfile.tables.profiles[i] = .free := by revert i; decide +kernel
      rw [hf]
      trivial

theorem witness_SubmitDerives : (waiting .go).ticketsInUse.length ≤ 254 := by decide +kernel
theorem witness_ReachableSet : has (idle.reachable 0) 1 = true ∧ has (idle.reachable 0) 0 = true ∧
    idle.tables.states[0] = .loaded (some .plan) 0 prefault ∧ some Link.plan ≠ some Link.panel ∧
    has (State.reset.reachable 63) 63 = true ∧ State.reset.tables.states[63] = .free := by decide +kernel
theorem witness_ReachableSet_held (i : Fin 64) (h : has (idle.reachable 1) i = true) :
    ∃ n e, idle.tables.states[i] = .loaded (some .plan) n e := by
  have hi : ∀ i : Fin 64, has (idle.reachable 1) i = true → i = 1 := by decide +kernel
  rw [hi i h]
  exact ⟨0, fault, by decide +kernel⟩
/-- Each first failure that R25 can name: an exit in state 0 and in state 1, and an assessment. -/
theorem witness_Conflict : has (idle.reachable 0) 0 = true ∧
    (idle.entry 0).exits[3]? = some { kind := .inputEdge 2, target := .finish } ∧ has (2 : InputSet) 1 = true ∧
    (Profile.zero.inputs[1]).enabled = false ∧ idle.conflictDenial (idle.reachable 0) Profile.zero = some (.conflict 0 .exits 3) ∧
    idle.conflictDenial (idle.reachable 1) Profile.zero = some (.conflict 1 .exits 0) ∧
    (idle.entry 1).assessments[0]? = some { kind := .operate 0, origin := .visitEntry, mode := .below, low := 0, high := 40000 } ∧
    idle.conflictDenial (idle.reachable 0) rig = none := by decide +kernel
theorem witness_SubmitShotJoinsTheQueue : Link.plan ≠ .supervision ∧
    ((1 : Byte) ≠ 0 → (2048 : Half16).toNat ≤ 2048 ∧ (4095 : Half16).toNat < 4096) ∧ idle.queue.requests.length < 8 ∧
    idle.tables.profiles[0] = .loaded (some .plan) 0 rig ∧
    (∀ i : Fin 64, has (idle.reachable 1) i = true → ∃ n e, idle.tables.states[i] = .loaded (some .plan) n e ∧
      (∀ x ∈ e.exits, x.passes rig = true) ∧ ∀ a ∈ e.assessments, a.passesProfile rig = true) ∧
    (StartCondition.go = .second → idle.clock.quality ≠ .disabled ∧ idle.clock.quality ≠ .free) := by
  refine ⟨by decide, by decide, by decide +kernel, by decide +kernel, fun i h => ?_, by decide +kernel⟩
  have hi : ∀ i : Fin 64, has (idle.reachable 1) i = true → i = 1 := by decide +kernel
  rw [hi i h]
  exact ⟨0, fault, by decide +kernel, by decide +kernel, by decide +kernel⟩
/-- A value on either side of each bound of R23 stages 2 and 3. -/
theorem witness_SubmitShotRefusals : ¬63 < (63 : Byte).toNat ∧ 63 < (64 : Byte).toNat ∧ 3 < (4 : Byte).toNat ∧
    2 < (3 : Byte).toNat ∧ 2048 < (2049 : Half16).toNat ∧ 4095 < (4096 : Half16).toNat ∧
    idle.conflictDenial 3 rig = none ∧ idle.holderDenial .plan 3 = none ∧ idle.clock.quality = .disabled := by
  decide +kernel
theorem witness_Abort_queued : (waiting .go).queue.requests = [] ++ asked .go :: [] ∧
    (asked .go).ticket = (5 : Byte).toNat ∧ (∀ x ∈ ([] : List Request), x.ticket ≠ (5 : Byte).toNat) ∧
    ¬(Link.panel = .plan ∧ (asked .go).link = .panel) := by decide +kernel
theorem witness_Abort_panel :
    ({ waiting .go with queue := { (waiting .go).queue with requests := [{ asked .go with link := .panel }] } } :
      State).queue.requests = [] ++ { asked .go with link := .panel } :: [] := by decide +kernel
theorem witness_Abort_granted : ∀ x ∈ (granted .go).queue.requests, x.ticket ≠ (0 : Byte).toNat := by decide +kernel
theorem witness_LinkPriority : Link.supervision = .supervision ∧ Link.plan ≠ .supervision := by decide
theorem witness_Cause_busy : (granted .go).engine ≠ .idle := by decide +kernel

/-- The IDLE part with a request waiting and every report slot COMPLETE. -/
def full : State :=
  { waiting .go with reports := Vector.replicate 16 (.complete
      { header := .granted (asked .go) 9 0 false, visits := [], results := [], timeline := [] } 1) }

theorem witness_Cause_slot : full.engine = .idle ∧ ∀ k : Fin 16, full.reports[k] ≠ .empty := by decide +kernel

/-- The IDLE part with a request waiting, the heat account of lane 0 one above half its limit and lane 6 FAULTED or not. -/
def warm (c : Condition) : State :=
  { waiting .go with sup := { idle.sup with
      heat := idle.sup.heat.set 0 100000000000001,
      lanes := idle.sup.lanes.set 6 { idle.sup.lanes[6] with condition := c } } }

theorem witness_Cause_fault : (warm .declared).engine = .idle ∧ (∃ k : Fin 16, (warm .declared).reports[k] = .empty) ∧
    has (asked .go).laneUse 6 = true ∧ ((warm .declared).sup.lanes[6]).condition ≠ .ready ∧
    ∀ j : Fin 12, j < 6 → ¬(has (asked .go).laneUse j = true ∧ ((warm .declared).sup.lanes[j]).condition ≠ .ready) := by
  decide +kernel
theorem witness_Cause_heat : has (asked .go).laneUse (currentLane 0) = true ∧
    ((warm .ready).sup.lanes[currentLane 0]).settings.heatLimit * 10000000000 < (warm .ready).sup.heat[0] ∧
    ∀ i : Fin 12, ¬(has (asked .go).laneUse i = true ∧ ((warm .ready).sup.lanes[i]).condition ≠ .ready) := by
  decide +kernel
theorem witness_Cause_inhibit : (∃ k : Fin 16, (waiting .go).reports[k] = .empty) ∧
    (∀ i : Fin 12, ¬(has (asked .go).laneUse i = true ∧ ((waiting .go).sup.lanes[i]).condition ≠ .ready)) ∧
    ∀ i : Fin 6, ¬(has (asked .go).laneUse (currentLane i) = true ∧
      ((waiting .go).sup.lanes[currentLane i]).settings.heatLimit * 10000000000 < (waiting .go).sup.heat[i]) := by
  decide +kernel
theorem witness_Arbiter : (waiting .go).choice = some (asked .go) := by decide +kernel
theorem witness_Grant : (waiting .go).choice = some (asked .go) ∧ (waiting .go).emptySlot = some 0 ∧
    idle.choice = none := by decide +kernel

/-- A state whose profile has a debounce horizon of 0. -/
def quick (s : State) : State :=
  { s with tables := { s.tables with profiles := s.tables.profiles.set 0 (.loaded (some .plan) 1
      { rig with inputs := Vector.replicate 16 { enabled := true, active := .closed, debounce := 0 } }) } }

theorem witness_Grant_lost_zero : (quick (waiting .second)).choice = some (asked .second) ∧
    (quick (waiting .second)).emptySlot = some 0 ∧ (quick (waiting .second)).clock.quality = .disabled ∧
    ((quick (waiting .second)).profile 0).horizon = 0 := by decide +kernel
theorem witness_EndRequests_zero : (quick latched).engine = .armed (shotOf .immediate) (some 999) ∧
    ((quick latched).profile 0).horizon = 0 ∧
    (match (quick latched).reports[(0 : Fin 16)] with
      | .building _ => true
      | _ => false) = true := by decide +kernel
theorem witness_Grant_lost : (waiting .second).choice = some (asked .second) ∧ (waiting .second).emptySlot = some 0 ∧
    (waiting .second).clock.quality = .disabled ∧ ((waiting .second).profile 0).horizon = 1000 := by decide +kernel
theorem witness_StepsLeaveNoGrantWaiting :
    full.NoGrantWaits ∧ step (withNop full) = .next (after (.nop .plan 0) full) := by
  refine ⟨fun _ => by decide +kernel, step_withNop _ rfl⟩
theorem witness_EndRequests : idle.engine = .idle ∧ settling.engine = .settling (shotOf .immediate) none 0 ∧
    (running (began 0)).engine = .running (shotOf .immediate) (began 0) ∧
    latched.engine = .armed (shotOf .immediate) (some 999) ∧ (latched.profile 0).horizon ≠ 0 ∧
    (match latched.reports[(0 : Fin 16)] with
      | .building _ => true
      | _ => false) = true := by decide +kernel
theorem witness_Trig : State.reset.trig.prev ≠ some false ∧
    ({ granted .trigger with trig := { prev := some false, now := false } } : State).trig =
      { prev := some false, now := false } := by decide +kernel
theorem witness_Adjust : (11 : Byte).toNat < 12 ∧ ¬(12 : Byte).toNat < 12 ∧ (100 : Byte).toInt = 100 ∧
    100 < (101 : Byte).toInt ∧ (0x9C : Byte).toInt = -100 ∧ (0x9B : Byte).toInt < -100 := by decide
theorem witness_FirstExit : (prefault.exits)[0]? = some { kind := .time 50, target := .state 1 } := by decide
theorem witness_ShotStart : latched.engine = .armed (shotOf .immediate) (some 999) ∧ (999 : Clock) ≠ latched.now ∧
    latched.tickDue = true ∧ latched.tick.engine = false ∧
    (match latched.reports[(0 : Fin 16)] with
      | .building _ => true
      | _ => false) = true := by decide +kernel

/-- The RUNNING shot whose state in force is left for a given target by its TIME exit. -/
def leaving (target : Target) (pow : Option PointOnWave) (visit : Nat) : State :=
  let s := running { began 0 with visit := visit }
  let entry := { prefault with exits := [{ kind := .time 50, target := target }], lanes := fault.lanes }
  { s with tables := { s.tables with
      states := (s.tables.states.set 0 (.loaded (some .plan) 1 entry)).set 1
        (.loaded (some .plan) 1 { fault with pow := pow }) } }

theorem witness_TimeExit_enter : (∀ k : Fin 4, (leaving (.state 1) none 62).moveDue k = false) ∧
    (leaving (.state 1) none 62).dueExit = some (0, { kind := .time 50, target := .state 1 }) ∧
    (leaving (.state 1) none 62).reached { began 0 with visit := 62 } 1 = true := by decide +kernel
theorem witness_TimeExit_defer :
    (leaving (.state 1) (some { lane := 6, angle := 9000 }) 62).dueExit =
      some (0, { kind := .time 50, target := .state 1 }) ∧
    (leaving (.state 1) (some { lane := 6, angle := 9000 }) 62).reached { began 0 with visit := 62 } 1 = false := by
  decide +kernel
theorem witness_TimeExit_report :
    (match (leaving (.state 1) none 62).reports[(0 : Fin 16)] with
      | .building _ => true
      | _ => false) = true := by decide +kernel
theorem witness_TimeExit_end :
    (leaving .finish none 0).dueExit = some (0, { kind := .time 50, target := .finish }) ∧
    (leaving (.state 1) none 63).dueExit = some (0, { kind := .time 50, target := .state 1 }) := by decide +kernel

/-- The RUNNING shot whose state in force has one exit of a kind, with every latch of the visit set. -/
def leavingBy (kind : ExitKind) (target : Target) (visit : Nat) : State :=
  let s := running { began 0 with visit := visit, trigLatch := true, stepLatch := true, edges := 15 }
  let entry := { prefault with exits := [{ kind := kind, target := target }] }
  { s with tables := { s.tables with states := s.tables.states.set 0 (.loaded (some .plan) 1 entry) } }

theorem witness_Exits_kinds :
    (leavingBy .trigger (.state 1) 62).dueExit = some (0, { kind := .trigger, target := .state 1 }) ∧
    (leavingBy .panelStep .finish 0).dueExit = some (0, { kind := .panelStep, target := .finish }) ∧
    (leavingBy (.inputEdge 4) (.state 1) 63).dueExit = some (0, { kind := .inputEdge 4, target := .state 1 }) ∧
    (leavingBy (.breaker 0 .closed) (.state 1) 0).dueExit = some (0, { kind := .breaker 0 .closed, target := .state 1 }) ∧
    (∀ k : Fin 4, (leavingBy .trigger (.state 1) 62).moveDue k = false) ∧
    ((leavingBy .trigger (.state 1) 62).synth.lanes[0]).cut = .live ∧
    ((leavingBy .trigger (.state 1) 62).synth.lanes[0]).reenergise = none := by decide +kernel
theorem witness_DeferralEnd : (deferring 10732618).tickDue = true ∧ (deferring 10732618).tick.engine = false ∧
    (deferring 10732618).tick.events = [] ∧ (∀ k : Fin 4, (deferring 10732618).moveDue k = false) ∧
    (deferring 10732618).reached (began 0) 1 = true := by decide +kernel
theorem witness_DeferralLasts : ((deferring 0).entry 1).pow = some { lane := 6, angle := 0 } := by decide +kernel
theorem witness_ShotEnd : let s := running { began 0 with pendingEnd := some .inhibited }
    s.tickDue = true ∧ s.tick.engine = false ∧ s.tick.events = [] ∧ (began 0).fresh = [] ∧
      (s.profile 0).horizon ≠ 0 := by decide +kernel
theorem witness_ShotEnd_exit : (leaving .finish none 0).tickDue = true ∧ (leaving .finish none 0).tick.engine = false ∧
    (leaving .finish none 0).tick.events = [] ∧ (∀ k : Fin 4, (leaving .finish none 0).moveDue k = false) ∧
    64 ≤ 63 + 1 ∧ ((quick (leaving .finish none 0)).profile 0).horizon = 0 ∧
    (match (leaving .finish none 0).reports[(0 : Fin 16)] with
      | .building _ => true
      | _ => false) = true := by decide +kernel
theorem witness_VisitClose : closing.visitDue = some (0, 0) ∧
    (match closing.reports[(0 : Fin 16)] with
      | .building r => (r.visits.find? fun x => x.number == 0).isSome
      | _ => false) = true := by decide +kernel
/-- The shot of `closing` SETTLING, its first visit still to close and its second left. -/
def settlingOpen : State := { closing with engine := .settling (shotOf .immediate) (some 900) 0 }

theorem witness_Teardown : (settlingOpen.profile 0).horizon ≤ elapsed 0 settlingOpen.now ∧
    settlingOpen.visitDue = some (0, 0) ∧ idle.visitDue = none ∧
    elapsed 1 settling.now < (settling.profile 0).horizon ∧
    (match settlingOpen.reports[(0 : Fin 16)] with
      | .building r => r.visits.any fun v => v.closeAt.isSome
      | _ => false) = true := by decide +kernel

/-- A shot RUNNING in the last state of its reachable set, which leads nowhere. -/
def inReach : State :=
  { running (began 1) with
    engine := .running { shotOf .immediate with req := { asked .immediate with start := 1, reach := 2 } } (began 1),
    tables := { tablesWith 1 with states := (tablesWith 0).states.set 1 (.loaded (some .plan) 1 fault) } }

theorem witness_StepsKeepTheShotInItsReach : inReach.LocksCounted ∧ inReach.StaysInReach ∧
    step (withNop inReach) = .next (after (.nop .plan 0) inReach) := by
  refine ⟨by decide +kernel, ⟨fun r hr => ?_, by decide +kernel, fun d h => by cases h⟩, step_withNop _ rfl⟩
  have hq : inReach.requests = [{ asked .immediate with start := 1, reach := 2 }] := by decide +kernel
  rw [hq, List.mem_singleton] at hr
  subst hr
  refine ⟨by decide +kernel, fun a b ha ⟨e, he, ht⟩ => ?_⟩
  have h1 : ∀ a : Fin 64, has (2 : StateSet) a = true → a = 1 := by decide +kernel
  rw [h1 a ha] at he
  have h2 : ∀ e ∈ (inReach.entry 1).exits, e.target = .finish := by decide +kernel
  rw [h2 e he] at ht
  cases ht

theorem witness_SampleTickPlays : (running (began 1)).tickDue = true ∧ (running (began 1)).tick.engine = false ∧
    (running (began 1)).tick.residueSet = 0 ∧ (running (began 1)).dueAction = .stay ∧
    (∀ k : Fin 4, (running (began 1)).moveDue k = false) ∧
    ∀ i : Fin 12, ((running (began 1)).synth.lanes[i]).reenergise = none := by decide +kernel
theorem witness_SampleTickHeats : idle.StagesInOrder ∧ idle.tickDue = true ∧ idle.tick.heat = false ∧
    (after .sampleTick idle).engine.isRunning = false := by decide +kernel
theorem witness_LaneEvents_value : (cutting (-1) 0).tickDue = true ∧
    (cutting (-1) 0).engineWork.engine = .running (shotOf .immediate) (began 1) ∧
    ((cutting (-1) 0).engineWork.synth.lanes[0]).cut = .cutting 0 0 ∧
    0 < (cutting (-1) 0).engineWork.laneValue (shotOf .immediate) (began 1) 0 := by decide +kernel
theorem witness_LaneEvents_limit : ((cutting 1 1).engineWork.breakers[0]).setting.cutLimit = 1 + 1 ∧
    ((cutting 1 1).engineWork.synth.lanes[0]).reenergise = none := by decide +kernel
theorem witness_LaneEvents_request : ((requested .cut).engineWork.synth.lanes[0]).reenergise = some 999 ∧
    ((requested (.cutting 0 0)).engineWork.synth.lanes[0]).reenergise = some 999 ∧
    (999 : Clock) ≠ (requested .cut).engineWork.now := by decide +kernel
theorem witness_LaneEvents_deviation : missing.dueAction.isFinish = false ∧
    missing.engineWork.tick.previous.isSome = true ∧ missing.engineWork.tick.frame = none ∧
    (missing.engineWork.sup.lanes[6]).missRun + 1 = (missing.engineWork.sup.lanes[6]).settings.missLimit ∧
    ∀ m : Fin 12, m < 6 → (missing.engineWork.sup.lanes[m]).settings.enabled = false := by decide +kernel
theorem witness_LaneEvents_deviations : missingTwo.engineWork.deviates 0 = true ∧ missingTwo.engineWork.deviates 6 = true ∧
    has (asked .immediate).laneUse 0 = true ∧ has missingTwo.engineWork.tick.compared 0 = false ∧
    (missingTwo.engineWork.sup.lanes[1]).settings.enabled = false := by decide +kernel

/-- Lane 6 deviates by 501 in a frame in which lane 0, supervised too, matches, or misses short of its limit. -/
theorem witness_LaneEvents_compared :
    let s (value : Int) (missRun : Nat) : State :=
      { missingTwo with sup := { missingTwo.sup with
          lanes := missingTwo.sup.lanes.set 0 { missingTwo.sup.lanes[0] with missRun := missRun }
          frameIn := some (((Vector.replicate 12 0).set 6 501).set 0 value) } }
    (s 500 2).engineWork.deviates 6 = true ∧ ((after (.deviationFault 6) (s 500 2)).sup.lanes[0]).missRun = 0 ∧
    (s 501 0).engineWork.deviates 0 = false ∧ ((after (.deviationFault 6) (s 501 0)).sup.lanes[0]).missRun = 1 := by
  decide +kernel
theorem witness_LaneEvents_end : missingAtEnd.dueAction.isFinish = true ∧ missingAtEnd.openTick.tick.previous.isSome = true ∧
    has (asked .immediate).laneUse 6 = true ∧ has missingAtEnd.openTick.tick.compared 6 = false ∧
    (missingAtEnd.openTick.sup.lanes[6]).missRun + 1 = (missingAtEnd.openTick.sup.lanes[6]).settings.missLimit ∧
    missingAtEnd.openTick.tick.frame = none := by decide +kernel

/-- `missing` with a frame for this tick that gives lane 6 a value, at a deviation limit of 500. -/
def framed (value : Int) (missRun : Nat) : State :=
  { missing with sup := { missing.sup with
      lanes := missing.sup.lanes.set 6 { missing.sup.lanes[6] with missRun := missRun }
      frameIn := some ((Vector.replicate 12 0).set 6 value) } }

theorem witness_SampleTickCompares : (framed 500 2).StagesInOrder ∧ (framed 500 2).dueAction.isStart = false ∧ (framed 500 2).tickDue = true ∧
    (framed 500 2).openTick.synth.commanded[6] = 0 ∧ (framed 500 2).openTick.tick.frame.isSome = true ∧
    has (framed 500 2).openTick.tick.compared 6 = false ∧
    ((after .sampleTick (framed 500 2)).sup.lanes[6]).missRun = 0 ∧
    ((after .sampleTick (framed 501 254)).sup.lanes[6]).missRun = 255 ∧
    ((after .sampleTick (framed (-501) 255)).sup.lanes[6]).missRun = 255 ∧
    ((after .sampleTick missing).sup.lanes[6]).missRun = 3 ∧ ((missing.sup.lanes[0]).settings.enabled = false) := by
  decide +kernel
theorem witness_LaneEvents_sampleDeviates : missing.engineWork.deviates 6 = true ∧
    (∀ m : Fin 12, m < 6 → missing.engineWork.deviates m = false) ∧
    missing.engineWork.engine = .running (shotOf .immediate) (began 1) := by decide +kernel
theorem witness_LaneEvents_sample : (running (began 1)).engineWork.engine = .running (shotOf .immediate) (began 1) ∧
    (running (began 1)).engineWork.tick.heat = false ∧ (running (began 1)).engineWork.deviating = none ∧
    has (asked .immediate).laneUse (currentLane 0) = true ∧
    (match (running (began 1)).engineWork.reports[(0 : Fin 16)] with
      | .building _ => true
      | _ => false) = true := by decide +kernel
theorem witness_Residues : (1 ≤ 1 ∧ 1 ≤ 1000) ∧ (1 ≤ 1000 ∧ 1000 ≤ 1000) ∧ fault.lanes[0].tau = 40 ∧
    ((-185204736 : Int) * 82).natAbs ≥ 32768 ∧ ((399 : Int) * 82).natAbs < 32768 := by decide
theorem witness_Waves : fault.lanes[0].tau ≠ 0 ∧ ((45255 : Int) - (-45255)).natAbs ≤ 2 * Config.fullScale 0 := by decide
theorem witness_Contact_accept : ((settledInput 960).contacts[1]).episode = some ⟨960, 980⟩ ∧
    elapsed 980 (settledInput 960).now = ((settledInput 960).contacts[1]).setting.debounce ∧
    ((settledInput 960).contacts[1]).pin ≠ ((settledInput 960).contacts[1]).accepted ∧
    elapsed 960 (settledInput 960).now ≤ elapsed 900 (settledInput 960).now ∧
    (((settledInput 960).entry 0).exits)[3]? = some { kind := .inputEdge 2, target := .finish } ∧
    ((settledInput 960).breakers[0]).position = .closed ∧ elapsed 960 (settledInput 960).now < 100 := by decide +kernel
theorem witness_Contact_ran : ((settledInput 850).contacts[1]).pin ≠ ((settledInput 850).contacts[1]).accepted ∧
    100 ≤ elapsed (900 : Clock) (settledInput 850).now ∧ elapsed 900 (settledInput 850).now < elapsed 850 (settledInput 850).now := by
  decide +kernel

/-- Simulator 0 OPEN, its close input settled CLOSED since the start of the shot, lane 0 CUTTING with a request of this microsecond.
-/
def reclosed : State :=
  withLane0 (withBreaker0
    { settledInput 850 with contacts := (running (began 0)).contacts.set 2 (settledInput 850).contacts[1] }
    { setting := breaker0, position := .opened, timer := none, tripLatch := false, closeLatch := false, interrupting := true })
    { SynthLane.reset with cut := .cutting 0 1, reenergise := some 1000 }

theorem witness_Contact_lanes : (breaker0.enabled = true ∧ breaker0.trip = some 1 ∧ breaker0.binds 0 = true ∧ breaker0.binds 1 = false) ∧
    ((settledInput 850).breakers[0]).setting = breaker0 ∧ ((settledInput 850).breakers[0]).tripLatch = false ∧
    ((settledInput 850).synth.lanes[0]).cut = .live ∧ ((settledInput 850).synth.lanes[0]).reenergise = none ∧
    breaker0.close = some 2 ∧ (reclosed.breakers[0]).position = .opened ∧ (reclosed.breakers[0]).closeLatch = false ∧
    (∀ j : Fin 4, j ≠ 0 → ((after (.episodeEnd 2) reclosed).breakers[j]).holds 0 = false) ∧
    (reclosed.synth.lanes[0]).reenergise = some reclosed.now := by decide +kernel

/-- `settledInput 850` with lane 0 CUTTING, a request of this microsecond waiting, and simulator 0 having reached CLOSED at it. -/
def reopening : State :=
  let s := withLane0 (settledInput 850) { SynthLane.reset with cut := .cutting 0 1, reenergise := some 1000 }
  { s with tick := { s.tick with moves := { MoveWork.none with asked := (Vector.replicate 12 0).set 0 1 } } }

/-- The clauses on a request of this microsecond: simulator 0 opens and its own request is due; one of another simulator, beside
which simulator 0 holds the lane, is not; and simulator 0 closes at a lane whose cutting began before this microsecond, or at it. -/
theorem witness_Contact_due : has reopening.tick.moves.asked[(0 : Fin 12)] 0 = true ∧
    (∀ j : Fin 4, j ≠ 0 → ((after (.episodeEnd 1) reopening).breakers[j]).holds 0 = false) ∧
    (reopening.synth.lanes[0]).reenergise = some reopening.now ∧
    (∀ m : Fin 4, m ≠ 0 → ∃ j : Fin 4, j ≠ m ∧ ((after (.episodeEnd 1) reopening).breakers[j]).holds 0 = true) ∧
    has reclosed.tick.moves.begun 0 = false ∧ has ({ MoveWork.none with begun := 1 } : MoveWork).begun 0 = true ∧
    has MoveWork.none.opened 0 = false ∧ has ({ MoveWork.none with opened := 1 } : MoveWork).opened 0 = true := by decide +kernel

/-- The shot of `settledInput` SETTLING since 10 µs ago. -/
def settlingInput : State := { settledInput 960 with engine := .settling (shotOf .immediate) (some 900) 990 }

theorem witness_Events : elapsed 960 settlingInput.now ≤ elapsed 900 settlingInput.now ∧
    elapsed 990 settlingInput.now < elapsed 960 settlingInput.now ∧ (settledInput 1000).engineDue = true ∧
    (1000 : Clock) = (settledInput 1000).now ∧
    (match settlingInput.reports[(0 : Fin 16)] with
      | .building r => r.timeline.length < 32
      | _ => false) = true := by decide +kernel
theorem witness_Events_lists :
    [({ input := 0, firstOperate := some 4, width := none, firstReset := none, operates := 1 } : InputElem),
      { input := 3, firstOperate := none, width := none, firstReset := some 5, operates := 0 }].Pairwise
        (fun a b => a.input < b.input) ∧
    32 ≤ (List.replicate 32 ({ input := 0, direction := .operate, time := 0 } : TimelineEvent)).length ∧
    16 ≤ (List.replicate 16 ({ sim := 0, change := .opening, time := 0 } : BreakerElem)).length := by decide
theorem witness_Contact_none : ∀ e, (idle.contacts[3]).episode = some e →
    (idle.contacts[3]).setting.enabled = false ∨ elapsed e.last idle.now < (idle.contacts[3]).setting.debounce :=
  fun _ h => by cases h
theorem witness_Move : opening.engine = .running (shotOf .immediate) (began 0) ∧
    (opening.breakers[0]).timer = some (opening.now, .opened) ∧
    ∀ level, (opening.breakers[1]).timer ≠ some (opening.now, level) := by
  refine ⟨by decide +kernel, by decide +kernel, fun level => ?_⟩
  cases level <;> decide +kernel
theorem witness_Move_closed :
    ((withBreaker0 opening { opening.breakers[0] with position := .closing, timer := some (1000, .closed) }).breakers[0]).timer =
      some (opening.now, .closed) := by decide +kernel
theorem witness_Move_asked :
    let t := after (.moveComplete 0) bothClosing
    (bothClosing.breakers[0]).timer = some (bothClosing.now, .closed) ∧ has t.tick.moves.asked[(0 : Fin 12)] 0 = true ∧
    (∃ j : Fin 4, j ≠ 0 ∧ (t.breakers[j]).holds 0 = true) ∧ (bothClosing.synth.lanes[0]).cut = .cutting 0 1 := by
  decide +kernel
theorem witness_Move_elements : opening.engineDue = true ∧
    ({ opening with tick := { opening.tick with engine := true } } : State).engineDue = false ∧
    (match opening.reports[(0 : Fin 16)] with
      | .building _ => true
      | _ => false) = true ∧
    (match idle.reports[(0 : Fin 16)] with
      | .building _ => true
      | _ => false) = false := by decide +kernel

/-- A visit with an operate of BI0 at 40,000 µs. -/
def operated : Visit :=
  { Visit.opened 0 1 201 0 with
    inputs := [{ input := 0, firstOperate := some 40000, width := none, firstReset := none, operates := 1 }] }

/-- A visit entered at 1,000 µs with a reset of BI2, an operate of BI5, and simulator 1 OPEN twice. -/
def measurable : Visit :=
  { Visit.opened 1 1 201 1000 with
    inputs := [{ input := 2, firstOperate := none, width := none, firstReset := some 30, operates := 0 },
               { input := 5, firstOperate := some 40, width := none, firstReset := none, operates := 1 }],
    breakers := [{ sim := 1, change := .opening, time := 5 }, { sim := 1, change := .opened, time := 9 },
                 { sim := 1, change := .opened, time := 70 }] }

theorem witness_Measured : measurable.inputs.Pairwise (fun x y => x.input < y.input) ∧
    measurable.breakers.Pairwise (fun x y => x.time ≤ y.time) ∧
    (let m (k : AssessKind) (o : Origin) := measurable.measured { kind := k, origin := o, mode := .below, low := 0, high := 1 }
     m (.reset 2) .visitEntry = some 30 ∧ m (.operate 5) .shotStart = some 1040 ∧ m (.operate 2) .visitEntry = none ∧
     m (.noOperate 7) .visitEntry = none ∧ m (.breakerOpen 1) .shotStart = some 1009 ∧ m (.breakerClose 1) .visitEntry = none) := by
  decide
theorem witness_Verdicts : operated.measured fault.assessments[0] = some 40000 ∧
    operated.measured { fault.assessments[0] with kind := .reset 0 } = none ∧ operated.inputElem 1 = none ∧
    (∀ i, AssessKind.operate 0 ≠ .noOperate i) := by
  refine ⟨by decide +kernel, by decide +kernel, by decide +kernel, fun i h => by cases h⟩
theorem witness_Subscribe : 1 < (2 : Byte).toNat ∧ (1 : Byte) = 1 ∧ (0 : Byte) = 0 ∧ (15 : Byte).toNat < 16 ∧
    ¬(16 : Byte).toNat < 16 := by decide
theorem witness_Retire : (after .teardown settling).subscribers = 3 ∧
    (match (after .teardown settling).reports[(0 : Fin 16)] with
      | .complete r w => r.header.serial == 1 && w == 3
      | _ => false) = true := by decide +kernel
/-- The RUNNING shot with its half in a phase, the levels of the previous tick at hand. -/
def filling (phase : CapturePhase) : State :=
  let s := running (began 1)
  { s with captures := { s.captures with a := { Half.taken (asked .immediate) with phase := phase } }
           tick := { TickWork.none with previous := some { offset := 50, inputs := 0, outputs := 0 } } }

theorem witness_Capture_open : (filling .preTrigger).engine = .running (shotOf .immediate) (began 1) ∧
    (filling .preTrigger).tick.opened = false ∧ (filling .preTrigger).openTick.tick.opened = true ∧
    (filling .preTrigger).tick.previous.isSome = true ∧ (filling .preTrigger).dueAction = .stay ∧
    ((after .sampleTick (filling (.triggerNoted 50))).captures.get .a).phase = .postTrigger := by decide +kernel
theorem witness_Capture_trigger : ((settledInput 960).contacts[1]).pin = ((settledInput 960).contacts[1]).setting.active ∧
    (leaving (.state 1) none 62).dueExit = some (0, { kind := .time 50, target := .state 1 }) ∧
    ((leaving (.state 1) none 62).entry 1).captureMark = true := by decide +kernel
theorem witness_Capture_outputs : idle.engine.isRunning = false ∧
    (opening.breakers[0]).setting.aOut = some 0 ∧ (opening.breakers[0]).setting.bOut = some 1 ∧
    (∀ k : Fin 4, k ≠ 0 → (opening.breakers[k]).setting.enabled = false) ∧ has opening.outputs 0 = true ∧
    has opening.outputs 1 = false := by decide +kernel
theorem witness_Reads_held : ((after .teardown settling).captures.get .a).state = .held 0 1 := by decide +kernel
theorem witness_Supervision : (11 : Byte).toNat < 12 ∧ ¬(12 : Byte).toNat < 12 ∧ idle.engine = .idle ∧
    ¬32000 < (32000 : Half16).toNat ∧ 32000 < (32001 : Half16).toNat ∧ 50000 < (50001 : Half16).toNat := by decide +kernel
theorem witness_Inhibit : ¬2 < (2 : Byte).toNat ∧ 2 < (3 : Byte).toNat ∧ idle.sup.inhibit = false ∧
    (after .inhibitAssert idle).sup.inhibit = true := by decide +kernel
theorem witness_Expiries : acquiring.clock.reference = some 5300017 ∧ acquiring.clock.quality = .acquiring ∧
    acquiring.clock.quality ≠ .free ∧ (after (.setDiscipline .plan 1 1) idle).clock.quality = .free := by decide +kernel
theorem witness_Wrap :
    let s : State := { idle with clock := { idle.clock with clock := BitVec.allOnes 48 } }
    s.now = BitVec.allOnes 48 ∧ s.dueWork = none ∧ idle.now ≠ BitVec.allOnes 48 := by decide +kernel
theorem witness_Marks : State.reset.clock.markPrev ≠ some false ∧ acquiring.clock.markPrev = some false ∧
    acquiring.clock.markNow = false ∧ acquiring.clock.discipline = true ∧
    elapsed 5300017 acquiring.now = 1000025 ∧ markSecond 999900 = some 1 ∧ markSecond 1000100 = some 1 ∧
    markSecond 1999900 = some 2 ∧ markSecond 10000100 = some 10 ∧ markSecond 999899 = none := by decide +kernel

theorem witness_StepsKeepSlots : latched.SlotsBound ∧ latched.CompletesWait ∧ latched.HalvesBound ∧
    step (withNop latched) = .next (after (.nop .plan 0) latched) := by
  have hrep : ∀ k : Fin 16, k ≠ 0 → latched.reports[k] = .empty := by decide +kernel
  have h0 : (match latched.reports[(0 : Fin 16)] with
      | .building r => decide (r.header.serial = 1 ∧ r.header.ticket = 5)
      | _ => false) = true := by decide +kernel
  have hs : latched.engine.shot? = some (shotOf .immediate) := by decide +kernel
  have hb : ((latched.captures.get .b).state = .free) := by decide +kernel
  have ha : ((latched.captures.get .a).state = .filling) := by decide +kernel
  refine ⟨⟨fun k r h => ?_, fun sh h => ?_⟩, fun k r w h => ?_, ⟨fun h => ?_, fun h k serial hh => ?_⟩, step_withNop _ rfl⟩
  · by_cases hk : k = 0
    · subst hk
      rw [h] at h0
      exact ⟨_, hs, rfl, (of_decide_eq_true h0).1, (of_decide_eq_true h0).2⟩
    · rw [hrep k hk] at h
      cases h
  · rw [hs] at h
    cases h
    show ∃ r, latched.reports[(0 : Fin 16)] = .building r
    split at h0
    · rename_i r hr
      exact ⟨r, hr⟩
    · cases h0
  · by_cases hk : k = 0
    · subst hk
      rw [h] at h0
      cases h0
    · rw [hrep k hk] at h
      cases h
  · cases h with
    | a => exact ⟨fun _ => ⟨_, hs, rfl⟩, fun _ => ha⟩
    | b =>
      rw [hb]
      refine ⟨fun h => (by cases h), fun ⟨sh, h1, h2⟩ => ?_⟩
      rw [hs] at h1
      cases h1
      cases h2
  · cases h with
    | a => rw [ha] at hh; cases hh
    | b => rw [hb] at hh; cases hh

/-- A RUNNING shot whose end is pending, INHIBIT asserted. -/
def inhibited : State := after .inhibitAssert (running (began 0))

theorem witness_StepsKeepShotsOff : inhibited.sup.inhibit = true ∧ inhibited.InhibitHolds ∧
    step (withNop inhibited) = .next (after (.nop .plan 0) inhibited) := by
  have he : inhibited.engine = .running (shotOf .immediate) { began 0 with pendingEnd := some .inhibited } := by
    decide +kernel
  refine ⟨by decide +kernel, fun _ => ?_, step_withNop _ (by decide +kernel)⟩
  rw [he]
  exact .inl (by decide)

theorem witness_StepsKeepUnits :
    (∀ i : Fin 16, ((running (began 0)).contacts[i]).setting.enabled = true) ∧
    ((running (began 0)).breakers[0]).TimerFits true ∧ (after .shotStart latched).StagesInOrder ∧
    (after .shotStart latched).tick.engine = true ∧
    step (withNop (running (began 0))) = .next (after (.nop .plan 0) (running (began 0))) := by
  refine ⟨by decide +kernel, ?_, by decide +kernel, by decide +kernel, step_withNop _ (by decide +kernel)⟩
  have ht : ((running (began 0)).breakers[0]).timer = none := by decide +kernel
  have hp : ((running (began 0)).breakers[0]).position = .closed := by decide +kernel
  simp [Simulator.TimerFits, ht, hp]

end Sys2Proof.Tests
end

section
/-! SUPPORT. What an act of the part can do to the tables, the requests that lock their records, and the place of the running shot. The
invariants of the Programme Tables (R1 to R3, R20) read nothing else of the state, so each is proved once for an act and then holds of
every command. -/

namespace Sys2Proof.Machine

open Relation (ReflTransGen)

/-! ## What the tables' invariants read -/

/-- What a request claims while it is queued or granted: its start state, its profile and its reachable set (R2, R24). -/
structure Claim where
  start : Fin 64
  profile : Fin 4
  reach : StateSet

/-- The claim of a request. -/
def Request.claim (r : Request) : Claim := { start := r.start, profile := r.profile, reach := r.reach }

@[simp] theorem Request.claim_start (r : Request) : r.claim.start = r.start := rfl
@[simp] theorem Request.claim_profile (r : Request) : r.claim.profile = r.profile := rfl
@[simp] theorem Request.claim_reach (r : Request) : r.claim.reach = r.reach := rfl
@[simp] theorem Request.claim_passOver (r : Request) : r.passOver.claim = r.claim := rfl

/-- The claims of the requests that lock records (R2). -/
def State.claims (s : State) : List Claim := s.requests.map Request.claim

/-- Where a RUNNING shot is: the state in force, and the target of a deferral (R43). -/
def Engine.place : Engine → Option (Fin 64 × Option (Fin 64))
  | .running _ run => some (run.inForce, run.deferral.map Deferral.target)
  | _ => none

@[simp] theorem Engine.place_idle : Engine.idle.place = none := rfl
@[simp] theorem Engine.place_armed (sh : Shot) (a : Option Clock) : (Engine.armed sh a).place = none := rfl
@[simp] theorem Engine.place_settling (sh : Shot) (a : Option Clock) (b : Clock) : (Engine.settling sh a b).place = none := rfl
@[simp] theorem Engine.place_running (sh : Shot) (run : Run) :
    (Engine.running sh run).place = some (run.inForce, run.deferral.map Deferral.target) := rfl
@[simp] theorem Engine.shot?_idle : Engine.idle.shot? = none := rfl
@[simp] theorem Engine.shot?_armed (sh : Shot) (a : Option Clock) : (Engine.armed sh a).shot? = some sh := rfl
@[simp] theorem Engine.shot?_settling (sh : Shot) (a : Option Clock) (b : Clock) : (Engine.settling sh a b).shot? = some sh := rfl
@[simp] theorem Engine.shot?_running (sh : Shot) (run : Run) : (Engine.running sh run).shot? = some sh := rfl

/-- A state that the running shot may be in next: its start state, the one it is in or is deferred to, or one that an exit of the state
in force leads to (R48, R51, R56). -/
def State.MayReach (s : State) (sh : Shot) (a : Fin 64) : Prop :=
  a = sh.req.start ∨ ∃ b d, s.engine.place = some (b, d) ∧ (a = b ∨ d = some a ∨ s.leads b a)

/-- The running shot of `t` was the granted shot of `s`, and it is where it may get to from there. -/
def State.Follows (s t : State) : Prop :=
  ∀ sh a d, t.engine.shot? = some sh → t.engine.place = some (a, d) →
    s.engine.shot? = some sh ∧ s.MayReach sh a ∧ ∀ b, d = some b → s.MayReach sh b

/-- Two states with the same tables, queued requests, granted shot and place of it. -/
def State.Alike (s t : State) : Prop :=
  t.tables = s.tables ∧ t.queue.requests = s.queue.requests ∧ t.engine.shot? = s.engine.shot? ∧
    t.engine.place = s.engine.place

/-- What one act of the part does to the tables and the requests: nothing but that a request changes its stand or the shot its place, a
request let go of with its locks (R3), or the records of a link reset that `R` allows (R18). -/
inductive State.Act (R : Link → Prop) (s t : State) : Prop where
  | keep (tables : t.tables = s.tables) (claims : t.claims.Perm s.claims) (follows : s.Follows t)
  | release (r : Request) (tables : t.tables = s.tables.releaseFor r) (claims : s.claims.Perm (r.claim :: t.claims))
      (follows : s.Follows t)
  | orphan (l : Link) (allowed : R l) (tables : t.tables = s.tables.linkReset l) (claims : t.claims = s.claims)
      (follows : s.Follows t)

/-- A run of acts. -/
def State.Runs (R : Link → Prop) : State → State → Prop := ReflTransGen (State.Act R)

theorem State.Runs.refl {R : Link → Prop} {s : State} : s.Runs R s := ReflTransGen.refl

theorem State.Runs.trans {R : Link → Prop} {s t u : State} (h : s.Runs R t) (g : t.Runs R u) : s.Runs R u :=
  ReflTransGen.trans h g

theorem State.Act.runs {R : Link → Prop} {s t : State} (h : s.Act R t) : s.Runs R t := ReflTransGen.single h

/-- What each act keeps a run keeps. -/
theorem State.Runs.induct {R : Link → Prop} {P : State → Prop} (hact : ∀ s t : State, P s → s.Act R t → P t) {s t : State}
    (h : s.Runs R t) (hs : P s) : P t := by
  induction h with
  | refl => exact hs
  | tail _ ha ih => exact hact _ _ ih ha

theorem State.Follows.of_shot {s t : State} (hshot : t.engine.shot? = s.engine.shot?)
    (hplace : t.engine.place = s.engine.place) : s.Follows t := by
  intro sh a d hs hp
  rw [hplace] at hp
  exact ⟨hshot ▸ hs, .inr ⟨a, d, hp, .inl rfl⟩, fun b hb => .inr ⟨a, d, hp, .inr (.inl hb)⟩⟩

theorem State.Follows.of_rest {s t : State} (h : t.engine.place = none) : s.Follows t := fun _ _ _ _ hp => by
  rw [h] at hp; cases hp

theorem State.claims_of_eq {s t : State} (hq : t.queue.requests = s.queue.requests)
    (hs : t.engine.shot? = s.engine.shot?) : t.claims = s.claims := by
  simp only [State.claims, State.requests, hq, hs]

theorem State.Runs.of_alike {R : Link → Prop} {s t : State} (h : s.Alike t) : s.Runs R t :=
  have ⟨htables, hqueue, hshot, hplace⟩ := h
  (State.Act.keep htables (.of_eq (State.claims_of_eq hqueue hshot)) (.of_shot hshot hplace)).runs

/-- A state alike to the one a run ends in ends a run too. -/
theorem State.Runs.alike {R : Link → Prop} {s t u : State} (h : s.Runs R t) (g : t.Alike u) : s.Runs R u :=
  h.trans (.of_alike g)

/-! ## The shot and its place in the operations that change the engine -/

@[simp] theorem State.writeElem_shot (s : State) (k : Fin 4) (c : BreakerChange) :
    (s.writeElem k c).engine.shot? = s.engine.shot? ∧ (s.writeElem k c).engine.place = s.engine.place := by
  unfold State.writeElem
  cases h : s.engine <;> simp only [h, and_self]
  all_goals split <;> simp [h]

@[simp] theorem State.beginOpening_shot (s : State) (k : Fin 4) (c : Clock) :
    (s.beginOpening k c).engine.shot? = s.engine.shot? ∧ (s.beginOpening k c).engine.place = s.engine.place := by
  simp [State.beginOpening]

@[simp] theorem State.beginClosing_shot (s : State) (k : Fin 4) (c : Clock) :
    (s.beginClosing k c).engine.shot? = s.engine.shot? ∧ (s.beginClosing k c).engine.place = s.engine.place := by
  simp [State.beginClosing]

@[simp] theorem State.takeOpen_shot (s : State) (k : Fin 4) :
    (s.takeOpen k).engine.shot? = s.engine.shot? ∧ (s.takeOpen k).engine.place = s.engine.place := by
  unfold State.takeOpen
  dsimp only
  split <;> simp

@[simp] theorem State.takeClosed_shot (s : State) (k : Fin 4) :
    (s.takeClosed k).engine.shot? = s.engine.shot? ∧ (s.takeClosed k).engine.place = s.engine.place := by
  unfold State.takeClosed
  dsimp only
  split <;> simp

@[simp] theorem State.completeMove_shot (s : State) (k : Fin 4) :
    (s.completeMove k).engine.shot? = s.engine.shot? ∧ (s.completeMove k).engine.place = s.engine.place := by
  unfold State.completeMove
  repeat' split
  all_goals simp [State.reachOpen, State.reachClosed]

@[simp] theorem State.completeMoves_shot (s : State) :
    s.completeMoves.engine.shot? = s.engine.shot? ∧ s.completeMoves.engine.place = s.engine.place :=
  ⟨foldl_keeps (fun s => s.engine.shot?) _ (fun s k => by simp [State.completeBoth]) _ s,
    foldl_keeps (fun s => s.engine.place) _ (fun s k => by simp [State.completeBoth]) _ s⟩

@[simp] theorem State.prepare_shot (s : State) :
    s.prepare.engine.shot? = s.engine.shot? ∧ s.prepare.engine.place = s.engine.place := by
  unfold State.prepare
  split <;> simp

@[simp] theorem State.breakerEvent_shot (s : State) (run : Run) (i : Fin 16) (d : Direction) (c : Clock) (k : Fin 4) :
    (s.breakerEvent run i d c k).engine.shot? = s.engine.shot? ∧
      (s.breakerEvent run i d c k).engine.place = s.engine.place := by
  unfold State.breakerEvent State.trip State.close
  dsimp only
  repeat' split
  all_goals simp

@[simp] theorem State.informBreakers_shot (s : State) (i : Fin 16) (d : Direction) (c : Clock) :
    (s.informBreakers i d c).engine.shot? = s.engine.shot? ∧ (s.informBreakers i d c).engine.place = s.engine.place := by
  unfold State.informBreakers
  split
  · exact ⟨keeps_three (fun s => s.engine.shot?) (fun t k => by simp) (fun t k => by split <;> simp)
        (fun t k => by split <;> simp) _ s,
      keeps_three (fun s => s.engine.place) (fun t k => by simp) (fun t k => by split <;> simp)
        (fun t k => by split <;> simp) _ s⟩
  · simp

@[simp] theorem State.latchEdges_shot (s : State) (i : Fin 16) (d : Direction) (c : Clock) :
    (s.latchEdges i d c).engine.shot? = s.engine.shot? ∧ (s.latchEdges i d c).engine.place = s.engine.place := by
  unfold State.latchEdges
  cases h : s.engine <;> cases d <;> simp only [h, and_self]
  all_goals split <;> simp [h]

@[simp] theorem State.endEpisode_shot (s : State) (i : Fin 16) (e : Episode) :
    (s.endEpisode i e).engine.shot? = s.engine.shot? ∧ (s.endEpisode i e).engine.place = s.engine.place := by
  unfold State.endEpisode State.handOver
  dsimp only
  split <;> simp

@[simp] theorem State.flushElems_shot (s : State) :
    s.flushElems.engine.shot? = s.engine.shot? ∧ s.flushElems.engine.place = s.engine.place := by
  unfold State.flushElems
  cases h : s.engine <;> simp [h]

@[simp] theorem State.settleTick_shot (s : State) :
    s.settleTick.engine.shot? = s.engine.shot? ∧ s.settleTick.engine.place = s.engine.place := by
  simp [State.settleTick]

@[simp] theorem State.takeTrig_shot (s : State) :
    s.takeTrig.engine.shot? = s.engine.shot? ∧ s.takeTrig.engine.place = s.engine.place := by
  unfold State.takeTrig
  repeat' split
  all_goals simp_all

/-! ## The acts -/

section
variable {R : Link → Prop}

theorem State.requests_of_shot {s : State} {sh : Shot} (h : s.engine.shot? = some sh) :
    s.requests = s.queue.requests ++ [sh.req] := by simp [State.requests, h]

theorem State.requests_of_idle {s : State} (h : s.engine.shot? = none) : s.requests = s.queue.requests := by
  simp [State.requests, h]

/-- A grant takes a request from the queue to the engine and keeps what it claims (R33). -/
theorem State.grantInto_act {s : State} {r : Request} (k : Fin 16) (hi : s.engine = .idle) (hr : r ∈ s.queue.requests) :
    s.Act R (s.grantInto r k) := by
  refine .keep (by simp) ?_ (.of_rest (by simp))
  have hs : s.claims = s.queue.requests.map Request.claim := by
    rw [State.claims, State.requests_of_idle (by rw [hi]; rfl)]
  have ht : (s.grantInto r k).claims = (s.queue.requests.erase r).map Request.claim ++ [r.claim] := by
    rw [State.claims, State.requests_of_shot (by rw [State.grantInto_engine]; rfl)]
    simp [Function.comp_def]
  rw [hs, ht]
  exact (List.perm_append_singleton _ _).trans ((List.perm_cons_erase hr).symm.map Request.claim)

/-- The teardown of the granted shot lets its records go (R64 step 3). -/
theorem State.tearDown_act {s : State} {sh : Shot} (h : s.engine.shot? = some sh) : s.Act R (s.tearDown sh) := by
  refine .release sh.req (by simp) ?_ (.of_rest (by simp))
  rw [State.claims, State.claims, State.requests_of_shot h, State.requests_of_idle (by simp)]
  simp

/-- The granted shot settles, with its teardown where its horizon is 0 (R63). -/
theorem State.settle_runs {s : State} {sh : Shot} (start : Option Clock) (h : s.engine.shot? = some sh) :
    s.Runs R (s.settle sh start) := by
  have hset : s.Runs R { s with engine := .settling sh start s.now } :=
    (State.Act.keep (s := s) (t := { s with engine := .settling sh start s.now }) rfl
      (.of_eq (State.claims_of_eq rfl (by simp [h]))) (.of_rest rfl)).runs
  by_cases hz : (s.profile sh.req.profile).horizon = 0
  · rw [State.settle_of_zero hz]
    exact hset.trans (State.tearDown_act rfl).runs
  · rw [State.settle_of_horizon hz]
    exact hset

theorem State.endArmed_runs {s : State} {sh : Shot} (r : EndReason) (h : s.engine.shot? = some sh) :
    s.Runs R (s.endArmed sh r) :=
  .trans (.of_alike (by simp [State.Alike])) (State.settle_runs none (by simpa using h))

theorem State.endRunning_runs {s : State} {sh : Shot} (run : Run) (r : EndReason) (cause : ExitCause)
    (h : s.engine.shot? = some sh) : s.Runs R (s.endRunning sh run r cause) :=
  .trans (.of_alike (by simp [State.Alike])) (State.settle_runs _ (by simpa using h))

theorem State.grantMoment_runs (s : State) : s.Runs R s.grantMoment := by
  refine State.grantMoment_induct (P := s.Runs R) .refl (fun t r k ht hc _ => ?_) fun t sh latch ht he => ?_
  · obtain ⟨hr, hel⟩ := State.choice_mem hc
    exact ht.trans (State.grantInto_act k (State.eligible_idle hel) hr).runs
  · exact ht.trans (State.endArmed_runs _ (by simp [he]))

theorem State.requestEnd_runs (s : State) (r : EndReason) : s.Runs R (s.requestEnd r) := by
  cases h : s.engine with
  | idle => rw [State.requestEnd_of_idle r h]; exact .refl
  | armed sh latch =>
    rw [State.requestEnd_of_armed r h]
    exact (State.endArmed_runs r (by simp [h])).trans (State.grantMoment_runs _)
  | running sh run =>
    rw [State.requestEnd_of_running r h]
    exact .of_alike (by simp [State.Alike, h])
  | settling sh a b => rw [State.requestEnd_of_settling r h]; exact .refl

theorem State.judgeInhibit_runs (s : State) : s.Runs R s.judgeInhibit := by
  unfold State.judgeInhibit
  split
  · exact s.requestEnd_runs _
  · exact .refl

theorem State.setQuality_runs (s : State) (q : Quality) : s.Runs R (s.setQuality q) := by
  have hq : s.Runs R { s with clock := { s.clock with quality := q } } := .of_alike (by simp [State.Alike])
  unfold State.setQuality State.qualityChanged
  dsimp only
  repeat' split
  · exact hq
  · exact (hq.alike (by simp [State.Alike])).trans (State.requestEnd_runs _ _)
  · exact hq.alike (by simp [State.Alike])
  · exact hq.alike (by simp [State.Alike])

/-! ## The acts of a tick -/

theorem State.prepare_runs (s : State) : s.Runs R s.prepare := .of_alike (by simp [State.Alike])

/-- The shot that starts is in its start state (R48). -/
theorem State.startShot_runs {s : State} {sh : Shot} (h : s.engine.shot? = some sh) : s.Runs R (s.startShot sh) := by
  have he : (s.startShot sh).engine = .running sh (.begin s.now sh.req.start) := by simp [State.startShot]
  refine (State.Act.keep (by simp) (.of_eq (State.claims_of_eq (by simp) (by simp [he, h]))) fun sh' a d hs hp => ?_).runs
  rw [he] at hs hp
  cases hs
  cases hp
  exact ⟨h, .inl rfl, fun b hb => by cases hb⟩

/-- A RUNNING shot that enters a state, or is deferred to one, gets no further than it may (R51, R56). -/
theorem State.Runs.of_run {s t : State} {sh : Shot} {run run' : Run} (htables : t.tables = s.tables)
    (hqueue : t.queue = s.queue) (hs : s.engine = .running sh run) (ht : t.engine = .running sh run')
    (hin : s.MayReach sh run'.inForce) (hd : ∀ d ∈ run'.deferral, s.MayReach sh d.target) : s.Runs R t := by
  refine (State.Act.keep htables (.of_eq (State.claims_of_eq (by rw [hqueue]) (by simp [hs, ht])))
    fun sh' a d hsh hp => ?_).runs
  rw [ht] at hsh hp
  cases hsh
  cases hp
  refine ⟨by simp [hs], hin, fun b hb => ?_⟩
  obtain ⟨d, hdm, rfl⟩ := Option.map_eq_some_iff.1 hb
  exact hd d hdm

/-- The exit taken at a tick is one of the state in force (R51). -/
theorem State.firstExit_mem {s : State} {run : Run} {slot : Nat} {e : Exit} :
    ∀ {n : Nat} {es : List Exit}, s.firstExit run n es = some (slot, e) → e ∈ es := by
  intro n es
  induction es generalizing n with
  | nil => intro h; cases h
  | cons x xs ih =>
    intro h
    unfold State.firstExit at h
    split at h
    · cases h; exact List.mem_cons_self
    · exact List.mem_cons_of_mem _ (ih h)

/-- What an action of the engine asks of the state it is ready in: the shot it speaks of, and a target that the shot may get to. -/
def State.Ready (s : State) : Action → Prop
  | .start sh => s.engine.shot? = some sh
  | .finish sh _ _ _ => s.engine.shot? = some sh
  | .enter sh run target _ _ => s.engine = .running sh run ∧ s.MayReach sh target
  | .defer sh run d => s.engine = .running sh run ∧ s.MayReach sh d.target
  | _ => True

/-- What the engine does at a tick it is ready for (R45, R51, R55, R56, R58). -/
theorem State.action_ready (s : State) : s.Ready s.action := by
  unfold State.action
  split
  · rename_i sh c he
    split
    · trivial
    · exact by simp [State.Ready, he]
  · rename_i sh run he
    split
    · exact by simp [State.Ready, he]
    · split
      · rename_i d hd
        split
        · exact ⟨he, .inr ⟨run.inForce, some d.target, by simp [he, hd], .inr (.inl rfl)⟩⟩
        · trivial
      · split
        · trivial
        · rename_i slot e ht
          have hmem : e ∈ (s.entry run.inForce).exits := State.firstExit_mem ht
          unfold State.follow
          split
          · exact by simp [State.Ready, he]
          · rename_i target htg
            have hmay : s.MayReach sh target := .inr ⟨run.inForce, _, by rw [he]; rfl, .inr (.inr ⟨e, hmem, htg⟩)⟩
            repeat' split
            · exact by simp [State.Ready, he]
            · exact ⟨he, hmay⟩
            · exact ⟨he, hmay⟩
  · trivial

theorem State.enterState_engine (s : State) (sh : Shot) (run : Run) (target : Fin 64) :
    ∃ run', (s.enterState sh run target).engine = .running sh run' ∧ run'.inForce = target ∧ run'.deferral = none := by
  simp [State.enterState]

theorem State.perform_runs {s : State} {a : Action} (h : s.Ready a) : s.Runs R (s.perform a) := by
  cases a with
  | rest => exact .refl
  | stay => exact .refl
  | start sh => exact State.startShot_runs h
  | finish sh run r cause =>
    exact .trans (.of_alike (by simp [State.Alike])) (.trans
      (State.endRunning_runs (s := s.superviseEnd) run r cause (by simpa [State.Ready] using h)) (State.grantMoment_runs _))
  | enter sh run target cause n =>
    obtain ⟨he, hmay⟩ := h
    obtain ⟨run', he', hin, hd⟩ := (s.leaveVisit sh run cause n).enterState_engine sh run target
    exact .of_run (by simp [State.perform]) (by simp [State.perform]) he he' (hin ▸ hmay) fun d hdm => by
      rw [hd] at hdm; cases hdm
  | defer sh run d =>
    obtain ⟨he, hmay⟩ := h
    refine .of_run rfl rfl he (run' := { run with deferral := some d }) rfl ?_ fun x hx => ?_
    · exact .inr ⟨run.inForce, _, by rw [he]; rfl, .inl rfl⟩
    · cases hx; exact hmay

theorem State.settleTick_runs (s : State) : s.Runs R s.settleTick := .of_alike (by simp [State.Alike])

theorem State.engineWork_runs (s : State) : s.Runs R s.engineWork := by
  unfold State.engineWork
  repeat' split
  · exact (s.prepare_runs.trans (State.perform_runs s.prepare.action_ready)).trans (State.settleTick_runs _)
  · exact .of_alike (by simp [State.Alike])
  · exact .refl

theorem State.compareAll_runs (s : State) : s.Runs R s.compareAll := by
  have h : s.Runs R s.compareLanes := .of_alike (by simp [State.Alike])
  unfold State.compareAll
  split
  · exact h.trans (State.requestEnd_runs _ _)
  · exact h

theorem State.heatAll_runs (s : State) : s.Runs R s.heatAll := by
  have h : s.Runs R s.heatAccounts := .of_alike (by simp [State.Alike])
  unfold State.heatAll
  repeat' split
  · exact .refl
  · exact h.trans (State.requestEnd_runs _ _)
  · exact h

theorem State.runTick_runs (s : State) : s.Runs R s.runTick := by
  unfold State.runTick
  split
  · exact (((s.engineWork_runs.trans (State.compareAll_runs _)).trans (State.heatAll_runs _)).alike
      (by simp [State.Alike])).trans (State.grantMoment_runs _)
  · exact .refl

theorem State.laneEvent_runs (s : State) (due : State → Shot → Run → Bool) (act : State → Shot → Run → State)
    (h : ∀ (t : State) sh run, t.Alike (act t sh run)) : s.Runs R (s.laneEvent due act) := by
  unfold State.laneEvent
  repeat' split
  · exact s.engineWork_runs.alike (h _ _ _)
  all_goals exact .refl

theorem State.deviationFault_runs (s : State) (i : Fin 12) : s.Runs R (s.deviationFault i) := by
  unfold State.deviationFault
  repeat' split
  · exact s.engineWork_runs
  · exact .refl
  · exact s.engineWork_runs.trans (State.compareAll_runs _)
  · exact .refl

theorem State.startSecond_runs (s : State) : s.Runs R s.startSecond := by
  unfold State.startSecond
  repeat' split
  · rename_i sh he _
    have ho : s.Runs R s.openTick := .of_alike (by simp [State.Alike])
    have hsh : s.openTick.engine.shot? = some sh := by simp [he]
    exact ((ho.trans (State.startShot_runs hsh)).trans (State.settleTick_runs _)).trans (.of_alike ⟨rfl, rfl, rfl, rfl⟩)
  all_goals exact .refl

theorem State.handleMark_runs (s : State) : s.Runs R s.handleMark := by
  unfold State.handleMark State.acceptMark
  repeat' split
  · have hr : s.Alike s.reanchor := by unfold State.reanchor; split <;> simp [State.Alike]
    exact ((State.Runs.of_alike hr).alike (by simp [State.Alike])).trans
      ((State.setQuality_runs _ _).trans (State.startSecond_runs _))
  all_goals exact .refl

theorem State.expire_runs (s : State) : s.Runs R s.expire := by
  unfold State.expire
  split
  · exact s.setQuality_runs _
  · exact .trans (.of_alike (by simp [State.Alike])) (State.setQuality_runs _ _)

/-! ## The acts of the requests -/

@[simp] theorem State.removeQueued_tables (s : State) (r : Request) :
    (s.removeQueued r).tables = s.tables.releaseFor r := by simp only [State.removeQueued]

@[simp] theorem State.removeQueued_requests (s : State) (r : Request) :
    (s.removeQueued r).queue.requests = s.queue.requests.erase r := by simp only [State.removeQueued]

/-- A queued request is removed with its locks (R40). -/
theorem State.removeQueued_act {s : State} {r : Request} (h : r ∈ s.queue.requests) : s.Act R (s.removeQueued r) := by
  refine .release r (State.removeQueued_tables s r) ?_ (.of_shot (by simp) (by simp))
  have hp : s.requests.Perm (r :: (s.removeQueued r).requests) := by
    simp only [State.requests, State.removeQueued_requests, State.removeQueued_engine]
    exact (List.perm_cons_erase h).append_right _
  exact hp.map Request.claim

/-- Queued requests are removed one by one with their locks (R40, R41). -/
theorem State.removed_runs {rs : List Request} : ∀ {s t : State}, s.queue.requests.Perm (rs ++ t.queue.requests) →
    t.tables = rs.foldl Tables.releaseFor s.tables → t.engine = s.engine → s.Runs R t := by
  induction rs with
  | nil =>
    intro s t hq ht he
    have hp : t.requests.Perm s.requests := by
      rw [State.requests, State.requests, he]
      exact hq.symm.append_right _
    exact (State.Act.keep ht (hp.map Request.claim) (.of_shot (by rw [he]) (by rw [he]))).runs
  | cons r rs ih =>
    intro s t hq ht he
    have hr : r ∈ s.queue.requests := hq.symm.subset (List.mem_cons_self)
    have hrest : (s.queue.requests.erase r).Perm (rs ++ t.queue.requests) := by simpa using hq.erase r
    rw [List.foldl_cons, ← State.removeQueued_tables] at ht
    exact (State.removeQueued_act hr).runs.trans (ih (by rwa [State.removeQueued_requests]) ht (by simpa using he))

theorem State.removeQueuedOf_runs (s : State) (l : Link) : s.Runs R (s.removeQueuedOf l) := by
  refine State.removed_runs (rs := s.queue.requests.filter fun x => x.link = l) ?_ (by simp only [State.removeQueuedOf])
    (by simp)
  simpa [State.removeQueuedOf] using (List.filter_append_perm (fun x => decide (x.link = l)) s.queue.requests).symm

theorem State.resetRecords_act {s : State} {l : Link} (h : R l) : s.Act R (s.resetRecords l) :=
  .orphan l h (by simp only [State.resetRecords]) (State.claims_of_eq (by simp) (by simp)) (.of_shot (by simp) (by simp))

theorem State.clearOverride_runs (s : State) : s.Runs R s.clearOverride := by
  unfold State.clearOverride
  dsimp only
  split
  · exact .trans (.of_alike (by simp [State.Alike])) (State.judgeInhibit_runs _)
  · exact .of_alike (by simp [State.Alike])

theorem State.endGoWait_runs (s : State) (l : Link) : s.Runs R (s.endGoWait l) := by
  unfold State.endGoWait
  repeat' split
  · exact s.requestEnd_runs _
  all_goals exact .refl

theorem State.linkReset_runs {s : State} {l : Link} (h : R l) : s.Runs R (s.linkReset l) := by
  have hl : s.Runs R (s.setLink l ((s.link l).linkReset l)) := .of_alike (by simp [State.Alike])
  have hr := ((hl.trans (State.removeQueuedOf_runs _ l)).trans (State.resetRecords_act h).runs).trans
    (State.endGoWait_runs _ l)
  unfold State.linkReset
  dsimp only
  split
  · exact hr.trans (State.clearOverride_runs _)
  · exact hr

theorem State.setOverrideLatch_runs (s : State) : s.Runs R s.setOverrideLatch := by
  unfold State.setOverrideLatch
  dsimp only
  split
  · exact .trans (.of_alike (by simp [State.Alike])) (State.grantMoment_runs _)
  · exact .of_alike (by simp [State.Alike])

theorem State.declareFault_runs (s : State) (i : Fin 12) : s.Runs R (s.declareFault i) := by
  unfold State.declareFault
  dsimp only
  split
  · exact .trans (.of_alike (by simp [State.Alike])) (State.requestEnd_runs _ _)
  · exact .of_alike (by simp [State.Alike])

theorem State.retire_runs (s : State) (k : Fin 16) (l : Link) (w : LinkSet) : s.Runs R (s.retire k l w) := by
  unfold State.retire
  dsimp only
  split
  · exact .trans (.of_alike (by simp [State.Alike])) (State.grantMoment_runs _)
  · exact .of_alike (by simp [State.Alike])

theorem State.setDiscipline_runs (s : State) (on : Bool) : s.Runs R (s.setDiscipline on) := by
  unfold State.setDiscipline
  split
  · exact .refl
  · exact .trans (.of_alike (by simp [State.Alike])) (State.setQuality_runs _ _)

end

end Sys2Proof.Machine
end

section
/-! SUPPORT. What each command does to the tables and the requests: it begins with at most one load, one free or one request taken, and
goes on with a run of acts. Also that a request's frame parts name the command they run. -/

namespace Sys2Proof.Machine

/-! ## The request that frame parts spell (R177, R183) -/

theorem halfAt_halfBytes (h : Half16) : (h >>> 8).setWidth 8 ++ h.setWidth 8 = h := by
  ext i hi
  simp only [BitVec.getElem_append, BitVec.getElem_setWidth, BitVec.getLsbD_ushiftRight]
  split
  · rfl
  · rw [Nat.add_sub_cancel' (by omega), BitVec.getLsbD_eq_getElem]

/-- The kind, tag and body that carry a request run it (R177). -/
theorem runRequest_of_parts {c : Instr} {l : Link} {k : Kind} {tag : Byte} {body : List Byte}
    (h : frameParts c = some (l, k, tag, body)) (s : State) : runRequest l k tag body s = exec c s := by
  cases c <;> cases h
  all_goals try rfl
  all_goals
    simp [runRequest, exec, byteAt, halfAt, halfBytes, halfAt_halfBytes]

/-! ## How a command begins -/

/-- What a command does to the tables and the queue before the part acts on it: a record that no request uses is replaced by a body that
passes its checks (R12), or made FREE (R14), or a request that passes every check joins the queue (R26). -/
inductive State.Begins (s t : State) : Prop where
  | nothing (eq : t = s)
  | loadState (l : Link) (i : Fin 64) (body : List Byte) (unlocked : (s.tables.states[i]).lock = 0)
      (fits : stateBad body = none) (eq : t = s.setEntry i (.loaded (some l) 0 (readState body)))
  | loadProfile (l : Link) (i : Fin 4) (body : List Byte) (unlocked : (s.tables.profiles[i]).lock = 0)
      (fits : profileBad body = none) (eq : t = s.setProfile i (.loaded (some l) 0 (readProfile body)))
  | freeState (i : Fin 64) (unlocked : (s.tables.states[i]).lock = 0) (eq : t = s.setEntry i .free)
  | freeProfile (i : Fin 4) (unlocked : (s.tables.profiles[i]).lock = 0) (eq : t = s.setProfile i .free)
  | take (l : Link) (r : Request) (passes : s.submitDenial l r = none) (eq : t = s.enqueue (s.completeRequest r))

/-- A state that comes of a command: a beginning and a run of acts. -/
def State.Comes (R : Link → Prop) (s t : State) : Prop := ∃ u, s.Begins u ∧ u.Runs R t

/-- The next state that a command answers comes of it. -/
def State.Goes (R : Link → Prop) (s : State) (o : Host.Outcome State Fault Refusal) : Prop :=
  ∀ t, o = .next t → s.Comes R t

section
variable {R : Link → Prop} {s : State}

theorem State.Runs.comes {t : State} (h : s.Runs R t) : s.Comes R t := ⟨s, .nothing rfl, h⟩

theorem State.Comes.trans {t u : State} (h : s.Comes R t) (g : t.Runs R u) : s.Comes R u :=
  let ⟨v, hv, hr⟩ := h
  ⟨v, hv, hr.trans g⟩

theorem State.Goes.next {t : State} (h : s.Runs R t) : s.Goes R (.next t) := fun _ e => by
  cases e; exact h.comes

/-- What comes of a request is what comes of its effect; its refusal and its reply change neither tables nor requests (R175). -/
theorem State.Goes.respond {l : Link} {k : Kind} {tag : Byte} {res : Except Denial (State × ReplyBody)}
    (h : ∀ t b, res = .ok (t, b) → s.Comes R t) : s.Goes R (.next (respond l k tag s res)) := by
  intro t e
  cases e
  cases res with
  | error d => exact (State.Runs.of_alike (by simp [State.Alike, Machine.respond])).comes
  | ok p => exact (h p.1 p.2 rfl).trans (.of_alike (by simp [State.Alike, Machine.respond]))

/-- A request whose effect is a run of acts. -/
theorem State.Goes.ok {l : Link} {k : Kind} {tag : Byte} {t : State} {b : ReplyBody} (h : s.Runs R t) :
    s.Goes R (.next (Machine.respond l k tag s (.ok (t, b)))) :=
  .respond fun t' b' e => by cases e; exact h.comes

/-! ## The requests -/

theorem Rec.lock_of_loadDenial {α : Type} {l : Link} {r : Rec α} (h : r.loadDenial l = none) : r.lock = 0 := by
  unfold Rec.loadDenial at h
  repeat' split at h
  all_goals simp_all [Rec.lock]

theorem Rec.lock_of_freeDenial {α : Type} {l : Link} {n : Nat} {r : Rec α} (h : r.freeDenial l n = none) : r.lock = 0 := by
  unfold Rec.freeDenial at h
  repeat' split at h
  all_goals simp_all [Rec.lock]

theorem loadState_comes {l : Link} {body : List Byte} {t : State} {b : ReplyBody} (h : loadState l body s = .ok (t, b)) :
    s.Comes R t := by
  unfold loadState at h
  repeat' split at h
  all_goals cases h
  rename_i i _ _ hl _ hb
  exact ⟨_, .loadState l i body (Rec.lock_of_loadDenial hl) hb rfl, .refl⟩

theorem loadProfile_comes {l : Link} {body : List Byte} {t : State} {b : ReplyBody}
    (h : loadProfile l body s = .ok (t, b)) : s.Comes R t := by
  unfold loadProfile at h
  repeat' split at h
  all_goals cases h
  rename_i i _ _ hl _ hb
  exact ⟨_, .loadProfile l i body (Rec.lock_of_loadDenial hl) hb rfl, .refl⟩

theorem freeState_comes {l : Link} {n : Byte} {t : State} {b : ReplyBody} (h : freeState l n s = .ok (t, b)) :
    s.Comes R t := by
  unfold freeState at h
  repeat' split at h
  all_goals cases h
  rename_i i _ _ hl
  exact ⟨_, .freeState i (Rec.lock_of_freeDenial hl) rfl, .refl⟩

theorem freeProfile_comes {l : Link} {n : Byte} {t : State} {b : ReplyBody} (h : freeProfile l n s = .ok (t, b)) :
    s.Comes R t := by
  unfold freeProfile at h
  repeat' split at h
  all_goals cases h
  rename_i i _ _ hl
  exact ⟨_, .freeProfile i (Rec.lock_of_freeDenial hl) rfl, .refl⟩

theorem submitShot_comes {l : Link} {x : Submit} {t : State} {b : ReplyBody} (h : submitShot l x s = .ok (t, b)) :
    s.Comes R t := by
  unfold submitShot at h
  repeat' split at h
  all_goals cases h
  rename_i hd
  exact ⟨_, .take l (x.request l) hd rfl, State.grantMoment_runs _⟩

theorem abort_comes {l : Link} {n : Byte} {t : State} {b : ReplyBody} (h : abort l n s = .ok (t, b)) : s.Comes R t := by
  unfold abort abortGranted at h
  repeat' split at h
  all_goals cases h
  · rename_i r hr _
    exact (State.removeQueued_act (List.mem_of_find?_eq_some hr)).runs.comes
  · exact (s.requestEnd_runs _).comes

theorem go_comes {l : Link} {t : State} {b : ReplyBody} (h : go l s = .ok (t, b)) : s.Comes R t := by
  unfold go at h
  repeat' split at h
  all_goals cases h
  rename_i sh he _ _
  exact (State.Runs.of_alike (by simp [State.Alike, he])).comes

theorem panelStep_comes {l : Link} {t : State} {b : ReplyBody} (h : panelStep l s = .ok (t, b)) : s.Comes R t := by
  unfold panelStep at h
  repeat' split at h
  all_goals cases h
  rename_i sh run he _
  exact (State.Runs.of_alike (by simp [State.Alike, he])).comes

theorem adjust_comes {l : Link} {i d : Byte} {t : State} {b : ReplyBody} (h : adjust l i d s = .ok (t, b)) :
    s.Comes R t := by
  unfold adjust State.adjustLane at h
  repeat' split at h
  all_goals cases h
  exact (State.Runs.of_alike (by simp [State.Alike])).comes

theorem setLinkPriority_comes {l : Link} {p w : Byte} {t : State} {b : ReplyBody}
    (h : setLinkPriority l p w s = .ok (t, b)) : s.Comes R t := by
  unfold setLinkPriority at h
  split at h
  all_goals cases h
  exact (State.Runs.of_alike (by simp [State.Alike])).comes

theorem setSupervision_comes {l : Link} {i e : Byte} {d : Half16} {m : Byte} {r x : Half16} {t : State} {b : ReplyBody}
    (h : setSupervision l i e d m r x s = .ok (t, b)) : s.Comes R t := by
  unfold setSupervision at h
  repeat' split at h
  all_goals cases h
  exact ((State.Runs.of_alike (by simp [State.Alike])).trans (State.grantMoment_runs _)).comes

theorem declareLaneFault_comes {l : Link} {i : Byte} {t : State} {b : ReplyBody}
    (h : declareLaneFault l i s = .ok (t, b)) : s.Comes R t := by
  unfold declareLaneFault at h
  repeat' split at h
  all_goals cases h
  exact (s.declareFault_runs _).comes

theorem clearLaneFault_comes {l : Link} {i : Byte} {t : State} {b : ReplyBody}
    (h : clearLaneFault l i s = .ok (t, b)) : s.Comes R t := by
  unfold clearLaneFault at h
  repeat' split at h
  all_goals cases h
  exact ((State.Runs.of_alike (by simp [State.Alike])).trans (State.grantMoment_runs _)).comes

theorem setOverride_comes {l : Link} {a : Byte} {t : State} {b : ReplyBody} (h : setOverride l a s = .ok (t, b)) :
    s.Comes R t := by
  unfold setOverride at h
  repeat' split at h
  all_goals cases h
  · exact s.setOverrideLatch_runs.comes
  · exact s.clearOverride_runs.comes

theorem subscribe_comes {l : Link} {x n : Byte} {t : State} {b : ReplyBody} (h : subscribe l x n s = .ok (t, b)) :
    s.Comes R t := by
  unfold subscribe at h
  dsimp only at h
  repeat' split at h
  all_goals cases h
  · exact ((State.Runs.of_alike (by simp [State.Alike])).trans (State.grantMoment_runs _)).comes
  · exact (State.Runs.of_alike (by simp [State.Alike])).comes

theorem retireReport_comes {l : Link} {k : Byte} {n : Half16} {t : State} {b : ReplyBody}
    (h : retireReport l k n s = .ok (t, b)) : s.Comes R t := by
  unfold retireReport at h
  repeat' split at h
  all_goals cases h
  exact (s.retire_runs _ _ _).comes

theorem setDiscipline_comes {l : Link} {x : Byte} {t : State} {b : ReplyBody} (h : setDiscipline l x s = .ok (t, b)) :
    s.Comes R t := by
  unfold setDiscipline at h
  dsimp only at h
  repeat' split at h
  all_goals cases h
  exact (s.setDiscipline_runs _).comes

theorem readStateRecord_comes {n : Byte} {t : State} {b : ReplyBody} (h : readStateRecord n s = .ok (t, b)) :
    s.Comes R t := by
  unfold readStateRecord at h
  split at h <;> cases h
  exact State.Runs.refl.comes

theorem readProfileRecord_comes {n : Byte} {t : State} {b : ReplyBody} (h : readProfileRecord n s = .ok (t, b)) :
    s.Comes R t := by
  unfold readProfileRecord at h
  split at h <;> cases h
  exact State.Runs.refl.comes

theorem readReport_comes {k : Byte} {n : Half16} {p v : Byte} {f : Half16} {c : Byte} {t : State} {b : ReplyBody}
    (h : readReport k n p v f c s = .ok (t, b)) : s.Comes R t := by
  unfold readReport at h
  repeat' split at h
  all_goals cases h
  exact State.Runs.refl.comes

theorem readCapture_comes {x : Byte} {f : Half16} {c : Byte} {t : State} {b : ReplyBody}
    (h : readCapture x f c s = .ok (t, b)) : s.Comes R t := by
  unfold readCapture at h
  dsimp only at h
  repeat' split at h
  all_goals cases h
  exact State.Runs.refl.comes

/-- What comes of a request is a beginning and a run of acts; only LINK_RESET resets a link, its own. -/
theorem runRequest_goes {l : Link} {k : Kind} (hR : k = .linkReset → R l) (tag : Byte) (body : List Byte) :
    s.Goes R (runRequest l k tag body s) := by
  cases k with
  | nop => exact .ok .refl
  | peekNotices => exact .ok .refl
  | takeNotices => exact .ok (.of_alike (by simp [State.Alike]))
  | clearFault => exact .ok (.of_alike (by simp [State.Alike]))
  | linkReset => exact .ok (State.linkReset_runs (hR rfl))
  | loadState => exact .respond fun _ _ => loadState_comes
  | loadProfile => exact .respond fun _ _ => loadProfile_comes
  | freeState => exact .respond fun _ _ => freeState_comes
  | freeProfile => exact .respond fun _ _ => freeProfile_comes
  | readState => exact .respond fun _ _ => readStateRecord_comes
  | readProfile => exact .respond fun _ _ => readProfileRecord_comes
  | tableStatus => exact .ok .refl
  | submitShot => exact .respond fun _ _ => submitShot_comes
  | abort => exact .respond fun _ _ => abort_comes
  | setLinkPriority => exact .respond fun _ _ => setLinkPriority_comes
  | queueStatus => exact .ok .refl
  | go => exact .respond fun _ _ => go_comes
  | step => exact .respond fun _ _ => panelStep_comes
  | adjust => exact .respond fun _ _ => adjust_comes
  | setSupervision => exact .respond fun _ _ => setSupervision_comes
  | declareLaneFault => exact .respond fun _ _ => declareLaneFault_comes
  | clearLaneFault => exact .respond fun _ _ => clearLaneFault_comes
  | setOverride => exact .respond fun _ _ => setOverride_comes
  | supervisionStatus => exact .ok .refl
  | subscribe => exact .respond fun _ _ => subscribe_comes
  | reportStatus => exact .ok .refl
  | readReport => exact .respond fun _ _ => readReport_comes
  | retireReport => exact .respond fun _ _ => retireReport_comes
  | readCapture => exact .respond fun _ _ => readCapture_comes
  | setDiscipline => exact .respond fun _ _ => setDiscipline_comes
  | timeStatus => exact .ok .refl

end

/-! ## The commands -/

/-- The links that a command may reset: the one that a LINK_RESET or a transaction's bytes come from (R181, R176). -/
def mayReset (c : Instr) (l : Link) : Prop := (∃ tag, c = .linkReset l tag) ∨ ∃ bytes, c = .badFrame l bytes

theorem execBadFrame_goes (s : State) (l : Link) (bytes : List Byte) :
    s.Goes (mayReset (.badFrame l bytes)) (execBadFrame l bytes s) := by
  unfold execBadFrame
  repeat' split
  · exact .next .refl
  · exact .next (.of_alike (by simp [State.Alike]))
  · exact runRequest_goes (fun _ => .inr ⟨bytes, rfl⟩) _ _

theorem execMark_goes {R : Link → Prop} (s : State) : s.Goes R (execMark s) := by
  have h : s.Runs R { s with clock := { s.clock with markNow := true } } := .of_alike (by simp [State.Alike])
  refine .next ?_
  split
  · exact h.trans (State.handleMark_runs _)
  · exact h

theorem execTrigEdge_goes {R : Link → Prop} (s : State) : s.Goes R (execTrigEdge s) := by
  refine .next (.of_alike ?_)
  split <;> simp [State.Alike]

theorem execInhibitAssert_goes {R : Link → Prop} (s : State) : s.Goes R (execInhibitAssert s) := by
  refine .next ?_
  split
  · exact .of_alike (by simp [State.Alike])
  · exact .trans (.of_alike (by simp [State.Alike])) (State.judgeInhibit_runs _)

theorem execInhibitDeassert_goes {R : Link → Prop} (s : State) : s.Goes R (execInhibitDeassert s) := by
  refine .next ?_
  split
  · exact .trans (.of_alike (by simp [State.Alike])) (State.grantMoment_runs _)
  · exact .of_alike (by simp [State.Alike])

theorem execTeardown_goes {R : Link → Prop} (s : State) : s.Goes R (execTeardown s) := by
  refine .next ?_
  split
  · rename_i sh hd
    have hs : s.engine.shot? = some sh := by
      unfold State.teardownDue at hd
      repeat' split at hd
      all_goals simp_all
    exact (State.tearDown_act hs).runs.trans (State.grantMoment_runs _)
  · exact .refl

/-- Every command but power-on reset begins with at most one load, free or request taken, and goes on with a run of acts. -/
theorem exec_goes {c : Instr} (h : c ≠ .powerOnReset) (s : State) : s.Goes (mayReset c) (exec c s) := by
  cases hp : frameParts c with
  | some p =>
    obtain ⟨l, k, tag, body⟩ := p
    rw [← runRequest_of_parts hp]
    refine runRequest_goes (fun hk => ?_) tag body
    cases c <;> cases hp <;> cases hk
    exact .inl ⟨_, rfl⟩
  | none =>
    cases c with
    | powerOnReset => exact absurd rfl h
    | badFrame l bytes => exact execBadFrame_goes s l bytes
    | grant => exact .next s.grantMoment_runs
    | trigEdge => exact execTrigEdge_goes s
    | mark => exact execMark_goes s
    | qualityExpiry => exact .next (by split; exacts [s.expire_runs, .refl])
    | clockWrap => exact .next (by split; exacts [.of_alike (by simp [State.Alike]), .refl])
    | inhibitAssert => exact execInhibitAssert_goes s
    | inhibitDeassert => exact execInhibitDeassert_goes s
    | contactRawEdge i level => exact .next (.of_alike (by simp [State.Alike]))
    | episodeEnd i => exact .next (.of_alike (by split <;> simp [State.Alike]))
    | moveComplete k => exact .next (.of_alike (by simp [State.Alike]))
    | readbackFrame frame => exact .next (.of_alike (by simp [State.Alike]))
    | sampleTick => exact .next s.runTick_runs
    | timeExit => exact .next (by split; exacts [s.engineWork_runs, .refl])
    | deferralEnd => exact .next (by split; exacts [s.engineWork_runs, .refl])
    | shotStart => exact .next (by split; exacts [s.engineWork_runs, .refl])
    | shotEnd => exact .next (by split; exacts [s.engineWork_runs, .refl])
    | visitClose => exact .next (.of_alike (by split <;> simp [State.Alike]))
    | teardown => exact execTeardown_goes s
    | deviationFault i => exact .next (s.deviationFault_runs i)
    | cutTakesEffect i => exact .next (s.laneEvent_runs _ _ fun t _ _ => by simp [State.Alike, State.cutLane])
    | cutLimit i => exact .next (s.laneEvent_runs _ _ fun t _ _ => by simp [State.Alike, State.cutLane])
    | reenergise i => exact .next (s.laneEvent_runs _ _ fun t sh run => by simp [State.Alike])
    | _ => cases hp

/-- A property of the tables, the requests and the place of the shot survives every step when power-on reset gives it, every beginning of
a command keeps it, and every act of the part does. -/
theorem step_induct {P : State → Prop} (hreset : P State.reset) (hbegins : ∀ s t : State, P s → s.Begins t → P t)
    (hact : ∀ (R : Link → Prop) (s t : State), P s → s.Act R t → P t) {s t : State} (hs : P s) (h : step s = .next t) :
    P t := by
  have halike : ∀ {s t : State}, P s → s.Alike t → P t := fun hs h =>
    (State.Runs.of_alike (R := fun _ => False) h).induct (hact _) hs
  have key : ∀ {c : Instr} {s t : State}, P s → exec c s = .next t → P t := by
    intro c s t hs h
    by_cases hc : c = .powerOnReset
    · subst hc
      cases h
      exact halike hreset ⟨rfl, rfl, rfl, rfl⟩
    · obtain ⟨u, hu, hr⟩ := exec_goes hc s t h
      exact hr.induct (hact _) (hbegins s u hs hu)
  unfold step State.idle at h
  repeat' split at h
  · rename_i c rest _
    have hs' : P { s with pending := rest } := halike hs ⟨rfl, rfl, rfl, rfl⟩
    exact key hs' h
  · exact key hs h
  · cases h
    exact halike hs (by simp [State.Alike])

end Sys2Proof.Machine
end

section
/-! SUPPORT. The lock counts of the Programme Tables (R2, R3, R18, R26, R40, R64): what each operation makes of a record's lock count, and
that every step keeps the counts equal to the number of requests that use each record. -/

namespace Sys2Proof.Machine

/-! ## What the operations make of a record -/

section
variable {α : Type}

theorem Rec.lock_lower {x : Rec α} {n : Nat} (h : x.lock = n + 1) : x.lower.lock = n := by
  match x, h with
  | .loaded none m c, h =>
    simp only [Rec.lock] at h
    subst h
    cases n <;> simp [Rec.lower, Rec.lock]
  | .loaded (some l) m c, h =>
    simp only [Rec.lock] at h
    simp [Rec.lower, Rec.lock, h]

@[simp] theorem Rec.lock_linkReset (l : Link) (x : Rec α) : (x.linkReset l).lock = x.lock := by
  unfold Rec.linkReset
  repeat' split
  all_goals simp_all [Rec.lock]

/-- A lock count lowered leaves no orphan with lock count 0 (R3). -/
@[simp] theorem Rec.isLooseOrphan_lower (x : Rec α) : x.lower.isLooseOrphan = false := by
  match x with
  | .free => rfl
  | .loaded (some l) n c => rfl
  | .loaded none n c =>
    match n with
    | 0 => rfl
    | 1 => rfl
    | n + 2 => simp [Rec.lower, Rec.isLooseOrphan]

@[simp] theorem Rec.isLooseOrphan_raise (x : Rec α) : x.raise.isLooseOrphan = false := by
  cases x <;> simp [Rec.raise, Rec.isLooseOrphan]

theorem Rec.isLooseOrphan_linkReset (l : Link) {x : Rec α} (h : x.isLooseOrphan = false) :
    (x.linkReset l).isLooseOrphan = false := by
  unfold Rec.linkReset
  repeat' split
  · rfl
  · simp_all [Rec.isLooseOrphan]
  · rfl
  · exact h

end

/-! ## What the operations make of the tables -/

theorem Tables.releaseFor_state (t : Tables) (r : Request) (i : Fin 64) :
    (t.releaseFor r).states[i] = if has r.reach i then (t.states[i]).lower else t.states[i] := by
  simp [Tables.releaseFor]

theorem Tables.releaseFor_profile (t : Tables) (r : Request) (i : Fin 4) :
    (t.releaseFor r).profiles[i] = if r.profile == i then (t.profiles[i]).lower else t.profiles[i] := by
  by_cases h : i = r.profile
  · subst h; simp [Tables.releaseFor]
  · simp [Tables.releaseFor, h, Ne.symm h]

theorem Tables.lockFor_state (t : Tables) (r : Request) (i : Fin 64) :
    (t.lockFor r).states[i] = if has r.reach i then (t.states[i]).raise else t.states[i] := by
  simp [Tables.lockFor]

theorem Tables.lockFor_profile (t : Tables) (r : Request) (i : Fin 4) :
    (t.lockFor r).profiles[i] = if r.profile == i then (t.profiles[i]).raise else t.profiles[i] := by
  by_cases h : i = r.profile
  · subst h; simp [Tables.lockFor]
  · simp [Tables.lockFor, h, Ne.symm h]

theorem Tables.linkReset_state (t : Tables) (l : Link) (i : Fin 64) :
    (t.linkReset l).states[i] = (t.states[i]).linkReset l := by
  simp [Tables.linkReset]

theorem Tables.linkReset_profile (t : Tables) (l : Link) (i : Fin 4) :
    (t.linkReset l).profiles[i] = (t.profiles[i]).linkReset l := by
  simp [Tables.linkReset]

theorem State.setEntry_state (s : State) (i j : Fin 64) (x : Rec StateEntry) :
    (s.setEntry i x).tables.states[j] = if j = i then x else s.tables.states[j] := by
  by_cases h : j = i
  · subst h; simp [State.setEntry]
  · simp [State.setEntry, h, Vector.getElem_set_ne, Fin.val_inj, Ne.symm h]

@[simp] theorem State.setEntry_profiles (s : State) (i : Fin 64) (x : Rec StateEntry) :
    (s.setEntry i x).tables.profiles = s.tables.profiles := rfl

theorem State.setProfile_profile (s : State) (i j : Fin 4) (x : Rec Profile) :
    (s.setProfile i x).tables.profiles[j] = if j = i then x else s.tables.profiles[j] := by
  by_cases h : j = i
  · subst h; simp [State.setProfile]
  · simp [State.setProfile, h, Vector.getElem_set_ne, Fin.val_inj, Ne.symm h]

@[simp] theorem State.setProfile_states (s : State) (i : Fin 4) (x : Rec Profile) :
    (s.setProfile i x).tables.states = s.tables.states := rfl

@[simp] theorem State.enqueue_tables (s : State) (r : Request) : (s.enqueue r).tables = s.tables.lockFor r := by
  simp only [State.enqueue]

/-! ## The claims at each beginning and act -/

@[simp] theorem State.setEntry_claims (s : State) (i : Fin 64) (x : Rec StateEntry) : (s.setEntry i x).claims = s.claims :=
  State.claims_of_eq rfl rfl

@[simp] theorem State.setProfile_claims (s : State) (i : Fin 4) (x : Rec Profile) : (s.setProfile i x).claims = s.claims :=
  State.claims_of_eq rfl rfl

/-- A request that joins the queue adds its claim (R26). -/
theorem State.enqueue_claims (s : State) (r : Request) : (s.enqueue r).claims.Perm (r.claim :: s.claims) := by
  have hp : (s.enqueue r).requests.Perm (r :: s.requests) := by
    simp only [State.requests, State.enqueue, List.append_assoc, List.singleton_append]
    exact List.perm_middle
  exact hp.map Request.claim

/-- Lock counts in the terms of the claims (R2). -/
theorem State.locksCounted_iff {s : State} : s.LocksCounted ↔
    (∀ i : Fin 64, (s.tables.states[i]).lock = s.claims.countP fun c => has c.reach i) ∧
      ∀ i : Fin 4, (s.tables.profiles[i]).lock = s.claims.countP fun c => c.profile == i := by
  simp only [State.LocksCounted, State.claims, List.countP_map, Function.comp_def, Request.claim_reach,
    Request.claim_profile]

theorem State.completeRequest_reach (s : State) (r : Request) : (s.completeRequest r).reach = s.reachable r.start := by
  simp only [State.completeRequest]

theorem State.completeRequest_start (s : State) (r : Request) : (s.completeRequest r).start = r.start := by
  simp only [State.completeRequest]

theorem State.completeRequest_profile (s : State) (r : Request) : (s.completeRequest r).profile = r.profile := by
  simp only [State.completeRequest]

/-- A submit that passes every check finds each state it reaches LOADED and held by the submitter (R23 stage 5). -/
theorem State.loaded_of_submit {s : State} {l : Link} {r : Request} (h : s.submitDenial l r = none) :
    (∀ i : Fin 64, has (s.reachable r.start) i = true → ∃ n e, s.tables.states[i] = .loaded (some l) n e) ∧
      ∃ n p, s.tables.profiles[r.profile] = .loaded (some l) n p := by
  have of_denial : ∀ {α : Type} {n : Nat} {x : Rec α}, x.submitDenial l n = none → ∃ n c, x = .loaded (some l) n c := by
    intro α n x hx
    unfold Rec.submitDenial at hx
    repeat' split at hx
    · cases hx
    · rename_i m c hl; exact ⟨m, c, by rw [hl]⟩
    · cases hx
  unfold State.submitDenial at h
  repeat' split at h
  all_goals try cases h
  rename_i hprof _ hstates _ _ _
  exact ⟨fun i hi => of_denial (List.findSome?_eq_none_iff.1 hstates i (mem_members.2 hi)), of_denial hprof⟩

/-! ## Every step keeps the lock counts -/

/-- A record's lock count follows the claims that a release takes away (R3, R40, R64). -/
theorem Rec.lock_release {α : Type} {x : Rec α} {p : Claim → Bool} {c : Claim} {cs ds : List Claim} (h : x.lock = cs.countP p)
    (hp : cs.Perm (c :: ds)) : (if p c then x.lower else x).lock = ds.countP p := by
  rw [hp.countP_eq p, List.countP_cons] at h
  split at h
  · rename_i hc
    rw [if_pos hc]
    exact Rec.lock_lower h
  · rename_i hc
    rw [if_neg hc]
    exact h

/-- A LOADED record's lock count follows the claim that a submit adds (R26). -/
theorem Rec.lock_take {α : Type} {x : Rec α} {p : Claim → Bool} {c : Claim} {cs ds : List Claim} (h : x.lock = cs.countP p)
    (hp : ds.Perm (c :: cs)) (hl : p c = true → x ≠ .free) : (if p c then x.raise else x).lock = ds.countP p := by
  rw [hp.countP_eq p, List.countP_cons, ← h]
  split
  · rename_i hc
    cases x with
    | free => exact absurd rfl (hl hc)
    | loaded h n e => rfl
  · rfl

theorem State.LocksCounted.act {R : Link → Prop} {s t : State} (hs : s.LocksCounted) (h : s.Act R t) : t.LocksCounted := by
  obtain ⟨hstate, hprofile⟩ := State.locksCounted_iff.1 hs
  refine State.locksCounted_iff.2 ?_
  cases h with
  | keep tables claims _ =>
    rw [tables]
    exact ⟨fun i => (hstate i).trans (claims.countP_eq _).symm, fun i => (hprofile i).trans (claims.countP_eq _).symm⟩
  | release r tables claims _ =>
    rw [tables]
    refine ⟨fun i => ?_, fun i => ?_⟩
    · rw [Tables.releaseFor_state]
      exact Rec.lock_release (p := fun c => has c.reach i) (hstate i) claims
    · rw [Tables.releaseFor_profile]
      exact Rec.lock_release (p := fun c => c.profile == i) (hprofile i) claims
  | orphan l _ tables claims _ =>
    rw [tables, claims]
    exact ⟨fun i => by rw [Tables.linkReset_state, Rec.lock_linkReset, hstate],
      fun i => by rw [Tables.linkReset_profile, Rec.lock_linkReset, hprofile]⟩

theorem State.LocksCounted.begins {s t : State} (hs : s.LocksCounted) (h : s.Begins t) : t.LocksCounted := by
  obtain ⟨hstate, hprofile⟩ := State.locksCounted_iff.1 hs
  refine State.locksCounted_iff.2 ?_
  cases h with
  | nothing eq => subst eq; exact ⟨hstate, hprofile⟩
  | loadState l i body unlocked _ eq =>
    subst eq
    refine ⟨fun j => ?_, by simpa only [State.setEntry_profiles, State.setEntry_claims] using hprofile⟩
    rw [State.setEntry_state, State.setEntry_claims, ← hstate j]
    split
    · rename_i hj; rw [hj, unlocked]; rfl
    · rfl
  | freeState i unlocked eq =>
    subst eq
    refine ⟨fun j => ?_, by simpa only [State.setEntry_profiles, State.setEntry_claims] using hprofile⟩
    rw [State.setEntry_state, State.setEntry_claims, ← hstate j]
    split
    · rename_i hj; rw [hj, unlocked]; rfl
    · rfl
  | loadProfile l i body unlocked _ eq =>
    subst eq
    refine ⟨by simpa only [State.setProfile_states, State.setProfile_claims] using hstate, fun j => ?_⟩
    rw [State.setProfile_profile, State.setProfile_claims, ← hprofile j]
    split
    · rename_i hj; rw [hj, unlocked]; rfl
    · rfl
  | freeProfile i unlocked eq =>
    subst eq
    refine ⟨by simpa only [State.setProfile_states, State.setProfile_claims] using hstate, fun j => ?_⟩
    rw [State.setProfile_profile, State.setProfile_claims, ← hprofile j]
    split
    · rename_i hj; rw [hj, unlocked]; rfl
    · rfl
  | take l r passes eq =>
    subst eq
    obtain ⟨hreach, n, p, hp⟩ := State.loaded_of_submit passes
    rw [← State.completeRequest_reach] at hreach
    have hq := s.completeRequest_profile r
    generalize s.completeRequest r = q at hreach hq
    have hc := s.enqueue_claims q
    refine ⟨fun i => ?_, fun i => ?_⟩
    · rw [State.enqueue_tables, Tables.lockFor_state]
      refine Rec.lock_take (p := fun c => has c.reach i) (hstate i) hc fun hi => ?_
      obtain ⟨n, e, he⟩ := hreach i hi
      rw [he]
      exact fun h => by cases h
    · rw [State.enqueue_tables, Tables.lockFor_profile]
      refine Rec.lock_take (p := fun c => c.profile == i) (hprofile i) hc fun hi => ?_
      obtain rfl : r.profile = i := hq.symm.trans (eq_of_beq hi)
      rw [hp]
      exact fun h => by cases h

theorem State.OrphansLocked.act {R : Link → Prop} {s t : State} (hs : s.OrphansLocked) (h : s.Act R t) : t.OrphansLocked := by
  obtain ⟨hstate, hprofile⟩ := hs
  cases h with
  | keep tables _ _ => rw [State.OrphansLocked, tables]; exact ⟨hstate, hprofile⟩
  | release r tables _ _ =>
    rw [State.OrphansLocked, tables]
    refine ⟨fun i => ?_, fun i => ?_⟩
    · rw [Tables.releaseFor_state]; split; exacts [Rec.isLooseOrphan_lower _, hstate i]
    · rw [Tables.releaseFor_profile]; split; exacts [Rec.isLooseOrphan_lower _, hprofile i]
  | orphan l _ tables _ _ =>
    rw [State.OrphansLocked, tables]
    exact ⟨fun i => by rw [Tables.linkReset_state]; exact Rec.isLooseOrphan_linkReset l (hstate i),
      fun i => by rw [Tables.linkReset_profile]; exact Rec.isLooseOrphan_linkReset l (hprofile i)⟩

theorem State.OrphansLocked.begins {s t : State} (hs : s.OrphansLocked) (h : s.Begins t) : t.OrphansLocked := by
  obtain ⟨hstate, hprofile⟩ := hs
  cases h with
  | nothing eq => subst eq; exact ⟨hstate, hprofile⟩
  | loadState l i body _ _ eq =>
    subst eq
    refine ⟨fun j => ?_, hprofile⟩
    rw [State.setEntry_state]
    split
    · rfl
    · exact hstate j
  | freeState i _ eq =>
    subst eq
    refine ⟨fun j => ?_, hprofile⟩
    rw [State.setEntry_state]
    split
    · rfl
    · exact hstate j
  | loadProfile l i body _ _ eq =>
    subst eq
    refine ⟨hstate, fun j => ?_⟩
    rw [State.setProfile_profile]
    split
    · rfl
    · exact hprofile j
  | freeProfile i _ eq =>
    subst eq
    refine ⟨hstate, fun j => ?_⟩
    rw [State.setProfile_profile]
    split
    · rfl
    · exact hprofile j
  | take l r _ eq =>
    subst eq
    refine ⟨fun i => ?_, fun i => ?_⟩
    · rw [State.enqueue_tables, Tables.lockFor_state]; split; exacts [Rec.isLooseOrphan_raise _, hstate i]
    · rw [State.enqueue_tables, Tables.lockFor_profile]; split; exacts [Rec.isLooseOrphan_raise _, hprofile i]

@[simp] theorem State.reset_state (i : Fin 64) : State.reset.tables.states[i] = .free := by simp [State.reset]

@[simp] theorem State.reset_profile (i : Fin 4) : State.reset.tables.profiles[i] = .free := by simp [State.reset]

theorem State.reset_locksCounted : State.reset.LocksCounted :=
  ⟨fun i => by rw [State.reset_state]; rfl, fun i => by rw [State.reset_profile]; rfl⟩

theorem State.reset_orphansLocked : State.reset.OrphansLocked :=
  ⟨fun i => by rw [State.reset_state]; rfl, fun i => by rw [State.reset_profile]; rfl⟩

/-- Settles O16: the claims of the requests and the lock counts rise and fall together at every beginning of a command and every act. -/
theorem stepsKeepLockCounts : Obligations.StepsKeepLockCounts := by
  intro s t hl ho h
  exact ⟨step_induct State.reset_locksCounted (fun _ _ => .begins) (fun _ _ _ => .act) hl h,
    step_induct State.reset_orphansLocked (fun _ _ => .begins) (fun _ _ _ => .act) ho h⟩

end Sys2Proof.Machine
end

section
/-! SUPPORT. The running shot within the states it locked (R2, R20, R24): the reachability walk gives a set closed under the stored exits,
no later command adds an exit to a state of it, and the shot moves along exits only. -/

namespace Sys2Proof.Machine

/-! ## The reachability walk (R24) -/

theorem State.mem_targets {s : State} {a b : Fin 64} : b ∈ s.targets a ↔ s.leads a b := by
  unfold State.targets State.leads
  simp only [List.mem_filterMap]
  refine exists_congr fun e => and_congr_right fun _ => ?_
  cases e.target <;> simp

/-- The exits of the states that a walk has not yet looked at. -/
def State.unseen (s : State) (seen : StateSet) : Nat := ∑ i : Fin 64, if has seen i then 0 else (s.targets i).length

/-- A state looked at takes its exits off what is still to come. -/
theorem State.unseen_including {s : State} {seen : StateSet} {i : Fin 64} (h : has seen i = false) :
    s.unseen seen = s.unseen (including seen i) + (s.targets i).length := by
  have hsplit : ∀ j : Fin 64, (if has seen j then 0 else (s.targets j).length) =
      (if has (including seen i) j then 0 else (s.targets j).length) + if j = i then (s.targets i).length else 0 := by
    intro j
    by_cases hj : j = i
    · subst hj; simp [h]
    · simp [hj]
  simp only [State.unseen, hsplit, Finset.sum_add_distrib, Finset.sum_ite_eq', Finset.mem_univ, if_true]

theorem State.walkFuel_eq (s : State) : s.walkFuel = 1 + s.unseen 0 := by
  simp [State.walkFuel, State.unseen, Fin.sum_univ_def]

/-- A walk with turns enough for its list and the exits still to come keeps what it has seen, looks at its whole list, and ends with a set
that every exit of it stays in (R24). -/
theorem State.walk_spec (s : State) : ∀ (fuel : Nat) (todo : List (Fin 64)) (seen : StateSet),
    todo.length + s.unseen seen ≤ fuel →
    (∀ a b, has seen a = true → s.leads a b → has seen b = true ∨ b ∈ todo) →
    (∀ a, has seen a = true ∨ a ∈ todo → has (s.walk fuel todo seen) a = true) ∧
      ∀ a b, has (s.walk fuel todo seen) a = true → s.leads a b → has (s.walk fuel todo seen) b = true := by
  intro fuel
  induction fuel with
  | zero =>
    intro todo seen hfuel hclosed
    obtain rfl : todo = [] := List.length_eq_zero_iff.1 (by omega)
    exact ⟨fun a ha => by simpa [State.walk] using ha, fun a b ha hl => by simpa [State.walk] using hclosed a b ha hl⟩
  | succ fuel ih =>
    intro todo seen hfuel hclosed
    cases todo with
    | nil => exact ⟨fun a ha => by simpa [State.walk] using ha, fun a b ha hl => by simpa [State.walk] using hclosed a b ha hl⟩
    | cons i rest =>
      rw [List.length_cons] at hfuel
      unfold State.walk
      split
      · rename_i hi
        obtain ⟨hkeeps, hends⟩ := ih rest seen (by omega) fun a b ha hl => by
          rcases hclosed a b ha hl with hb | hb
          · exact .inl hb
          · rcases List.mem_cons.1 hb with rfl | hb
            · exact .inl hi
            · exact .inr hb
        refine ⟨fun a ha => hkeeps a ?_, hends⟩
        rcases ha with ha | ha
        · exact .inl ha
        · rcases List.mem_cons.1 ha with rfl | ha
          · exact .inl hi
          · exact .inr ha
      · rename_i hi
        have hnew := s.unseen_including (Bool.eq_false_iff.2 hi)
        obtain ⟨hkeeps, hends⟩ := ih (s.targets i ++ rest) (including seen i)
            (by rw [List.length_append]; omega) fun a b ha hl => by
          rw [has_including, Bool.or_eq_true, beq_iff_eq] at ha
          rw [has_including, Bool.or_eq_true, beq_iff_eq, List.mem_append]
          rcases ha with rfl | ha
          · exact .inr (.inl (State.mem_targets.2 hl))
          · rcases hclosed a b ha hl with hb | hb
            · exact .inl (.inr hb)
            · rcases List.mem_cons.1 hb with rfl | hb
              · exact .inl (.inl rfl)
              · exact .inr (.inr hb)
        refine ⟨fun a ha => hkeeps a ?_, hends⟩
        rw [has_including, Bool.or_eq_true, beq_iff_eq, List.mem_append]
        rcases ha with ha | ha
        · exact .inl (.inr ha)
        · rcases List.mem_cons.1 ha with rfl | ha
          · exact .inl (.inl rfl)
          · exact .inr (.inr ha)

/-- The reachable set holds the start state and every state that an exit of it leads to (R24). -/
theorem State.reachable_closed (s : State) (start : Fin 64) : has (s.reachable start) start = true ∧
    ∀ a b, has (s.reachable start) a = true → s.leads a b → has (s.reachable start) b = true := by
  obtain ⟨hkeeps, hends⟩ := s.walk_spec s.walkFuel [start] 0 (by rw [State.walkFuel_eq]; simp)
    fun a b ha _ => by simp at ha
  exact ⟨hkeeps start (.inr List.mem_cons_self), hends⟩

/-! ## Exits stored in the tables -/

/-- No operation on a lock count or a holder adds an exit to a record. -/
theorem Rec.exits_lower {x : Rec StateEntry} {e : Exit} (h : e ∈ x.lower.entry.exits) : e ∈ x.entry.exits := by
  unfold Rec.lower at h
  repeat' split at h
  all_goals first
    | exact h
    | cases h

theorem Rec.exits_linkReset {l : Link} {x : Rec StateEntry} {e : Exit} (h : e ∈ (x.linkReset l).entry.exits) :
    e ∈ x.entry.exits := by
  unfold Rec.linkReset at h
  repeat' split at h
  all_goals first
    | exact h
    | cases h

@[simp] theorem Rec.entry_raise (x : Rec StateEntry) : x.raise.entry = x.entry := by cases x <;> rfl

/-- An act adds no exit to a stored entry (R2). -/
theorem State.Act.leads {R : Link → Prop} {s t : State} (h : s.Act R t) {a b : Fin 64} (hl : t.leads a b) : s.leads a b := by
  obtain ⟨e, he, ht⟩ := hl
  refine ⟨e, ?_, ht⟩
  unfold State.entry at he ⊢
  cases h with
  | keep tables _ _ => rwa [tables] at he
  | release r tables _ _ =>
    rw [tables, Tables.releaseFor_state] at he
    split at he
    · exact Rec.exits_lower he
    · exact he
  | orphan l _ tables _ _ =>
    rw [tables, Tables.linkReset_state] at he
    exact Rec.exits_linkReset he

/-- An act adds no claim. -/
theorem State.Act.claims_subset {R : Link → Prop} {s t : State} (h : s.Act R t) {c : Claim} (hc : c ∈ t.claims) :
    c ∈ s.claims := by
  cases h with
  | keep _ claims _ => exact claims.subset hc
  | release r _ claims _ => exact claims.symm.subset (List.mem_cons_of_mem _ hc)
  | orphan l _ _ claims _ => rwa [claims] at hc

/-! ## The shot stays in its reach -/

/-- A claim's reachable set holds its start state and is closed under the exits stored (R24). -/
def State.Closed (s : State) (c : Claim) : Prop :=
  has c.reach c.start = true ∧ ∀ a b : Fin 64, has c.reach a = true → s.leads a b → has c.reach b = true

theorem State.Closed.mono {s t : State} {c : Claim} (h : s.Closed c)
    (hl : ∀ a b, has c.reach a = true → t.leads a b → s.leads a b) : t.Closed c :=
  ⟨h.1, fun a b ha hab => h.2 a b ha (hl a b ha hab)⟩

/-- The place of the shot lies in its reachable set (R24, R51, R56). -/
def State.Placed (s : State) : Prop :=
  ∀ sh a d, s.engine.shot? = some sh → s.engine.place = some (a, d) →
    has sh.req.reach a = true ∧ ∀ b, d = some b → has sh.req.reach b = true

theorem State.inReach_iff {s : State} : s.engine.InReach ↔ s.Placed := by
  unfold State.Placed
  cases s.engine with
  | running sh run =>
    constructor
    · rintro ⟨hin, hd⟩ sh' a d hs hp
      cases hs
      cases hp
      refine ⟨hin, fun b hb => ?_⟩
      obtain ⟨x, hx, rfl⟩ := Option.map_eq_some_iff.1 hb
      exact hd x hx
    · intro h
      obtain ⟨hin, hd⟩ := h sh _ _ rfl rfl
      exact ⟨hin, fun d hdm => hd d.target (by rw [Option.mem_def.1 hdm]; rfl)⟩
  | _ => exact ⟨fun _ _ _ _ _ hp => (by cases hp), fun _ => trivial⟩

/-- The statement's property in the terms of the claims and the place of the shot. -/
theorem State.staysInReach_iff {s : State} : s.StaysInReach ↔ (∀ c ∈ s.claims, s.Closed c) ∧ s.Placed := by
  unfold State.StaysInReach
  rw [State.inReach_iff, State.claims, List.forall_mem_map]
  rfl

theorem State.claim_mem_of_shot {s : State} {sh : Shot} (h : s.engine.shot? = some sh) : sh.req.claim ∈ s.claims := by
  rw [State.claims, State.requests_of_shot h]
  simp

/-- A shot that is in its reach, with the exits closed, may get only to states of its reach. -/
theorem State.MayReach.reach {s : State} {sh : Shot} {a : Fin 64} (h : s.MayReach sh a) (hc : s.Closed sh.req.claim)
    (hp : s.Placed) (hs : s.engine.shot? = some sh) : has sh.req.reach a = true := by
  rcases h with rfl | ⟨b, d, hbd, rfl | hd | hl⟩
  · exact hc.1
  · exact (hp sh _ d hs hbd).1
  · exact (hp sh b d hs hbd).2 a hd
  · exact hc.2 b a (hp sh b d hs hbd).1 hl

theorem State.StaysInReach.act {R : Link → Prop} {s t : State} (hs : s.StaysInReach) (h : s.Act R t) : t.StaysInReach := by
  obtain ⟨hclosed, hplaced⟩ := State.staysInReach_iff.1 hs
  have hfollows : s.Follows t := by
    cases h with
    | keep _ _ follows => exact follows
    | release _ _ _ follows => exact follows
    | orphan _ _ _ _ follows => exact follows
  refine State.staysInReach_iff.2 ⟨fun c hc => (hclosed c (h.claims_subset hc)).mono fun _ _ _ => h.leads, ?_⟩
  intro sh a d ht hp
  obtain ⟨hshot, ha, hd⟩ := hfollows sh a d ht hp
  have hcl := hclosed _ (State.claim_mem_of_shot hshot)
  exact ⟨ha.reach hcl hplaced hshot, fun b hb => (hd b hb).reach hcl hplaced hshot⟩

@[simp] theorem State.enqueue_entry (s : State) (r : Request) (i : Fin 64) :
    (((s.enqueue r).tables.states[i]).entry) = (s.tables.states[i]).entry := by
  rw [State.enqueue_tables, Tables.lockFor_state]
  split
  · rw [Rec.entry_raise]
  · rfl

theorem State.enqueue_leads {s : State} {r : Request} {a b : Fin 64} (h : (s.enqueue r).leads a b) : s.leads a b := by
  unfold State.leads State.entry at h ⊢
  rwa [State.enqueue_entry] at h

/-- A beginning leaves the exits of every state that a request reaches, lock counts being right (R2). -/
theorem State.Begins.leads {s t : State} (h : s.Begins t) (hs : s.LocksCounted) {c : Claim} (hc : c ∈ s.claims)
    {a b : Fin 64} (ha : has c.reach a = true) (hl : t.leads a b) : s.leads a b := by
  have unlocked_ne : ∀ i : Fin 64, (s.tables.states[i]).lock = 0 → a ≠ i := by
    rintro i hi rfl
    rw [(State.locksCounted_iff.1 hs).1 a, List.countP_eq_zero] at hi
    exact hi c hc ha
  obtain ⟨e, he, ht⟩ := hl
  refine ⟨e, ?_, ht⟩
  unfold State.entry at he ⊢
  cases h with
  | nothing eq => subst eq; exact he
  | loadState l i body unlocked _ eq =>
    subst eq
    rwa [State.setEntry_state, if_neg (unlocked_ne i unlocked)] at he
  | freeState i unlocked eq =>
    subst eq
    rwa [State.setEntry_state, if_neg (unlocked_ne i unlocked)] at he
  | loadProfile l i body _ _ eq => subst eq; exact he
  | freeProfile i _ eq => subst eq; exact he
  | take l r _ eq =>
    subst eq
    rwa [State.enqueue_entry] at he

/-- A beginning leaves the engine as it is. -/
theorem State.Begins.engine {s t : State} (h : s.Begins t) : t.engine = s.engine := by
  cases h with
  | take l r _ eq => subst eq; exact State.enqueue_engine _ _
  | _ => rename_i eq; subst eq; rfl

/-- The claims after a beginning are those before it, but for a request that is taken: its reachable set is closed (R24, R26). -/
theorem State.Begins.claims {s t : State} (h : s.Begins t) {c : Claim} (hc : c ∈ t.claims) :
    c ∈ s.claims ∨ t.Closed c := by
  cases h with
  | nothing eq => subst eq; exact .inl hc
  | loadState l i body _ _ eq => subst eq; rw [State.setEntry_claims] at hc; exact .inl hc
  | freeState i _ eq => subst eq; rw [State.setEntry_claims] at hc; exact .inl hc
  | loadProfile l i body _ _ eq => subst eq; rw [State.setProfile_claims] at hc; exact .inl hc
  | freeProfile i _ eq => subst eq; rw [State.setProfile_claims] at hc; exact .inl hc
  | take l r _ eq =>
    subst eq
    have hclosed := s.reachable_closed r.start
    rw [← State.completeRequest_reach] at hclosed
    have hstart := s.completeRequest_start r
    generalize s.completeRequest r = q at hc hclosed hstart
    rcases List.mem_cons.1 ((s.enqueue_claims q).subset hc) with rfl | hc
    · exact .inr ⟨by rw [Request.claim_start, hstart]; exact hclosed.1, fun a b ha hl => hclosed.2 a b ha (State.enqueue_leads hl)⟩
    · exact .inl hc

theorem State.StaysInReach.begins {s t : State} (hs : s.StaysInReach) (hl : s.LocksCounted) (h : s.Begins t) :
    t.StaysInReach := by
  obtain ⟨hclosed, hplaced⟩ := State.staysInReach_iff.1 hs
  refine State.staysInReach_iff.2 ⟨fun c hc => ?_, ?_⟩
  · rcases h.claims hc with hc | hc
    · exact (hclosed c hc).mono fun a b ha => h.leads hl hc ha
    · exact hc
  · unfold State.Placed
    rw [h.engine]
    exact hplaced

theorem State.reset_staysInReach : State.reset.StaysInReach := ⟨fun r hr => (by cases hr), trivial⟩

/-- Settles O39: a request's set is closed when it is taken, a locked entry stands while it is used, and the shot moves along exits. -/
theorem stepsKeepTheShotInItsReach : Obligations.StepsKeepTheShotInItsReach := by
  intro s t hl hs h
  have hboth : t.LocksCounted ∧ t.StaysInReach :=
    step_induct (P := fun s => s.LocksCounted ∧ s.StaysInReach)
      ⟨State.reset_locksCounted, State.reset_staysInReach⟩
      (fun _ _ hs hb => ⟨hs.1.begins hb, hs.2.begins hs.1 hb⟩) (fun _ _ _ hs ha => ⟨hs.1.act ha, hs.2.act ha⟩) ⟨hl, hs⟩ h
  exact hboth.2

end Sys2Proof.Machine
end

section
/-! SUPPORT. The contents checks of the records, said once: what a body that passes them spells is legal (R4 to R11), and so every step
keeps every LOADED record legal. -/

namespace Sys2Proof.Machine

/-! ## Checks in a row (R13) -/

@[simp] theorem failsAt_eq_none {n : Nat} {b : Bool} : failsAt n b = none ↔ b = false := by cases b <;> simp [failsAt]

@[simp] theorem firstBad_nil : firstBad [] = none := rfl

/-- A row of checks passes when each does. -/
@[simp] theorem firstBad_cons {c : Option Nat} {cs : List (Option Nat)} :
    firstBad (c :: cs) = none ↔ c = none ∧ firstBad cs = none := by
  cases c <;> simp [firstBad]

theorem firstBadSlot_eq_none {n : Nat} {bad : Nat → Option Nat} : firstBadSlot n bad = none ↔ ∀ k, k < n → bad k = none := by
  simp [firstBadSlot]

/-- The first of the records of a layout that fails is none when none does. -/
theorem findSome?_finRange_eq_none {n : Nat} {bad : Fin n → Option Nat} :
    ((List.finRange n).findSome? fun i => (bad i).map fun f => (i, f)) = none ↔ ∀ i, bad i = none := by
  simp

theorem ofLeBytes_lt (bs : List Byte) : ofLeBytes bs < 256 ^ bs.length := by
  induction bs with
  | nil => simp [ofLeBytes]
  | cons b bs ih =>
    have hb := b.isLt
    rw [ofLeBytes, List.length_cons, Nat.pow_succ]
    omega

/-- A field of `n` bytes holds less than 256ⁿ (R183). -/
theorem field_lt (body : List Byte) (at_ n : Nat) : field body at_ n < 256 ^ n :=
  (ofLeBytes_lt _).trans_le (Nat.pow_le_pow_right (by decide) (by simp))

/-! ## The state entry layout (R4 to R8) -/

theorem LaneSetting.bad_eq_none {x : LaneSetting} {i : Fin 12} : x.bad i = none ↔ x.Legal i := by
  simp only [LaneSetting.bad, firstBad_cons, failsAt_eq_none, decide_eq_false_iff_not, not_lt, firstBad_nil, and_true]
  rfl

/-- A state entry body passes when its length fits its counts and every record of it passes (R12, R13). -/
theorem stateBad_eq_none {body : List Byte} : stateBad body = none ↔
    body.length = stateLength body ∧ (∀ i, (readLane body i).bad i = none) ∧ powBad body = none ∧
      exitCountBad body = false ∧ (∀ n, n < exitCount body → exitBad body (exitsAt + 6 * n) = none) ∧
      assessCount body ≤ 4 ∧ ∀ n, n < assessCount body → assessBad body (assessAt body + 12 * n) = none := by
  rw [← findSome?_finRange_eq_none, ← firstBadSlot_eq_none (bad := fun n => exitBad body (exitsAt + 6 * n)),
    ← firstBadSlot_eq_none (bad := fun n => assessBad body (assessAt body + 12 * n))]
  unfold stateBad
  constructor
  · intro h
    repeat' split at h
    all_goals cases h
    rename_i hlen _ hlanes _ hpow hcount _ hexits hassess _ hrecords
    exact ⟨by simpa using hlen, hlanes, hpow, by simpa using hcount, hexits, by omega, hrecords⟩
  · rintro ⟨hlen, hlanes, hpow, hcount, hexits, hassess, hrecords⟩
    rw [if_neg (by simpa using hlen), hlanes, hpow, hcount, hexits, hrecords]
    simp [hassess]

/-- The kind of an exit record that passes is legal (R7). -/
theorem readExitKind_legal {body : List Byte} {at_ : Nat} (h : exitBad body at_ = none) : (readExitKind body at_).Legal := by
  have hparam : exitParamBad body at_ = none := by
    simp only [exitBad, firstBad_cons] at h
    exact h.2.1
  have mask_ne : ∀ {v : Nat}, v < 256 ^ 2 → (v == 0) = false → BitVec.ofNat 16 v ≠ 0 := by
    intro v hv h0 hz
    have := congrArg BitVec.toNat hz
    simp only [BitVec.toNat_ofNat, BitVec.ofNat_eq_ofNat] at this
    simp only [beq_eq_false_iff_ne] at h0
    omega
  unfold readExitKind
  unfold exitParamBad at hparam
  split at hparam
  case h_1 =>
    simp only [failsAt_eq_none, Bool.or_eq_false_iff, decide_eq_false_iff_not, not_lt] at hparam
    exact hparam
  case h_2 =>
    simp only [firstBad_cons, failsAt_eq_none] at hparam
    exact mask_ne (field_lt body _ 2) hparam.1
  case h_3 =>
    exact mask_ne (field_lt body _ 2) (failsAt_eq_none.1 hparam)
  all_goals trivial

/-- An assessment record that passes is legal (R8). -/
theorem readAssessment_legal {body : List Byte} {at_ : Nat} (h : assessBad body at_ = none) :
    (readAssessment body at_).Legal := by
  simp only [assessBad, firstBad_cons, failsAt_eq_none, firstBad_nil, and_true, decide_eq_false_iff_not, not_lt,
    Bool.and_eq_false_iff] at h
  obtain ⟨_, _, _, hmode, hlow, hhigh, horder⟩ := h
  refine ⟨hlow, hhigh, fun hm => ?_⟩
  simp only [readAssessment] at hm ⊢
  rcases horder with hsmall | horder
  · have h01 : field body (at_ + 3) 1 = 0 ∨ field body (at_ + 3) 1 = 1 := by omega
    rcases h01 with h0 | h1
    · simp [h0, compareMode] at hm
    · simp [h1, compareMode] at hm
  · exact horder

/-- A state entry body that passes the checks of R4 to R8 spells a legal entry. -/
theorem readState_legal {body : List Byte} (h : stateBad body = none) : (readState body).Legal := by
  obtain ⟨_, hlanes, hpow, hcount, hexits, hassess, hrecords⟩ := stateBad_eq_none.1 h
  simp only [exitCountBad, Bool.or_eq_false_iff, beq_eq_false_iff_ne, decide_eq_false_iff_not, not_lt] at hcount
  refine ⟨Nat.le_of_lt_succ (field_lt body 1 2), fun i => ?_, fun p hp => ?_, ?_, ?_, fun x hx => ?_, ?_, fun a ha => ?_⟩
  · simpa [readState] using LaneSetting.bad_eq_none.1 (hlanes i)
  · simp only [readState, readPow] at hp
    split at hp
    · rename_i hpres
      obtain ⟨i, _, rfl⟩ := Option.map_eq_some_iff.1 hp
      rw [powBad, if_pos hpres] at hpow
      have hangle := (firstBad_cons.1 (firstBad_cons.1 hpow).2).1
      simp only [failsAt_eq_none, decide_eq_false_iff_not, not_lt] at hangle
      exact hangle
    · cases hp
  · simp only [readState, List.length_map, List.length_range]; omega
  · simp only [readState, List.length_map, List.length_range]; omega
  · simp only [readState, List.mem_map, List.mem_range] at hx
    obtain ⟨n, hn, rfl⟩ := hx
    exact readExitKind_legal (hexits n hn)
  · simpa [readState] using hassess
  · simp only [readState, List.mem_map, List.mem_range] at ha
    obtain ⟨n, hn, rfl⟩ := ha
    exact readAssessment_legal (hrecords n hn)

/-! ## The rig profile layout (R9 to R11) -/

/-- A profile body passes when every record of it does (R12). -/
theorem profileBad_eq_none {body : List Byte} : profileBad body = none ↔
    (∀ i, inputBad body i = none) ∧ (∀ k, breakerBad body k = none) ∧ ∀ i, readStep body i ≤ Config.laneMax i := by
  have hsteps : (lowest fun i => decide (Config.laneMax i < readStep body i)) = none ↔
      ∀ i, readStep body i ≤ Config.laneMax i := by simp [lowest_eq_none]
  rw [← findSome?_finRange_eq_none, ← findSome?_finRange_eq_none (bad := breakerBad body), ← hsteps]
  unfold profileBad
  constructor
  · intro h
    repeat' split at h
    all_goals try cases h
    rename_i _ hinputs _ hbreakers
    exact ⟨hinputs, hbreakers, Option.eq_none_iff_forall_ne_some.2 (by simpa using h)⟩
  · rintro ⟨hinputs, hbreakers, hs⟩
    simp [hinputs, hbreakers, hs]

theorem inputBad_eq_none {body : List Byte} {i : Fin 16} : inputBad body i = none ↔
    field body (1 + 4 * i.val + 1) 1 ≤ 1 ∧ (readInput body i).debounce ≤ 20000 := by
  simp only [inputBad, firstBad_cons, failsAt_eq_none, decide_eq_false_iff_not, not_lt, firstBad_nil, and_true]
  rfl

/-- An output is not claimed before by any simulator, when none before that is enabled names it (R10). -/
theorem claimedBefore_eq_false {body : List Byte} {k : Fin 4} {o : Option (Fin 8)} : claimedBefore body k o = false ↔
    ∀ x, o = some x → ∀ j, j < k → ¬(readBreaker body j).claims x := by
  cases o with
  | none => simp [claimedBefore]
  | some x =>
    simp only [claimedBefore, Option.isSome_some, Bool.true_and, List.any_eq_false, List.mem_finRange, true_implies,
      Option.some.injEq, forall_eq', BreakerSetting.claims]
    simp

/-- An enabled simulator does not repeat in `p` the input or output that `o` names (R10). -/
theorem repeats_eq_false {n : Nat} {enabled : Bool} {o p : Option (Fin n)} :
    (enabled && p.isSome && o == p) = false ↔ (enabled = true → o = none ∨ o ≠ p) := by
  cases enabled with
  | false => simp
  | true =>
    cases p with
    | none => simp [em]
    | some x => cases o <;> simp

/-- A breaker setting passes when its indices, codes and times are in range and an enabled simulator repeats no input and claims no output
twice (R10). -/
theorem breakerBad_eq_none {body : List Byte} {k : Fin 4} : breakerBad body k = none ↔
    badOptIndex 16 (field body (breakerAt k + 1) 1) = false ∧ badOptIndex 16 (field body (breakerAt k + 2) 1) = false ∧
    badOptIndex 8 (field body (breakerAt k + 11) 1) = false ∧ badOptIndex 8 (field body (breakerAt k + 12) 1) = false ∧
    field body (breakerAt k + 13) 2 < 64 ∧ field body (breakerAt k + 15) 1 ≤ 1 ∧ (readBreaker body k).Legal ∧
    ∀ o, (readBreaker body k).claims o → ∀ j, j < k → ¬(readBreaker body j).claims o := by
  have hlegal : (readBreaker body k).Legal ↔
      (readBreaker body k).openTime ≤ 1000000 ∧ (readBreaker body k).closeTime ≤ 1000000 ∧
      ((readBreaker body k).cutLimit == 0 || decide (400 < (readBreaker body k).cutLimit)) = false ∧
      ((readBreaker body k).enabled && (readBreaker body k).close.isSome &&
        (readBreaker body k).trip == (readBreaker body k).close) = false ∧
      ((readBreaker body k).enabled && (readBreaker body k).bOut.isSome &&
        (readBreaker body k).aOut == (readBreaker body k).bOut) = false := by
    rw [BreakerSetting.Legal, repeats_eq_false, repeats_eq_false, Bool.or_eq_false_iff, beq_eq_false_iff_ne,
      decide_eq_false_iff_not, not_lt, ← Nat.pos_iff_ne_zero, forall_and]
    exact ⟨fun ⟨ho, hc, hlow, hhigh, ht, ha⟩ => ⟨ho, hc, ⟨hlow, hhigh⟩, ht, ha⟩,
      fun ⟨ho, hc, ⟨hlow, hhigh⟩, ht, ha⟩ => ⟨ho, hc, hlow, hhigh, ht, ha⟩⟩
  have hclaims : (∀ o, (readBreaker body k).claims o → ∀ j, j < k → ¬(readBreaker body j).claims o) ↔
      ((readBreaker body k).enabled && claimedBefore body k (readBreaker body k).aOut) = false ∧
      ((readBreaker body k).enabled && claimedBefore body k (readBreaker body k).bOut) = false := by
    cases he : (readBreaker body k).enabled with
    | false => simp [BreakerSetting.claims, he]
    | true =>
      rw [Bool.true_and, Bool.true_and, claimedBefore_eq_false, claimedBefore_eq_false]
      constructor
      · exact fun h => ⟨fun o ho => h o ⟨he, .inl ho⟩, fun o ho => h o ⟨he, .inr ho⟩⟩
      · rintro ⟨ha, hb⟩ o ⟨_, ho | ho⟩
        · exact ha o ho
        · exact hb o ho
  rw [hlegal, hclaims]
  simp only [breakerBad, firstBad_cons, failsAt_eq_none, firstBad_nil, and_true, decide_eq_false_iff_not, not_lt]
  constructor
  · rintro ⟨h1, h2, h3, h4, h5, h6, h7, h8, h9, h10, h11, h12, h13⟩
    exact ⟨h1, h2, h6, h8, by omega, h12, ⟨h4, h5, h13, h3, h9⟩, h7, h10⟩
  · rintro ⟨h1, h2, h6, h8, h11, h12, ⟨h4, h5, h13, h3, h9⟩, h7, h10⟩
    exact ⟨h1, h2, h3, h4, h5, h6, h7, h8, h9, h10, by omega, h12, h13⟩

/-- A profile body that passes the checks of R9 to R11 spells a legal profile. -/
theorem readProfile_legal {body : List Byte} (h : profileBad body = none) : (readProfile body).Legal := by
  obtain ⟨hinputs, hbreakers, hsteps⟩ := profileBad_eq_none.1 h
  have hclaims : ∀ j k : Fin 4, ∀ o, j < k → (readBreaker body j).claims o → ¬(readBreaker body k).claims o := by
    intro j k o hjk hj hk
    obtain ⟨_, _, _, _, _, _, _, hno⟩ := breakerBad_eq_none.1 (hbreakers k)
    exact hno o hk j hjk hj
  simp only [Profile.Legal, readProfile, Fin.getElem_fin, Vector.getElem_ofFn, Fin.eta]
  refine ⟨fun i => (inputBad_eq_none.1 (hinputs i)).2, fun k => ?_, fun j k o hj hk => ?_, hsteps⟩
  · obtain ⟨_, _, _, _, _, _, hlegal, _⟩ := breakerBad_eq_none.1 (hbreakers k)
    exact hlegal
  · rcases lt_trichotomy j k with hlt | heq | hgt
    · exact absurd hk (hclaims j k o hlt hj)
    · exact heq
    · exact absurd hj (hclaims k j o hgt hk)

/-! ## Every step keeps the records legal -/

section
variable {α : Type} {P : α → Prop} {x : Rec α}

theorem Rec.Holds.lower (h : x.Holds P) : x.lower.Holds P := by
  unfold Rec.lower
  repeat' split
  all_goals trivial

theorem Rec.Holds.raise (h : x.Holds P) : x.raise.Holds P := by cases x <;> exact h

theorem Rec.Holds.linkReset (l : Link) (h : x.Holds P) : (x.linkReset l).Holds P := by
  unfold Rec.linkReset
  repeat' split
  all_goals trivial

end

theorem State.RecordsLegal.act {R : Link → Prop} {s t : State} (hs : s.RecordsLegal) (h : s.Act R t) : t.RecordsLegal := by
  obtain ⟨hstate, hprofile⟩ := hs
  cases h with
  | keep tables _ _ => rw [State.RecordsLegal, tables]; exact ⟨hstate, hprofile⟩
  | release r tables _ _ =>
    rw [State.RecordsLegal, tables]
    refine ⟨fun i => ?_, fun i => ?_⟩
    · rw [Tables.releaseFor_state]; split; exacts [(hstate i).lower, hstate i]
    · rw [Tables.releaseFor_profile]; split; exacts [(hprofile i).lower, hprofile i]
  | orphan l _ tables _ _ =>
    rw [State.RecordsLegal, tables]
    exact ⟨fun i => by rw [Tables.linkReset_state]; exact (hstate i).linkReset l,
      fun i => by rw [Tables.linkReset_profile]; exact (hprofile i).linkReset l⟩

theorem State.RecordsLegal.begins {s t : State} (hs : s.RecordsLegal) (h : s.Begins t) : t.RecordsLegal := by
  obtain ⟨hstate, hprofile⟩ := hs
  cases h with
  | nothing eq => subst eq; exact ⟨hstate, hprofile⟩
  | loadState l i body _ fits eq =>
    subst eq
    refine ⟨fun j => ?_, hprofile⟩
    rw [State.setEntry_state]
    split
    · exact readState_legal fits
    · exact hstate j
  | freeState i _ eq =>
    subst eq
    refine ⟨fun j => ?_, hprofile⟩
    rw [State.setEntry_state]
    split
    · trivial
    · exact hstate j
  | loadProfile l i body _ fits eq =>
    subst eq
    refine ⟨hstate, fun j => ?_⟩
    rw [State.setProfile_profile]
    split
    · exact readProfile_legal fits
    · exact hprofile j
  | freeProfile i _ eq =>
    subst eq
    refine ⟨hstate, fun j => ?_⟩
    rw [State.setProfile_profile]
    split
    · trivial
    · exact hprofile j
  | take l r _ eq =>
    subst eq
    refine ⟨fun i => ?_, fun i => ?_⟩
    · rw [State.enqueue_tables, Tables.lockFor_state]; split; exacts [(hstate i).raise, hstate i]
    · rw [State.enqueue_tables, Tables.lockFor_profile]; split; exacts [(hprofile i).raise, hprofile i]

theorem State.reset_recordsLegal : State.reset.RecordsLegal :=
  ⟨fun i => by rw [State.reset_state]; trivial, fun i => by rw [State.reset_profile]; trivial⟩

/-- Settles O18: a body that passes the contents checks spells a legal record, and nothing else writes contents. -/
theorem stepsKeepRecordsLegal : Obligations.StepsKeepRecordsLegal := fun _ _ hs h =>
  step_induct State.reset_recordsLegal (fun _ _ => .begins) (fun _ _ _ => .act) hs h

end Sys2Proof.Machine
end

section
/-! SUPPORT. Locked records stand (R2): what a request's locks make of a record, what becomes of a locked record along a command, and
what a link reset leaves of the records (R18, R41). -/

namespace Sys2Proof.Machine

/-! ## A locked record along a command (R2, R3) -/

section
variable {α : Type} {R : Link → Prop} {h : Option Link} {c : α} {x : Rec α}

/-- A LOADED record's lock count lowered by one: an orphan that falls to 0 becomes FREE (R3). -/
theorem Rec.lower_loaded (h : Option Link) (n : Nat) (c : α) :
    (Rec.loaded h (n + 1) c).lower = if h = none ∧ n = 0 then .free else .loaded h n c := by
  cases h <;> simp [Rec.lower]

/-- A link reset frees a record that the link holds, or orphans it while it is locked (R18). -/
theorem Rec.linkReset_own (l : Link) (n : Nat) (c : α) :
    (Rec.loaded (some l) n c).linkReset l = if n = 0 then .free else .loaded none n c := by simp [Rec.linkReset]

/-- What may become of a record that `h` held with contents `c`, where the links of `R` may be reset: it is LOADED with them, for its holder
or as the orphan of a reset link, or it is FREE and was or became an orphan (R2, R3, R18). -/
def Rec.Stands (R : Link → Prop) (h : Option Link) (c : α) (x : Rec α) : Prop :=
  (x = .free ∧ (h = none ∨ ∃ l, h = some l ∧ R l)) ∨ (∃ n, x = .loaded h n c) ∨
    ((∃ l, h = some l ∧ R l) ∧ ∃ n, x = .loaded none n c)

theorem Rec.Stands.of_loaded {n : Nat} (hx : x = .loaded h n c) : x.Stands R h c := .inr (.inl ⟨n, hx⟩)

theorem Rec.Stands.raise (hx : x.Stands R h c) : x.raise.Stands R h c := by
  rcases hx with ⟨rfl, hf⟩ | ⟨n, rfl⟩ | ⟨hr, n, rfl⟩
  · exact .inl ⟨rfl, hf⟩
  · exact .inr (.inl ⟨n + 1, rfl⟩)
  · exact .inr (.inr ⟨hr, n + 1, rfl⟩)

theorem Rec.Stands.lower (hx : x.Stands R h c) : x.lower.Stands R h c := by
  rcases hx with ⟨rfl, hf⟩ | ⟨n, rfl⟩ | ⟨hr, n, rfl⟩
  · exact .inl ⟨rfl, hf⟩
  · cases h with
    | none =>
      show Rec.Stands R none c (if n ≤ 1 then .free else .loaded none (n - 1) c)
      split
      · exact .inl ⟨rfl, .inl rfl⟩
      · exact .inr (.inl ⟨_, rfl⟩)
    | some l => exact .inr (.inl ⟨_, rfl⟩)
  · show Rec.Stands R h c (if n ≤ 1 then .free else .loaded none (n - 1) c)
    split
    · exact .inl ⟨rfl, .inr hr⟩
    · exact .inr (.inr ⟨hr, _, rfl⟩)

theorem Rec.Stands.linkReset {l : Link} (hl : R l) (hx : x.Stands R h c) : (x.linkReset l).Stands R h c := by
  rcases hx with ⟨rfl, hf⟩ | ⟨n, rfl⟩ | ⟨hr, n, rfl⟩
  · exact .inl ⟨rfl, hf⟩
  · cases h with
    | none => exact .inr (.inl ⟨n, rfl⟩)
    | some m =>
      by_cases hm : m = l
      · subst hm
        rw [Rec.linkReset_own]
        split
        · exact .inl ⟨rfl, .inr ⟨m, rfl, hl⟩⟩
        · exact .inr (.inr ⟨⟨m, rfl, hl⟩, n, rfl⟩)
      · exact .inr (.inl ⟨n, by simp [Rec.linkReset, hm]⟩)
  · exact .inr (.inr ⟨hr, n, rfl⟩)

end

section
variable {R : Link → Prop} {h : Option Link} {s t : State}

theorem State.Act.state_stands (ha : s.Act R t) {i : Fin 64} {e : StateEntry} (hs : (s.tables.states[i]).Stands R h e) :
    (t.tables.states[i]).Stands R h e := by
  cases ha with
  | keep tables _ _ => rwa [tables]
  | release r tables _ _ => rw [tables, Tables.releaseFor_state]; split; exacts [hs.lower, hs]
  | orphan l allowed tables _ _ => rw [tables, Tables.linkReset_state]; exact hs.linkReset allowed

theorem State.Act.profile_stands (ha : s.Act R t) {i : Fin 4} {p : Profile} (hs : (s.tables.profiles[i]).Stands R h p) :
    (t.tables.profiles[i]).Stands R h p := by
  cases ha with
  | keep tables _ _ => rwa [tables]
  | release r tables _ _ => rw [tables, Tables.releaseFor_profile]; split; exacts [hs.lower, hs]
  | orphan l allowed tables _ _ => rw [tables, Tables.linkReset_profile]; exact hs.linkReset allowed

/-- A beginning replaces no record that is locked (R2, R12, R14). -/
theorem State.Begins.state_stands (hb : s.Begins t) {i : Fin 64} {e : StateEntry} (hlock : (s.tables.states[i]).lock ≠ 0)
    (hs : (s.tables.states[i]).Stands R h e) : (t.tables.states[i]).Stands R h e := by
  have ne_of : ∀ j : Fin 64, (s.tables.states[j]).lock = 0 → i ≠ j := by rintro j hj rfl; exact hlock hj
  cases hb with
  | nothing eq => rwa [eq]
  | loadState l j body unlocked _ eq => rwa [eq, State.setEntry_state, if_neg (ne_of j unlocked)]
  | freeState j unlocked eq => rwa [eq, State.setEntry_state, if_neg (ne_of j unlocked)]
  | loadProfile l j body _ _ eq => rwa [eq, State.setProfile_states]
  | freeProfile j _ eq => rwa [eq, State.setProfile_states]
  | take l r _ eq => rw [eq, State.enqueue_tables, Tables.lockFor_state]; split; exacts [hs.raise, hs]

theorem State.Begins.profile_stands (hb : s.Begins t) {i : Fin 4} {p : Profile} (hlock : (s.tables.profiles[i]).lock ≠ 0)
    (hs : (s.tables.profiles[i]).Stands R h p) : (t.tables.profiles[i]).Stands R h p := by
  have ne_of : ∀ j : Fin 4, (s.tables.profiles[j]).lock = 0 → i ≠ j := by rintro j hj rfl; exact hlock hj
  cases hb with
  | nothing eq => rwa [eq]
  | loadState l j body _ _ eq => rwa [eq, State.setEntry_profiles]
  | freeState j _ eq => rwa [eq, State.setEntry_profiles]
  | loadProfile l j body unlocked _ eq => rwa [eq, State.setProfile_profile, if_neg (ne_of j unlocked)]
  | freeProfile j unlocked eq => rwa [eq, State.setProfile_profile, if_neg (ne_of j unlocked)]
  | take l r _ eq => rw [eq, State.enqueue_tables, Tables.lockFor_profile]; split; exacts [hs.raise, hs]

end

/-- What the statement says of a record that stands: a FREE one is used by no request that remains, for its lock count is 0. -/
theorem Rec.Stands.conclude {α : Type} {R : Link → Prop} {h : Option Link} {c : α} {x : Rec α} (hx : x.Stands R h c)
    {rs : List Request} {uses : Request → Bool} (hlock : x.lock = rs.countP uses) :
    (x = .free ∧ (h = none ∨ ∃ l, h = some l ∧ R l) ∧ ∀ r ∈ rs, uses r = false) ∨
      ∃ n, x = .loaded h n c ∨ ((∃ l, h = some l ∧ R l) ∧ x = .loaded none n c) := by
  rcases hx with ⟨rfl, hf⟩ | ⟨n, hn⟩ | ⟨hr, n, hn⟩
  · have hzero : rs.countP uses = 0 := hlock.symm
    exact .inl ⟨rfl, hf, fun r hr => by simpa using List.countP_eq_zero.1 hzero r hr⟩
  · exact .inr ⟨n, .inl hn⟩
  · exact .inr ⟨n, .inr ⟨hr, hn⟩⟩

/-- No command but power-on reset replaces the contents of a locked record (R2). -/
theorem exec_locked_stands {c : Instr} (hc : c ≠ .powerOnReset) {s t : State} (hl : s.LocksCounted)
    (he : exec c s = .next t) : t.LocksCounted ∧
      (∀ (i : Fin 64) h n e, s.tables.states[i] = .loaded h (n + 1) e → (t.tables.states[i]).Stands (mayReset c) h e) ∧
      ∀ (i : Fin 4) h n p, s.tables.profiles[i] = .loaded h (n + 1) p → (t.tables.profiles[i]).Stands (mayReset c) h p := by
  obtain ⟨u, hu, hr⟩ := exec_goes hc s t he
  refine ⟨hr.induct (fun _ _ => .act) (hl.begins hu), fun i h n e hi => ?_, fun i h n p hi => ?_⟩
  · exact hr.induct (P := fun s => (s.tables.states[i]).Stands (mayReset c) h e) (fun _ _ hs ha => ha.state_stands hs)
      (hu.state_stands (by rw [hi]; exact Nat.succ_ne_zero n) (.of_loaded hi))
  · exact hr.induct (P := fun s => (s.tables.profiles[i]).Stands (mayReset c) h p) (fun _ _ hs ha => ha.profile_stands hs)
      (hu.profile_stands (by rw [hi]; exact Nat.succ_ne_zero n) (.of_loaded hi))

/-! ## The records after a link reset (R18, R41) -/

/-- A record with the locks of several requests let go one by one. -/
def Rec.lowerFor {α : Type} (uses : Request → Bool) (rs : List Request) (x : Rec α) : Rec α :=
  rs.foldl (fun x r => if uses r then x.lower else x) x

theorem Tables.foldl_releaseFor_state (rs : List Request) (i : Fin 64) : ∀ t : Tables,
    (rs.foldl Tables.releaseFor t).states[i] = (t.states[i]).lowerFor (fun r => has r.reach i) rs := by
  induction rs with
  | nil => intro t; rfl
  | cons r rs ih => intro t; rw [List.foldl_cons, ih, Tables.releaseFor_state]; rfl

theorem Tables.foldl_releaseFor_profile (rs : List Request) (i : Fin 4) : ∀ t : Tables,
    (rs.foldl Tables.releaseFor t).profiles[i] = (t.profiles[i]).lowerFor (fun r => r.profile == i) rs := by
  induction rs with
  | nil => intro t; rfl
  | cons r rs ih => intro t; rw [List.foldl_cons, ih, Tables.releaseFor_profile]; rfl

/-- Requests that let a record go leave it LOADED with the count of those that remain, unless it is an orphan that none remains for. -/
theorem Rec.lowerFor_loaded {α : Type} {uses : Request → Bool} {h : Option Link} {c : α} {k : Nat} :
    ∀ {rs : List Request} {n : Nat}, n = rs.countP uses + k → (h = none → rs.countP uses = 0 ∨ k ≠ 0) →
      (Rec.loaded h n c).lowerFor uses rs = .loaded h k c := by
  intro rs
  induction rs with
  | nil => rintro n rfl -; simp [Rec.lowerFor]
  | cons r rs ih =>
    intro n hn hnone
    rw [List.countP_cons] at hn hnone
    rw [Rec.lowerFor, List.foldl_cons]
    by_cases hr : uses r = true
    · rw [if_pos hr] at hn hnone ⊢
      obtain rfl : n = (rs.countP uses + k) + 1 := by omega
      rw [Rec.lower_loaded, if_neg (by rintro ⟨h0, hz⟩; rcases hnone h0 with h1 | h1 <;> omega)]
      exact ih rfl fun h0 => .inr (by rcases hnone h0 with h1 | h1 <;> omega)
    · rw [if_neg hr] at hn hnone ⊢
      exact ih hn hnone

/-- What a link reset makes of a LOADED record with a right lock count, `uses` of them staying: its own becomes FREE or an orphan, one that
is still used stays LOADED with its contents, and one of another holder that loses no lock stays as it is (R18, R41). -/
theorem Rec.linkReset_lowerFor {α : Type} {l : Link} {used : Request → Bool} {gone : List Request} {h : Option Link}
    {n k : Nat} {c : α} (hn : n = gone.countP used + k) :
    (h = some l → ((Rec.loaded h n c).lowerFor used gone).linkReset l = if k = 0 then .free else .loaded none k c) ∧
      (h ≠ some l → k = n → ((Rec.loaded h n c).lowerFor used gone).linkReset l = .loaded h n c) ∧
      (k ≠ 0 → ∃ h', ((Rec.loaded h n c).lowerFor used gone).linkReset l = .loaded h' k c) := by
  have reset_other : ∀ {m : Nat}, h ≠ some l → (Rec.loaded h m c).linkReset l = .loaded h m c := by
    intro m hh
    cases h with
    | none => rfl
    | some m => simp [Rec.linkReset, show m ≠ l from fun e => hh (by rw [e])]
  refine ⟨?_, fun hh hk => ?_, fun hk => ?_⟩
  · rintro rfl
    rw [Rec.lowerFor_loaded hn (by rintro ⟨⟩), Rec.linkReset_own]
  · subst hk
    rw [Rec.lowerFor_loaded hn (fun _ => .inl (by omega)), reset_other hh]
  · rw [Rec.lowerFor_loaded hn (fun _ => .inr hk)]
    by_cases hh : h = some l
    · subst hh
      exact ⟨none, by rw [Rec.linkReset_own, if_neg hk]⟩
    · exact ⟨h, reset_other hh⟩

/-- The requests that remain after a link reset of `l`: the queued ones of other links and the granted one (R41). -/
def State.left (s : State) (l : Link) : List Request :=
  (s.queue.requests.filter fun r => r.link ≠ l) ++ (s.engine.shot?.map Shot.req).toList

/-- The queued requests that a link reset of `l` removes (R41). -/
def State.gone (s : State) (l : Link) : List Request := s.queue.requests.filter fun r => r.link = l

theorem State.countP_requests (s : State) (l : Link) (uses : Request → Bool) :
    s.requests.countP uses = (s.gone l).countP uses + (s.left l).countP uses := by
  have hp : s.queue.requests.Perm (s.gone l ++ s.queue.requests.filter fun r => r.link ≠ l) := by
    simpa [State.gone] using (List.filter_append_perm (fun r => decide (r.link = l)) s.queue.requests).symm
  rw [State.requests, State.left, List.countP_append, hp.countP_eq, List.countP_append, List.countP_append, Nat.add_assoc]

/-- The state of a link reset before its shot is looked at (R181). -/
def State.resetBase (s : State) (l : Link) : State :=
  ((s.setLink l ((s.link l).linkReset l)).removeQueuedOf l).resetRecords l

theorem State.resetBase_tables (s : State) (l : Link) :
    (s.resetBase l).tables = ((s.gone l).foldl Tables.releaseFor s.tables).linkReset l := by
  simp only [State.resetBase, State.resetRecords, State.removeQueuedOf, State.gone, State.setLink_tables, State.setLink_queue]

@[simp] theorem State.resetBase_engine (s : State) (l : Link) : (s.resetBase l).engine = s.engine := by
  simp [State.resetBase]

theorem State.linkReset_eq {s : State} {l : Link} (h : l ≠ .supervision) :
    s.linkReset l = (s.resetBase l).endGoWait l := by
  unfold State.linkReset
  cases l with
  | plan => rfl
  | panel => rfl
  | supervision => exact absurd rfl h

/-- A link reset keeps the profile of the granted shot (R2). -/
theorem State.resetBase_profile {s : State} {sh : Shot} (hl : s.LocksCounted) (hs : s.engine.shot? = some sh) (l : Link) :
    (s.resetBase l).profile sh.req.profile = s.profile sh.req.profile := by
  have hlock := (hl.2 sh.req.profile).trans (s.countP_requests l _)
  have hused : (s.left l).countP (fun r => r.profile == sh.req.profile) ≠ 0 := by
    simp [State.left, hs]
  unfold State.profile
  rw [State.resetBase_tables, Tables.linkReset_profile, Tables.foldl_releaseFor_profile]
  cases hx : s.tables.profiles[sh.req.profile] with
  | free => rw [hx] at hlock; exact absurd hlock (by simp only [Rec.lock]; omega)
  | loaded h n p =>
    rw [hx] at hlock
    obtain ⟨h', hh⟩ := (Rec.linkReset_lowerFor (n := n) (l := l) (h := h) (c := p) hlock).2.2 hused
    rw [hh]
    rfl

/-- The tables after a link reset are settled before its shot is looked at, where a shot ARMED for GO that it ends has a debounce horizon
above 0 (R62, R63). -/
theorem State.linkReset_tables {s : State} {l : Link} (hl : s.LocksCounted) (hsup : l ≠ .supervision)
    (hgo : ∀ sh, s.engine = .armed sh none → sh.req.link = l → sh.req.condition = .go →
      (s.profile sh.req.profile).horizon ≠ 0) : (s.linkReset l).tables = (s.resetBase l).tables := by
  rw [State.linkReset_eq hsup]
  unfold State.endGoWait
  split
  · rename_i sh he
    split
    · rename_i hcond
      have hs : s.engine = .armed sh none := (s.resetBase_engine l).symm.trans he
      have hh : ((s.resetBase l).profile sh.req.profile).horizon ≠ 0 := by
        rw [State.resetBase_profile hl (by rw [hs]; rfl)]
        exact hgo sh hs hcond.1 hcond.2
      rw [State.requestEnd_of_armed _ he, State.endArmed, State.settle_of_horizon (by simpa [State.profile] using hh),
        State.grantMoment_of_busy (by simp)]
      simp
    · rfl
  · rfl

/-! ## The statement -/

/-- Settles O17: a request's locks follow its claims; a locked record stands along the run of acts that a command is; and a link reset lets
its requests' locks go before it frees or orphans its records. -/
theorem lockedRecordsStand : Obligations.LockedRecordsStand := by
  refine ⟨fun t r => ⟨fun i => ⟨fun hi => ?_, fun hi h n e => ⟨fun hx => ?_, fun hx => ?_⟩⟩,
    fun i => ⟨fun hi => ?_, fun hi h n p => ⟨fun hx => ?_, fun hx => ?_⟩⟩⟩, fun c s t hc hl he => ?_, fun l tag s hl hsup hgo => ?_⟩
  · rw [Tables.lockFor_state, Tables.releaseFor_state, hi]; exact ⟨rfl, rfl⟩
  · rw [Tables.lockFor_state, if_pos hi, hx]; rfl
  · rw [Tables.releaseFor_state, if_pos hi, hx, Rec.lower_loaded]
  · rw [Tables.lockFor_profile, Tables.releaseFor_profile, if_neg (by simpa using hi), if_neg (by simpa using hi)]
    exact ⟨rfl, rfl⟩
  · rw [Tables.lockFor_profile, if_pos (by simpa using hi), hx]; rfl
  · rw [Tables.releaseFor_profile, if_pos (by simpa using hi), hx, Rec.lower_loaded]
  · obtain ⟨ht, hstates, hprofiles⟩ := exec_locked_stands hc hl he
    refine ⟨fun i h n e hi => (hstates i h n e hi).conclude (ht.1 i), fun i h n p hi => ?_⟩
    have hstands := (hprofiles i h n p hi).conclude (ht.2 i)
    simp only [beq_eq_false_iff_ne] at hstands
    exact hstands
  · refine ⟨_, rfl, fun i => ⟨fun n e hi => ?_, fun h n e hi hh hk => ?_⟩,
      fun i => ⟨fun n p hi => ?_, fun h n p hi hh hk => ?_⟩⟩
    all_goals
      rw [respond, State.setReply_tables, State.linkReset_tables hl hsup hgo, State.resetBase_tables]
    · have hlock := (hl.1 i).trans (s.countP_requests l _)
      rw [Tables.linkReset_state, Tables.foldl_releaseFor_state]
      rw [hi] at hlock ⊢
      exact (Rec.linkReset_lowerFor hlock).1 rfl
    · have hlock := (hl.1 i).trans (s.countP_requests l _)
      rw [Tables.linkReset_state, Tables.foldl_releaseFor_state]
      rw [hi] at hlock ⊢
      exact (Rec.linkReset_lowerFor hlock).2.1 hh hk
    · have hlock := (hl.2 i).trans (s.countP_requests l _)
      rw [Tables.linkReset_profile, Tables.foldl_releaseFor_profile]
      rw [hi] at hlock ⊢
      exact (Rec.linkReset_lowerFor hlock).1 rfl
    · have hlock := (hl.2 i).trans (s.countP_requests l _)
      rw [Tables.linkReset_profile, Tables.foldl_releaseFor_profile]
      rw [hi] at hlock ⊢
      exact (Rec.linkReset_lowerFor hlock).2.1 hh hk

end Sys2Proof.Machine
end

section
/-! SUPPORT. The requests on the Programme Tables and LINK_RESET, case by case (R12 to R16, R181), and the state after power-on reset. -/

namespace Sys2Proof.Machine

/-! ## Replies and refusals of the requests (R175, R178) -/

theorem respond_error (l : Link) (k : Kind) (tag : Byte) (s : State) (d : Denial) :
    respond l k tag s (.error d) = s.refuse l k.code tag d := rfl

theorem respond_ok (l : Link) (k : Kind) (tag : Byte) (s t : State) (b : ReplyBody) :
    respond l k tag s (.ok (t, b)) = t.setReply l (okReply k tag b) := rfl

theorem index?_of_lt {n v : Nat} (h : v < n) : index? n v = some ⟨v, h⟩ := by simp [index?, h]

theorem index?_of_le {n v : Nat} (h : n ≤ v) : index? n v = none := by simp [index?, Nat.not_lt.2 h]

section
variable {α : Type} {l : Link}

theorem Rec.loadDenial_loaded (h : Option Link) (n : Nat) (c : α) : (Rec.loaded h n c).loadDenial l =
    if h ≠ some l then some .held else if n ≠ 0 then some .locked else none := by
  by_cases hh : h = some l <;> by_cases hn : n = 0 <;> simp [Rec.loadDenial, hh, hn]

theorem Rec.freeDenial_loaded (i : Nat) (h : Option Link) (n : Nat) (c : α) : (Rec.loaded h n c).freeDenial l i =
    if h ≠ some l then some .held else if n ≠ 0 then some .locked else none := by
  by_cases hh : h = some l <;> by_cases hn : n = 0 <;> simp [Rec.freeDenial, hh, hn]

end

/-! ## LOAD_STATE and LOAD_PROFILE (R12) -/

/-- LOAD_STATE past the length, role and index checks: the ownership check and then the contents (R12 stages 3 and 4). -/
theorem loadState_of_index {l : Link} {body : List Byte} {s : State} (hlen : 10 ≤ body.length) (hl : l ≠ .supervision)
    (h : field body 0 1 < 64) : loadState l body s =
      match (s.tables.states[(⟨field body 0 1, h⟩ : Fin 64)]).loadDenial l with
      | some d => .error d
      | none =>
        match stateBad body with
        | some r => .error (.badField r)
        | none => .ok (s.setEntry ⟨field body 0 1, h⟩ (.loaded (some l) 0 (readState body)), .loaded (field body 0 1) l 0) := by
  rw [loadState, if_neg (show ¬body.length < lanesAt from Nat.not_lt.2 hlen), if_neg hl, index?_of_lt h] <;> rfl

/-- LOAD_PROFILE past the length, role and index checks (R12 stages 3 and 4). -/
theorem loadProfile_of_index {l : Link} {body : List Byte} {s : State} (hlen : body.length = 161) (hl : l ≠ .supervision)
    (h : field body 0 1 < 4) : loadProfile l body s =
      match (s.tables.profiles[(⟨field body 0 1, h⟩ : Fin 4)]).loadDenial l with
      | some d => .error d
      | none =>
        match profileBad body with
        | some r => .error (.badField r)
        | none => .ok (s.setProfile ⟨field body 0 1, h⟩ (.loaded (some l) 0 (readProfile body)), .loaded (field body 0 1) l 0) := by
  rw [loadProfile, if_neg (not_not.2 hlen), if_neg hl, index?_of_lt h] <;> rfl

/-- Settles O13: each outcome of the checks in their order. -/
theorem loadsCheckAndStore : Obligations.LoadsCheckAndStore := by
  refine ⟨fun l tag body s hlen => ?_, fun l tag body s hlen => ?_⟩
  · have hexec : exec (.loadState l tag body) s = .next (respond l .loadState tag s (loadState l body s)) := rfl
    have hlen' : ¬body.length < lanesAt := Nat.not_lt.2 hlen
    dsimp only
    rw [hexec]
    split_ifs with hl h
    · rw [loadState, if_neg hlen', if_pos hl, respond_error]
    · rw [loadState_of_index hlen hl h]
      cases hx : s.tables.states[(⟨field body 0 1, h⟩ : Fin 64)] with
      | free => cases stateBad body <;> rfl
      | loaded holder lock e =>
        dsimp only
        rw [Rec.loadDenial_loaded]
        split_ifs
        · rfl
        · rfl
        · cases stateBad body <;> rfl
    · rw [loadState, if_neg hlen', if_neg hl, index?_of_le (Nat.not_lt.1 h), respond_error]
  · have hexec : exec (.loadProfile l tag body) s = .next (respond l .loadProfile tag s (loadProfile l body s)) := rfl
    dsimp only
    rw [hexec]
    split_ifs with hl h
    · rw [loadProfile, if_neg (not_not.2 hlen), if_pos hl, respond_error]
    · rw [loadProfile_of_index hlen hl h]
      cases hx : s.tables.profiles[(⟨field body 0 1, h⟩ : Fin 4)] with
      | free => cases profileBad body <;> rfl
      | loaded holder lock e =>
        dsimp only
        rw [Rec.loadDenial_loaded]
        split_ifs
        · rfl
        · rfl
        · cases profileBad body <;> rfl
    · rw [loadProfile, if_neg (not_not.2 hlen), if_neg hl, index?_of_le (Nat.not_lt.1 h), respond_error]

/-! ## FREE_STATE and FREE_PROFILE (R14) -/

/-- Settles O14: each outcome of the checks in their order. -/
theorem freeChecksAndFrees : Obligations.FreeChecksAndFrees := by
  refine fun l tag index s => ⟨?_, ?_⟩
  · have hexec : exec (.freeState l tag index) s = .next (respond l .freeState tag s (freeState l index s)) := rfl
    dsimp only
    rw [hexec]
    split_ifs with hl h
    · rw [freeState, if_pos hl, respond_error]
    · rw [freeState, if_neg hl, index?_of_lt h]
      dsimp only
      cases hx : s.tables.states[(⟨index.toNat, h⟩ : Fin 64)] with
      | free => rfl
      | loaded holder lock e =>
        rw [Rec.freeDenial_loaded]
        dsimp only
        split_ifs
        all_goals rfl
    · rw [freeState, if_neg hl, index?_of_le (Nat.not_lt.1 h)]
      rfl
  · have hexec : exec (.freeProfile l tag index) s = .next (respond l .freeProfile tag s (freeProfile l index s)) := rfl
    dsimp only
    rw [hexec]
    split_ifs with hl h
    · rw [freeProfile, if_pos hl, respond_error]
    · rw [freeProfile, if_neg hl, index?_of_lt h]
      dsimp only
      cases hx : s.tables.profiles[(⟨index.toNat, h⟩ : Fin 4)] with
      | free => rfl
      | loaded holder lock e =>
        rw [Rec.freeDenial_loaded]
        dsimp only
        split_ifs
        all_goals rfl
    · rw [freeProfile, if_neg hl, index?_of_le (Nat.not_lt.1 h)]
      rfl

/-! ## READ_STATE, READ_PROFILE and TABLE_STATUS (R15, R16) -/

/-- Settles O15: the record the index names, or a refusal, and the 68 rows in the order of the tables. -/
theorem tableReadsChangeNothing : Obligations.TableReadsChangeNothing := by
  intro l tag index s
  have hstate : exec (.readState l tag index) s = .next (respond l .readState tag s (readStateRecord index s)) := rfl
  have hprofile : exec (.readProfile l tag index) s = .next (respond l .readProfile tag s (readProfileRecord index s)) := rfl
  refine ⟨fun i hi => ?_, fun hi => ?_, fun i hi => ?_, fun hi => ?_, s.tableRows, rfl, ?_, fun i => ?_, fun i => ?_⟩
  · rw [hstate, readStateRecord, ← hi, index?_of_lt i.isLt, respond_ok]
  · rw [hstate, readStateRecord, index?_of_le hi, respond_error]
    rfl
  · rw [hprofile, readProfileRecord, ← hi, index?_of_lt i.isLt, respond_ok]
  · rw [hprofile, readProfileRecord, index?_of_le hi, respond_error]
    rfl
  · simp [State.tableRows]
  · simp [State.tableRows, State.entry, List.getElem?_append]
  · simp [State.tableRows, List.getElem?_append]

/-! ## LINK_RESET (R181) -/

theorem State.endGoWait_of_other {s : State} {l : Link}
    (h : ∀ sh, s.engine = .armed sh none → sh.req.link = l → sh.req.condition ≠ .go) : s.endGoWait l = s := by
  unfold State.endGoWait
  split
  · rename_i sh he
    exact if_neg fun hc => h sh he hc.1 hc.2
  · rfl

/-- The override cleared: the granted shot is judged when it was set and INHIBIT is asserted (R128, R130). -/
theorem State.clearOverride_eq (s : State) : s.clearOverride =
    if s.sup.override = true ∧ s.sup.inhibit = true then
      ({ s with sup := { s.sup with override := false } } : State).requestEnd .inhibited
    else { s with sup := { s.sup with override := false } } := by
  unfold State.clearOverride State.judgeInhibit
  cases s.sup.override <;> cases hi : s.sup.inhibit <;> simp [hi]

/-- Settles O12: the shot ARMED for GO is the one case that reaches past the link's own items, requests and records. -/
theorem linkResetClearsTheLink : Obligations.LinkResetClearsTheLink := by
  refine ⟨fun l tag s hl hgo => ?_, fun l tag s sh hl he hlink hgo => ?_, fun tag s hsup => ?_⟩
  · refine ⟨_, rfl, ?_⟩
    have heq : s.linkReset l = s.resetBase l := by
      rw [State.linkReset_eq hl, State.endGoWait_of_other fun sh he => hgo sh (by rwa [State.resetBase_engine] at he)]
    have hlinks : (s.resetBase l).links = (s.setLink l ((s.link l).linkReset l)).links := by simp [State.resetBase]
    have hlink : ∀ m, (s.resetBase l).link m = (s.setLink l ((s.link l).linkReset l)).link m := fun m => by
      rw [State.link, hlinks]; rfl
    rw [heq, respond_ok]
    refine ⟨?_, fun m hm => ?_, ?_, ?_, ?_⟩
    · rw [State.link_setReply, hlink, State.link_setLink]
      rfl
    · rw [State.link_setReply_ne _ hm, hlink, State.link_setLink_ne _ hm]
    · simp only [State.resetBase, State.setReply_queue, State.resetRecords, State.removeQueuedOf, State.setLink_queue]
    · rw [State.setReply_tables, State.resetBase_tables]
      rfl
    · simp only [State.setReply, State.setLink, State.resetBase, State.resetRecords, State.removeQueuedOf]
  · have hbase : (s.resetBase l).engine = .armed sh none := by rw [State.resetBase_engine, he]
    have heq : s.linkReset l = (s.resetBase l).requestEnd .linkReset := by
      rw [State.linkReset_eq hl, State.endGoWait, hbase]
      exact if_pos ⟨hlink, hgo⟩
    show Host.Outcome.next (respond l .linkReset tag s (.ok (s.linkReset l, .empty))) = _
    rw [heq, respond_ok]
    rfl
  · have heq : s.linkReset .supervision = (s.resetBase .supervision).clearOverride := by
      have hend : (s.resetBase .supervision).endGoWait .supervision = s.resetBase .supervision :=
        State.endGoWait_of_other fun sh he hlink => absurd hlink (hsup sh (by rwa [State.resetBase_engine] at he))
      show ((s.resetBase .supervision).endGoWait .supervision).clearOverride = _
      rw [hend]
    have hs : (s.resetBase .supervision).sup = s.sup := by simp [State.resetBase]
    refine ⟨s.linkReset .supervision, rfl, ?_⟩
    rw [heq, State.clearOverride_eq, hs]
    dsimp only
    rw [← hs]
    rfl

/-! ## The state after power-on reset -/

@[simp] theorem State.reset_report (k : Fin 16) : State.reset.reports[k] = .empty := by simp [State.reset]

@[simp] theorem State.reset_half (h : HalfId) : State.reset.captures.get h = .free := by cases h <;> rfl

@[simp] theorem State.reset_lane (i : Fin 12) : State.reset.synth.lanes[i] = .reset := by simp [State.reset]

@[simp] theorem State.reset_contact (i : Fin 16) : State.reset.contacts[i] = .reset .opened := by simp [State.reset]

@[simp] theorem State.reset_breaker (k : Fin 4) : State.reset.breakers[k] = .reset := by simp [State.reset]

@[simp] theorem State.reset_link (l : Link) : State.reset.link l = .reset l := by cases l <;> rfl

@[simp] theorem State.reset_supLane (i : Fin 12) :
    State.reset.sup.lanes[i] = { settings := .default i, condition := .ready, missRun := 0 } := by simp [State.reset]

theorem State.reset_attn (l : Link) : State.reset.attn l = false := by
  have hcount : State.reset.pendingCount l = 0 := by
    simp only [State.pendingCount, State.reset_report, Slot.waiting]
    simp
  simp [State.attn, State.reportReady, hcount, LinkState.reset, Notices.any, Notices.clear]

/-- Settles O4: each unit's items after power-on reset, read off one by one. -/
theorem resetGivesTheStatedValues : Obligations.ResetGivesTheStatedValues := by
  have hdefault : ∀ i : Fin 12, SupSettings.default i =
      { enabled := false, deviation := if i.val < 6 then 32000 else 30000, missLimit := 8,
        rating := if i.val < 6 then 32000 else 0, heatLimit := if i.val < 6 then 10000 else 0 } := by
    simp [SupSettings.default, Config.laneMax, Config.isCurrentLane]
  refine ⟨State.reset_state, State.reset_profile, rfl, rfl, rfl, rfl, State.reset_lane, fun i => ?_, fun k => ?_, rfl,
    fun i => ?_, fun i => ?_, rfl, rfl, fun i => ?_, State.reset_report, fun h => ?_, rfl, rfl, rfl, rfl, rfl, rfl, rfl,
    fun l => ?_, rfl, rfl, rfl⟩
  · rw [State.reset_contact]; exact ⟨rfl, rfl, rfl, rfl⟩
  · rw [State.reset_breaker]; exact ⟨rfl, rfl, rfl, rfl, rfl, rfl⟩
  · rw [State.reset_supLane, hdefault]
  · simp [State.reset]
  · simp [State.reset]
  · rw [State.reset_half]; exact ⟨rfl, rfl⟩
  · rw [State.reset_link]
    exact ⟨rfl, rfl, rfl, rfl, by simp [LinkState.reset], State.reset_attn l⟩

theorem State.reset_slotsBound : State.reset.SlotsBound :=
  ⟨fun k r h => (by rw [State.reset_report] at h; cases h), fun sh h => by cases h⟩

theorem State.reset_completesWait : State.reset.CompletesWait := fun k r w h => by
  rw [State.reset_report] at h; cases h

theorem State.reset_halvesBound : State.reset.HalvesBound := by
  refine ⟨fun h => ?_, fun h k serial hh => ?_⟩
  · rw [State.reset_half]
    exact ⟨fun hf => (by cases hf), fun ⟨sh, hs, _⟩ => by cases hs⟩
  · rw [State.reset_half] at hh
    cases hh

theorem State.reset_unitsSound : State.reset.UnitsSound := by
  refine ⟨fun i => ?_, fun k => ?_⟩
  · rw [State.reset_contact]
    exact fun h => by cases h
  · rw [State.reset_breaker]
    rfl

theorem State.reset_lanesSound : State.reset.LanesSound := by
  intro i
  have hcode : State.reset.synth.codes[i] = 0 := by simp [State.reset]
  have hcommanded : State.reset.synth.commanded[i] = 0 := by simp [State.reset]
  rw [State.reset_lane, hcode, hcommanded]
  exact ⟨fun h => (by cases h), fun _ => rfl, by decide, Nat.zero_le _, by decide, Nat.zero_le _⟩

theorem State.reset_capturesSound : State.reset.CapturesSound := by
  refine ⟨fun r hr => (by cases hr), fun h => ?_⟩
  rw [State.reset_half]
  exact ⟨by decide, by decide, fun h => (by cases h), fun n hn => by cases hn⟩

theorem State.reset_inRange : State.reset.InRange := by
  refine ⟨by decide, by decide, by decide, by decide, fun r hr => (by cases hr), fun l => ?_, fun l p hp => ?_, fun i => ?_⟩
  · rw [State.reset_link]
    exact ⟨Nat.le_refl 1, Nat.le_add_left 1 15⟩
  · rw [State.reset_link] at hp
    cases l <;> cases hp <;> decide
  · rw [State.reset_supLane]
    exact Nat.zero_le _

/-- Settles O60: with no request, no shot, no report and no record there is nothing that could break a property. -/
theorem resetIsSound : Obligations.ResetIsSound :=
  ⟨State.reset_locksCounted, State.reset_orphansLocked, State.reset_recordsLegal, State.reset_staysInReach,
    fun _ r hr => (by cases hr), State.reset_slotsBound, State.reset_completesWait, State.reset_halvesBound,
    fun h => (by cases h), State.reset_unitsSound, State.reset_lanesSound, State.reset_capturesSound, State.reset_inRange,
    fun h => by cases h⟩

end Sys2Proof.Machine
end

section
/-! SUPPORT. Frames and records spelled in bytes and read back (R175, R176, R183). -/

namespace Sys2Proof.Machine

/-! ## Fields of a run of bytes (R183) -/

@[simp] theorem length_leBytes (n v : Nat) : (leBytes n v).length = n := by
  induction n generalizing v with
  | zero => rfl
  | succ n ih => simp [leBytes, ih]

/-- A number in enough bytes is read back as it. -/
theorem ofLeBytes_leBytes {n v : Nat} (h : v < 256 ^ n) : ofLeBytes (leBytes n v) = v := by
  induction n generalizing v with
  | zero => simp [leBytes, ofLeBytes]; omega
  | succ n ih =>
    rw [Nat.pow_succ] at h
    rw [leBytes, ofLeBytes, ih (by omega), BitVec.toNat_ofNat]
    omega

theorem field_append_left {a : List Byte} {k n : Nat} (b : List Byte) (h : k + n ≤ a.length) :
    field (a ++ b) k n = field a k n := by
  rw [field, field, List.drop_append_of_le_length (by omega), List.take_append_of_le_length (by rw [List.length_drop]; omega)]

theorem field_append_right (a b : List Byte) (k n : Nat) : field (a ++ b) (a.length + k) n = field b k n := by
  rw [field, field, List.drop_length_add_append]

/-- The bytes `part` stand in `body` from offset `at_` on. -/
def Spells (body : List Byte) (at_ : Nat) (part : List Byte) : Prop :=
  ∀ o n, o + n ≤ part.length → field body (at_ + o) n = field part o n

theorem spells_middle (before part after : List Byte) : Spells (before ++ (part ++ after)) before.length part :=
  fun o n h => by rw [field_append_right, field_append_left _ h]

theorem Spells.after {body part : List Byte} {at_ : Nat} (h : Spells body at_ part) (before : List Byte) :
    Spells (before ++ body) (before.length + at_) part := fun o n hn => by
  rw [Nat.add_assoc, field_append_right, h o n hn]

theorem Spells.field_zero {body part : List Byte} {at_ n : Nat} (h : Spells body at_ part) (hn : n ≤ part.length) :
    field body at_ n = field part 0 n := h 0 n (by omega)

/-- A list of records of `m` bytes each spells record `i` at `m * i`. -/
theorem spells_flatMap {α : Type} {f : α → List Byte} {m : Nat} (after : List Byte) :
    ∀ {xs : List α} (_ : ∀ x ∈ xs, (f x).length = m) {i : Nat} (hi : i < xs.length),
      Spells (xs.flatMap f ++ after) (m * i) (f xs[i]) := by
  intro xs
  induction xs with
  | nil => intro _ i hi; cases hi
  | cons x xs ih =>
    intro hm i hi
    rw [List.flatMap_cons, List.append_assoc]
    cases i with
    | zero => exact spells_middle [] (f x) _
    | succ i =>
      have htail := (ih (fun y hy => hm y (List.mem_cons_of_mem _ hy)) (Nat.lt_of_succ_lt_succ hi)).after (f x)
      rw [hm x List.mem_cons_self] at htail
      rw [Nat.mul_succ, Nat.add_comm]
      exact htail

theorem length_flatMap_const {α : Type} {f : α → List Byte} {m : Nat} {xs : List α} (hm : ∀ x ∈ xs, (f x).length = m) :
    (xs.flatMap f).length = m * xs.length := by
  induction xs with
  | nil => rfl
  | cons x xs ih =>
    rw [List.flatMap_cons, List.length_append, hm x List.mem_cons_self, ih fun y hy => hm y (List.mem_cons_of_mem _ hy),
      List.length_cons, Nat.mul_succ, Nat.add_comm]

/-! ## Request frames (R175, R176) -/

theorem Kind.ofCode_code (k : Kind) : Kind.ofCode k.code = some k := by cases k <;> rfl

/-- The two bytes of an integer stand for it. -/
theorem ofLeBytes_halfBytes (h : Half16) : ofLeBytes (halfBytes h) = h.toNat := by
  have := h.isLt
  simp only [halfBytes, ofLeBytes, BitVec.toNat_setWidth, BitVec.toNat_ushiftRight, Nat.shiftRight_eq_div_pow]
  omega

/-- The seven checks take the frame of a kind whose length fits its body, with any bytes after it (R175, R176). -/
theorem judgeFrame_requestFrame {k : Kind} {body : List Byte} (tag : Byte) (rest : List Byte) (hlen : body.length ≤ 1024)
    (hfits : lengthFits k body = true) : judgeFrame (requestFrame k tag body ++ rest) = .ok (k, body) := by
  let covered := [k.code, tag] ++ halfBytes (BitVec.ofNat 16 body.length) ++ body
  have hcovered : covered.length = 4 + body.length := by simp [covered, halfBytes]; omega
  have hframe : requestFrame k tag body ++ rest = [syncRequest] ++ covered ++ (halfBytes (crc covered) ++ rest) := by
    simp [requestFrame, covered]
  have hn : frameLength (requestFrame k tag body ++ rest) = body.length := by
    have h : Spells (requestFrame k tag body ++ rest) 3 (halfBytes (BitVec.ofNat 16 body.length)) := by
      simpa [requestFrame] using spells_middle [syncRequest, k.code, tag] (halfBytes (BitVec.ofNat 16 body.length)) _
    rw [frameLength, h.field_zero (by simp [halfBytes]), field]
    simp only [List.drop_zero]
    rw [List.take_of_length_le (by simp [halfBytes]), ofLeBytes_halfBytes, BitVec.toNat_ofNat]
    omega
  have hbody : frameBody (requestFrame k tag body ++ rest) = body := by
    rw [frameBody, hn]
    simp [requestFrame, halfBytes]
  have hcrc : crcMatches (requestFrame k tag body ++ rest) = true := by
    have hat : Spells (requestFrame k tag body ++ rest) (5 + body.length) (halfBytes (crc covered)) := by
      have h := spells_middle ([syncRequest] ++ covered) (halfBytes (crc covered)) rest
      rwa [← hframe, List.length_append, hcovered, List.length_singleton, ← Nat.add_assoc] at h
    have hfield : frameCrc (requestFrame k tag body ++ rest) = (crc covered).toNat := by
      rw [frameCrc, hn, hat.field_zero (by simp [halfBytes]), field, List.drop_zero,
        List.take_of_length_le (by simp [halfBytes]), ofLeBytes_halfBytes]
    have htake : ((requestFrame k tag body ++ rest).drop 1).take (4 + body.length) = covered := by
      rw [hframe, ← hcovered]
      simp
    rw [crcMatches, hfield, hn, htake]
    exact beq_self_eq_true _
  have hsound : frameSound (requestFrame k tag body ++ rest) = true := by
    have hl : (requestFrame k tag body ++ rest).length = 7 + body.length + rest.length := by
      simp [requestFrame, halfBytes]; omega
    have hhead : (requestFrame k tag body ++ rest).head? = some syncRequest := rfl
    rw [frameSound, hn, hl, hhead, hcrc]
    have hmax : decide (body.length ≤ Config.maxBody) = true := decide_eq_true hlen
    simp [hmax]
    omega
  have hkind : (requestFrame k tag body ++ rest).getD 1 0 = k.code := rfl
  rw [judgeFrame, hsound, hkind, Kind.ofCode_code, hbody]
  simp [hfits]

/-- The body of a well-formed request is no longer than a frame holds, and its length fits its kind (R176 checks 3 and 7). -/
theorem lengthFits_of_parts {c : Instr} {l : Link} {k : Kind} {tag : Byte} {body : List Byte} (hwf : c.wellFormed = true)
    (h : frameParts c = some (l, k, tag, body)) : body.length ≤ 1024 ∧ lengthFits k body = true := by
  cases c with
  | loadState l' tag' body' =>
    cases h
    simp only [Instr.wellFormed, Bool.and_eq_true, decide_eq_true_eq] at hwf
    exact ⟨hwf.2, decide_eq_true hwf.1⟩
  | loadProfile l' tag' body' =>
    cases h
    have hlen : body.length = 161 := by simpa [Instr.wellFormed] using hwf
    exact ⟨by omega, by simp [lengthFits, bodyLength, hlen]⟩
  | _ =>
    cases h
    all_goals exact ⟨by simp [halfBytes], rfl⟩

/-- The frame of a well-formed request does what the request does (R175, R176, R177). -/
theorem exec_requestFrame {c : Instr} {l : Link} {k : Kind} {tag : Byte} {body : List Byte} (rest : List Byte) (s : State)
    (hwf : c.wellFormed = true) (h : frameParts c = some (l, k, tag, body)) :
    exec (.badFrame l (requestFrame k tag body ++ rest)) s = exec c s := by
  obtain ⟨hlen, hfits⟩ := lengthFits_of_parts hwf h
  show execBadFrame l (requestFrame k tag body ++ rest) s = _
  rw [execBadFrame, if_neg (by simp [requestFrame]), judgeFrame_requestFrame tag rest hlen hfits]
  exact runRequest_of_parts h s

end Sys2Proof.Machine
end

section
/-! SUPPORT. The record layouts read back what they spell (R4 to R11, R183). -/

namespace Sys2Proof.Machine

/-! ## Numbers in a record -/

/-- A number at the front of a record is read back. -/
theorem field_here {n v : Nat} (rest : List Byte) (h : v < 256 ^ n) : field (leBytes n v ++ rest) 0 n = v := by
  rw [field_append_left _ (by simp), field, List.drop_zero, List.take_of_length_le (by simp), ofLeBytes_leBytes h]

theorem field_last {n v : Nat} (h : v < 256 ^ n) : field (leBytes n v) 0 n = v := by
  simpa using field_here [] h

/-- A field past the first number of a record is a field of the rest. -/
theorem field_skip {m k : Nat} (v n : Nat) (rest : List Byte) (h : m ≤ k) :
    field (leBytes m v ++ rest) k n = field rest (k - m) n := by
  have := field_append_right (leBytes m v) rest (k - m) n
  rwa [length_leBytes, Nat.add_sub_cancel' h] at this

/-! ## The state entry layout (R4 to R8) -/

@[simp] theorem LaneSetting.length_bytes (x : LaneSetting) : x.bytes.length = 10 := by simp [LaneSetting.bytes]

@[simp] theorem ExitKind.length_params (k : ExitKind) : k.params.length = 4 := by
  cases k <;> simp [ExitKind.params, b1, bBool]

@[simp] theorem Exit.length_bytes (x : Exit) : x.bytes.length = 6 := by simp [Exit.bytes, b1]

@[simp] theorem Assessment.length_bytes (a : Assessment) : a.bytes.length = 12 := by simp [Assessment.bytes, b1]

/-- A lane setting is read back where it is spelled (R5). -/
theorem readLane_of_spells {body : List Byte} {i : Fin 12} {x : LaneSetting}
    (h : Spells body (lanesAt + 10 * i.val) x.bytes) (hx : x.Legal i) : readLane body i = x := by
  obtain ⟨hrms, hangle, hfreq, htau⟩ := hx
  have hmax : Config.laneMax i ≤ 32000 := by unfold Config.laneMax; split <;> omega
  rw [readLane, h.field_zero (by simp), h 2 2 (by simp), h 4 4 (by simp), h 8 2 (by simp)]
  simp (disch := omega) only [LaneSetting.bytes, List.append_assoc, field_skip, field_here, field_last, Nat.reduceSub]

theorem ExitKind.code_le (k : ExitKind) : k.code ≤ 5 := by cases k <;> simp [ExitKind.code]

theorem Target.code_lt (x : Target) : x.code < 256 := by
  cases x with
  | state i => exact i.isLt.trans (by decide)
  | finish => decide

/-- The target of an exit is read back from its code, which is END or an index (R7). -/
theorem readTarget_code (x : Target) : readTarget x.code = x ∧ (x.code ≠ 255 && decide (64 ≤ x.code)) = false := by
  cases x with
  | finish => exact ⟨rfl, rfl⟩
  | state i =>
    have hi := i.isLt
    have hne : i.val ≠ 255 := by omega
    simp [readTarget, Target.code, hne, Nat.not_le.2 hi]

/-- The kind of an exit is read back from its code and its parameters, and passes its checks (R7). -/
theorem readExitKind_of_spells {body : List Byte} {at_ : Nat} {kind : ExitKind} (hkind : field body at_ 1 = kind.code)
    (hparams : Spells body (at_ + 2) kind.params) (hx : kind.Legal) :
    readExitKind body at_ = kind ∧ exitParamBad body at_ = none := by
  have hfour : ∀ n, n ≤ 4 → field body (at_ + 2) n = field kind.params 0 n := fun n hn =>
    hparams.field_zero (by simpa using hn)
  have hone : ∀ o, o + 1 ≤ 4 → field body (at_ + 2 + o) 1 = field kind.params o 1 := fun o ho =>
    hparams o 1 (by simpa using ho)
  unfold readExitKind exitParamBad
  rw [hkind]
  cases kind with
  | time limit =>
    obtain ⟨hlow, hhigh⟩ := hx
    have hv : field body (at_ + 2) 4 = limit := by
      rw [hfour 4 (by decide)]
      exact field_last (by omega)
    simp only [ExitKind.code, hv, failsAt_eq_none, Bool.or_eq_false_iff, decide_eq_false_iff_not, not_lt]
    exact ⟨trivial, hlow, hhigh⟩
  | inputLevel mask all =>
    have hv : field body (at_ + 2) 2 = mask.toNat := by
      rw [hfour 2 (by decide)]
      simp (disch := omega) only [ExitKind.params, List.append_assoc, field_here]
    have ha : field body (at_ + 4) 1 = all.toNat := by
      have hlt : all.toNat < 256 ^ 1 := by cases all <;> decide
      rw [hone 2 (by decide)]
      simp (disch := omega) only [ExitKind.params, bBool, b1, List.append_assoc, field_skip, field_here, Nat.reduceSub]
    have hne : mask.toNat ≠ 0 := fun h0 => hx (BitVec.eq_of_toNat_eq h0)
    cases all <;> simp [ExitKind.code, hv, ha, hne]
  | inputEdge mask =>
    have hv : field body (at_ + 2) 2 = mask.toNat := by
      rw [hfour 2 (by decide)]
      simp (disch := omega) only [ExitKind.params, field_here]
    have hne : mask.toNat ≠ 0 := fun h0 => hx (BitVec.eq_of_toNat_eq h0)
    simp [ExitKind.code, hv, hne]
  | trigger => exact ⟨rfl, rfl⟩
  | panelStep => exact ⟨rfl, rfl⟩
  | breaker k p =>
    have hv : field body (at_ + 2) 1 = k.val := by
      rw [hfour 1 (by decide)]
      simp (disch := omega) only [ExitKind.params, b1, List.append_assoc, field_here]
    have hp : field body (at_ + 3) 1 = positionCode p := by
      have hlt : positionCode p < 256 ^ 1 := by cases p <;> decide
      rw [hone 1 (by decide)]
      simp (disch := omega) only [ExitKind.params, b1, List.append_assoc, field_skip, field_here, Nat.reduceSub]
    cases p <;> simp [ExitKind.code, hv, hp, positionOf, positionCode]

/-- An exit record is read back where it is spelled, and passes its checks (R7). -/
theorem readExit_of_spells {body : List Byte} {at_ : Nat} {x : Exit} (h : Spells body at_ x.bytes) (hx : x.kind.Legal) :
    readExit body at_ = x ∧ exitBad body at_ = none := by
  have hcode := x.kind.code_le
  have htarget_lt := x.target.code_lt
  have hkind : field body at_ 1 = x.kind.code := by
    rw [h.field_zero (by simp)]
    simp (disch := omega) only [Exit.bytes, b1, List.append_assoc, field_here]
  have htarget : field body (at_ + 1) 1 = x.target.code := by
    rw [h 1 1 (by simp)]
    simp (disch := omega) only [Exit.bytes, b1, List.append_assoc, field_skip, field_here, Nat.reduceSub]
  have hparams : Spells body (at_ + 2) x.kind.params := by
    intro o n hn
    rw [ExitKind.length_params] at hn
    rw [Nat.add_assoc, h (2 + o) n (by rw [Exit.length_bytes]; omega)]
    simp (disch := omega) only [Exit.bytes, b1, List.append_assoc, field_skip]
    rw [show 2 + o - 1 - 1 = o by omega]
  obtain ⟨hread, hparam⟩ := readExitKind_of_spells hkind hparams hx
  obtain ⟨htread, htbad⟩ := readTarget_code x.target
  refine ⟨by rw [readExit, hread, htarget, htread], ?_⟩
  rw [exitBad, hkind, hparam, htarget, htbad]
  simpa using hcode

/-- An assessment record is read back where it is spelled, and passes its checks (R8). -/
theorem readAssessment_of_spells {body : List Byte} {at_ : Nat} {a : Assessment} (h : Spells body at_ a.bytes)
    (ha : a.Legal) : readAssessment body at_ = a ∧ assessBad body at_ = none := by
  obtain ⟨hlow, hhigh, horder⟩ := ha
  have hkind_le : a.kind.code ≤ 4 := by cases a.kind <;> simp [AssessKind.code]
  have hoperand : a.kind.operand < assessRange a.kind.code := by
    cases a.kind <;> simp [AssessKind.operand, AssessKind.code, assessRange]
  have hrange : assessRange a.kind.code ≤ 16 := by unfold assessRange; split <;> omega
  have horigin : a.origin.code ≤ 1 := by cases a.origin <;> simp [Origin.code]
  have hmode : a.mode.code ≤ 3 := by cases a.mode <;> simp [CompareMode.code]
  have h0 : field body at_ 1 = a.kind.code := by
    rw [h.field_zero (by simp)]
    simp (disch := omega) only [Assessment.bytes, b1, List.append_assoc, field_here]
  have h1 : field body (at_ + 1) 1 = a.kind.operand := by
    rw [h 1 1 (by simp)]
    simp (disch := omega) only [Assessment.bytes, b1, List.append_assoc, field_skip, field_here, Nat.reduceSub]
  have h2 : field body (at_ + 2) 1 = a.origin.code := by
    rw [h 2 1 (by simp)]
    simp (disch := omega) only [Assessment.bytes, b1, List.append_assoc, field_skip, field_here, Nat.reduceSub]
  have h3 : field body (at_ + 3) 1 = a.mode.code := by
    rw [h 3 1 (by simp)]
    simp (disch := omega) only [Assessment.bytes, b1, List.append_assoc, field_skip, field_here, Nat.reduceSub]
  have h4 : field body (at_ + 4) 4 = a.low := by
    rw [h 4 4 (by simp)]
    simp (disch := omega) only [Assessment.bytes, b1, List.append_assoc, field_skip, field_here, Nat.reduceSub]
  have h8 : field body (at_ + 8) 4 = a.high := by
    rw [h 8 4 (by simp)]
    simp (disch := omega) only [Assessment.bytes, b1, List.append_assoc, field_skip, field_last, Nat.reduceSub]
  have hkread : readAssessKind body at_ = a.kind := by
    unfold readAssessKind
    rw [h0, h1]
    cases a.kind <;> simp [AssessKind.code, AssessKind.operand]
  have horead : (if a.origin.code = 0 then Origin.visitEntry else .shotStart) = a.origin := by cases a.origin <;> rfl
  have hmread : compareMode a.mode.code = a.mode := by cases a.mode <;> rfl
  refine ⟨by rw [readAssessment, hkread, h2, h3, h4, h8, horead, hmread], ?_⟩
  rw [assessBad, h0, h1, h2, h3, h4, h8]
  simp only [firstBad_cons, failsAt_eq_none, firstBad_nil, and_true, decide_eq_false_iff_not, not_lt, not_le,
    Bool.and_eq_false_iff]
  refine ⟨hkind_le, hoperand, horigin, hmode, hlow, hhigh, ?_⟩
  cases hm : a.mode with
  | below => exact .inl (by decide)
  | above => exact .inl (by decide)
  | inside => exact .inr (horder (.inl hm))
  | outside => exact .inr (horder (.inr hm))

/-- The first ten bytes of a state entry: its index, its fields and its counts (R4, R6, R183). -/
def StateEntry.head (e : StateEntry) (index : Nat) : List Byte :=
  b1 index ++ (leBytes 2 e.label ++ (b1 e.pattern.toNat ++ (b1 (presence [e.captureMark, e.pow.isSome]) ++
    (powBytes e.pow ++ (b1 e.exits.length ++ b1 e.assessments.length)))))

theorem StateEntry.bytes_eq (e : StateEntry) (index : Nat) : e.bytes index =
    e.head index ++ (e.lanes.toList.flatMap LaneSetting.bytes ++
      (e.exits.flatMap Exit.bytes ++ e.assessments.flatMap Assessment.bytes)) := by
  simp only [StateEntry.bytes, StateEntry.head, List.append_assoc]

@[simp] theorem length_powBytes (p : Option PointOnWave) : (powBytes p).length = 3 := by cases p <;> simp [powBytes, b1]

@[simp] theorem StateEntry.length_head (e : StateEntry) (index : Nat) : (e.head index).length = 10 := by
  simp [StateEntry.head, b1]

theorem StateEntry.length_lanes (e : StateEntry) : (e.lanes.toList.flatMap LaneSetting.bytes).length = 120 := by
  rw [length_flatMap_const (m := 10) fun x _ => x.length_bytes, Vector.length_toList]

section
variable (e : StateEntry) (index : Nat)

theorem StateEntry.spells_head : Spells (e.bytes index) 0 (e.head index) := by
  rw [StateEntry.bytes_eq]
  exact spells_middle [] _ _

theorem StateEntry.spells_lane (i : Fin 12) : Spells (e.bytes index) (lanesAt + 10 * i.val) (e.lanes[i]).bytes := by
  have h := (spells_flatMap (f := LaneSetting.bytes) (m := 10) (e.exits.flatMap Exit.bytes ++ e.assessments.flatMap Assessment.bytes)
    (xs := e.lanes.toList) (fun x _ => x.length_bytes) (i := i.val) (by simp)).after (e.head index)
  rw [← StateEntry.bytes_eq, StateEntry.length_head] at h
  exact h

theorem StateEntry.spells_exit {n : Nat} (hn : n < e.exits.length) :
    Spells (e.bytes index) (exitsAt + 6 * n) (e.exits[n]).bytes := by
  have h := ((spells_flatMap (f := Exit.bytes) (e.assessments.flatMap Assessment.bytes) (fun x _ => x.length_bytes)
    hn).after (e.lanes.toList.flatMap LaneSetting.bytes)).after (e.head index)
  rwa [← StateEntry.bytes_eq, StateEntry.length_head, StateEntry.length_lanes, ← Nat.add_assoc] at h

theorem StateEntry.spells_assessment {n : Nat} (hn : n < e.assessments.length) :
    Spells (e.bytes index) (exitsAt + 6 * e.exits.length + 12 * n) (e.assessments[n]).bytes := by
  have h := (((spells_flatMap (f := Assessment.bytes) [] (fun x _ => x.length_bytes) hn).after
    (e.exits.flatMap Exit.bytes)).after (e.lanes.toList.flatMap LaneSetting.bytes)).after (e.head index)
  rwa [List.append_nil, ← StateEntry.bytes_eq, StateEntry.length_head, StateEntry.length_lanes,
    length_flatMap_const (m := 6) fun x _ => x.length_bytes, ← Nat.add_assoc, ← Nat.add_assoc] at h

theorem StateEntry.length_bytes :
    (e.bytes index).length = exitsAt + 6 * e.exits.length + 12 * e.assessments.length := by
  rw [StateEntry.bytes_eq, List.length_append, StateEntry.length_head, List.length_append, StateEntry.length_lanes,
    List.length_append, length_flatMap_const (m := 6) fun x _ => x.length_bytes,
    length_flatMap_const (m := 12) fun x _ => x.length_bytes]
  unfold exitsAt
  omega

end

/-- The head of a legal state entry is read back field by field (R4, R6, R7, R8). -/
theorem StateEntry.head_fields {e : StateEntry} (he : e.Legal) (index : Fin 64) :
    field (e.bytes index.val) 0 1 = index.val ∧ field (e.bytes index.val) 1 2 = e.label ∧
    field (e.bytes index.val) 3 1 = e.pattern.toNat ∧
    field (e.bytes index.val) 4 1 = presence [e.captureMark, e.pow.isSome] ∧
    (∀ p, e.pow = some p → field (e.bytes index.val) 5 1 = p.lane.val ∧ field (e.bytes index.val) 6 2 = p.angle) ∧
    exitCount (e.bytes index.val) = e.exits.length ∧ assessCount (e.bytes index.val) = e.assessments.length := by
  obtain ⟨hlabel, _, hpow, _, hexits, _, hassess, _⟩ := he
  have hpres : presence [e.captureMark, e.pow.isSome] < 256 ^ 1 := by
    cases e.captureMark <;> cases e.pow.isSome <;> decide
  have hpattern : e.pattern.toNat < 256 ^ 1 := e.pattern.isLt
  have h := fun o n hn => (e.spells_head index.val) o n hn
  simp only [Nat.zero_add, StateEntry.length_head] at h
  have hpowskip : ∀ k n (rest : List Byte), 3 ≤ k → field (powBytes e.pow ++ rest) k n = field rest (k - 3) n := by
    intro k n rest hk
    have := field_append_right (powBytes e.pow) rest (k - 3) n
    rwa [length_powBytes, Nat.add_sub_cancel' hk] at this
  unfold exitCount assessCount
  rw [h 0 1 (by decide), h 1 2 (by decide), h 3 1 (by decide), h 4 1 (by decide), h 5 1 (by decide), h 6 2 (by decide),
    h 8 1 (by decide), h 9 1 (by decide), StateEntry.head]
  simp (disch := omega) only [b1, field_skip, field_here, field_last, hpowskip, Nat.reduceSub, true_and, and_true]
  intro p hp
  obtain hangle := hpow p hp
  rw [hp]
  simp (disch := omega) only [powBytes, b1, List.append_assoc, field_skip, field_here, Nat.reduceSub, and_self]

/-- The point-on-wave entry is read back, and passes its checks (R6). -/
theorem StateEntry.readPow_bytes {e : StateEntry} (he : e.Legal) (index : Fin 64) :
    readPow (e.bytes index.val) = e.pow ∧ powBad (e.bytes index.val) = none := by
  obtain ⟨_, _, _, hpres, hpow, _, _⟩ := e.head_fields he index
  have hangle := he.2.2.1
  have hbit : powPresent (e.bytes index.val) = e.pow.isSome := by
    rw [powPresent, hpres]
    cases e.captureMark <;> cases e.pow.isSome <;> decide
  unfold readPow powBad
  rw [hbit]
  cases hp : e.pow with
  | none => exact ⟨rfl, rfl⟩
  | some p =>
    obtain ⟨hl, ha⟩ := hpow p hp
    have hle := hangle p hp
    rw [hl, ha, index?_of_lt p.lane.isLt]
    refine ⟨rfl, ?_⟩
    simp only [Option.isSome_some, if_true, firstBad_cons, failsAt_eq_none, decide_eq_false_iff_not, not_le, not_lt,
      firstBad_nil, and_true]
    exact ⟨p.lane.isLt, hle⟩

/-- The body that spells a legal state entry passes the checks of R4 to R8 and reads back as it (R183). -/
theorem StateEntry.read_bytes {e : StateEntry} (he : e.Legal) (index : Fin 64) :
    stateBad (e.bytes index.val) = none ∧ readState (e.bytes index.val) = e ∧
      field (e.bytes index.val) 0 1 = index.val := by
  obtain ⟨hindex, hlabel, hpattern, hpres, _, hexits, hassess⟩ := e.head_fields he index
  obtain ⟨hpow, hpowbad⟩ := e.readPow_bytes he index
  obtain ⟨_, hlanes, _, hone, hfour, hexit, hafour, hassessment⟩ := he
  have hlane : ∀ i, readLane (e.bytes index.val) i = e.lanes[i] := fun i =>
    readLane_of_spells (e.spells_lane index.val i) (hlanes i)
  have hex : ∀ n (hn : n < e.exits.length), readExit (e.bytes index.val) (exitsAt + 6 * n) = e.exits[n] ∧
      exitBad (e.bytes index.val) (exitsAt + 6 * n) = none := fun n hn =>
    readExit_of_spells (e.spells_exit index.val hn) (hexit _ (List.getElem_mem hn))
  have hat : assessAt (e.bytes index.val) = exitsAt + 6 * e.exits.length := by rw [assessAt, hexits]
  have has : ∀ n (hn : n < e.assessments.length),
      readAssessment (e.bytes index.val) (assessAt (e.bytes index.val) + 12 * n) = e.assessments[n] ∧
        assessBad (e.bytes index.val) (assessAt (e.bytes index.val) + 12 * n) = none := fun n hn => by
    rw [hat]
    exact readAssessment_of_spells (e.spells_assessment index.val hn) (hassessment _ (List.getElem_mem hn))
  refine ⟨stateBad_eq_none.2 ⟨?_, fun i => ?_, hpowbad, ?_, fun n hn => (hex n (hexits ▸ hn)).2, ?_,
    fun n hn => (has n (hassess ▸ hn)).2⟩, ?_, hindex⟩
  · rw [stateLength, hat, hassess, StateEntry.length_bytes]
  · rw [hlane i]
    exact LaneSetting.bad_eq_none.2 (hlanes i)
  · rw [exitCountBad, hexits]
    simp only [Bool.or_eq_false_iff, beq_eq_false_iff_ne, decide_eq_false_iff_not, not_lt]
    exact ⟨Nat.ne_of_gt hone, hfour⟩
  · rw [hassess]
    exact hafour
  · have hl : Vector.ofFn (readLane (e.bytes index.val)) = e.lanes := by
      ext i hi
      rw [Vector.getElem_ofFn, hlane]
      rfl
    have hx : (List.range e.exits.length).map (fun n => readExit (e.bytes index.val) (exitsAt + 6 * n)) = e.exits := by
      refine List.ext_getElem (by simp) fun n h1 h2 => ?_
      rw [List.getElem_map, List.getElem_range]
      exact (hex n h2).1
    have ha : (List.range e.assessments.length).map
        (fun n => readAssessment (e.bytes index.val) (assessAt (e.bytes index.val) + 12 * n)) = e.assessments := by
      refine List.ext_getElem (by simp) fun n h1 h2 => ?_
      rw [List.getElem_map, List.getElem_range]
      exact (has n h2).1
    have hmark : (presence [e.captureMark, e.pow.isSome]).testBit 0 = e.captureMark := by
      cases e.captureMark <;> cases e.pow.isSome <;> decide
    rw [readState, hlabel, hpattern, hpres, hpow, hl, hexits, hassess, hx, ha, hmark, BitVec.ofNat_toNat,
      BitVec.setWidth_eq]

end Sys2Proof.Machine
end

section
/-! SUPPORT. The rig profile layout reads back what it spells, and frames carry every request (R9 to R11, R175 to R177, R183). -/

namespace Sys2Proof.Machine

/-! ## The rig profile layout (R9 to R11) -/

@[simp] theorem InputSetting.length_bytes (x : InputSetting) : x.bytes.length = 4 := by
  simp [InputSetting.bytes, bBool, b1]

@[simp] theorem BreakerSetting.length_bytes (x : BreakerSetting) : x.bytes.length = 18 := by
  simp [BreakerSetting.bytes, bBool, b1]

theorem toNat_bool_lt (b : Bool) : b.toNat < 256 := by cases b <;> decide

theorem decide_toNat_ne_zero (b : Bool) : decide (b.toNat ≠ 0) = b := by cases b <;> rfl

theorem levelCode_le (p : Level) : levelCode p ≤ 1 := by cases p <;> decide

theorem activeLevel_levelCode (p : Level) : activeLevel (levelCode p) = p := by cases p <;> rfl

theorem positionCode_le (p : Level) : positionCode p ≤ 1 := by cases p <;> decide

theorem positionOf_positionCode (p : Level) : positionOf (positionCode p) = p := by cases p <;> rfl

theorem optCode_lt {n : Nat} (hn : n ≤ 255) (o : Option (Fin n)) : optCode o < 256 := by
  cases o with
  | none => exact show 255 < 256 by decide
  | some i => exact i.isLt.trans (by omega)

/-- An index that may be none is read back from its code, and its code is one (R183). -/
theorem optIndex_optCode {n : Nat} (hn : n ≤ 255) (o : Option (Fin n)) :
    optIndex n (optCode o) = o ∧ badOptIndex n (optCode o) = false := by
  cases o with
  | none => exact ⟨rfl, rfl⟩
  | some i =>
    have hne : i.val ≠ 255 := by omega
    exact ⟨by rw [optIndex, optCode, if_neg hne, index?_of_lt i.isLt], by
      rw [badOptIndex, optCode, decide_eq_false (Nat.not_le.2 i.isLt), Bool.and_false]⟩

/-- An input setting is read back where it is spelled, and passes its checks (R9). -/
theorem readInput_of_spells {body : List Byte} {i : Fin 16} {x : InputSetting}
    (h : Spells body (1 + 4 * i.val) x.bytes) (hx : x.debounce ≤ 20000) :
    readInput body i = x ∧ inputBad body i = none := by
  have hbool := toNat_bool_lt x.enabled
  have hlevel := levelCode_le x.active
  have h0 : field body (1 + 4 * i.val) 1 = x.enabled.toNat := by
    rw [h.field_zero (by simp)]
    simp (disch := omega) only [InputSetting.bytes, bBool, b1, List.append_assoc, field_here]
  have h1 : field body (1 + 4 * i.val + 1) 1 = levelCode x.active := by
    rw [h 1 1 (by simp)]
    simp (disch := omega) only [InputSetting.bytes, bBool, b1, List.append_assoc, field_skip, field_here, Nat.reduceSub]
  have h2 : field body (1 + 4 * i.val + 2) 2 = x.debounce := by
    rw [h 2 2 (by simp)]
    simp (disch := omega) only [InputSetting.bytes, bBool, b1, List.append_assoc, field_skip, field_last, Nat.reduceSub]
  have hread : readInput body i = x := by
    simp only [readInput, h0, h1, h2, decide_toNat_ne_zero, activeLevel_levelCode]
  refine ⟨hread, inputBad_eq_none.2 ⟨?_, ?_⟩⟩
  · rw [h1]; exact hlevel
  · rw [hread]; exact hx

/-- A breaker setting is read back where it is spelled, and its codes are in range (R10). -/
theorem readBreaker_of_spells {body : List Byte} {k : Fin 4} {x : BreakerSetting}
    (h : Spells body (breakerAt k) x.bytes) (hx : x.Legal) : readBreaker body k = x ∧
    badOptIndex 16 (field body (breakerAt k + 1) 1) = false ∧ badOptIndex 16 (field body (breakerAt k + 2) 1) = false ∧
    badOptIndex 8 (field body (breakerAt k + 11) 1) = false ∧ badOptIndex 8 (field body (breakerAt k + 12) 1) = false ∧
    field body (breakerAt k + 13) 2 < 64 ∧ field body (breakerAt k + 15) 1 ≤ 1 := by
  obtain ⟨hopen, hclose, _, hcut, _⟩ := hx
  have hbool := toNat_bool_lt x.enabled
  have htrip := optCode_lt (by decide) x.trip
  have hcl := optCode_lt (by decide) x.close
  have ha := optCode_lt (by decide) x.aOut
  have hb := optCode_lt (by decide) x.bOut
  have hlanes : x.lanes.toNat < 64 := x.lanes.isLt
  have hpos := positionCode_le x.initial
  have hat := fun o n (hn : o + n ≤ 18) => h o n (by simpa using hn)
  have h0 := h.field_zero (n := 1) (by simp)
  have h1 := hat 1 1 (by decide)
  have h2 := hat 2 1 (by decide)
  have h3 := hat 3 4 (by decide)
  have h7 := hat 7 4 (by decide)
  have h11 := hat 11 1 (by decide)
  have h12 := hat 12 1 (by decide)
  have h13 := hat 13 2 (by decide)
  have h15 := hat 15 1 (by decide)
  have h16 := hat 16 2 (by decide)
  simp (disch := omega) only [BreakerSetting.bytes, bBool, b1, List.append_assoc, field_skip, field_here, field_last,
    Nat.reduceSub] at h0 h1 h2 h3 h7 h11 h12 h13 h15 h16
  rw [h1, h2, h11, h12, h13, h15]
  refine ⟨?_, (optIndex_optCode (by decide) _).2, (optIndex_optCode (by decide) _).2, (optIndex_optCode (by decide) _).2,
    (optIndex_optCode (by decide) _).2, hlanes, hpos⟩
  simp only [readBreaker, h0, h1, h2, h3, h7, h11, h12, h13, h15, h16, decide_toNat_ne_zero, positionOf_positionCode,
    optIndex_optCode, Nat.reduceLeDiff, BitVec.ofNat_toNat, BitVec.setWidth_eq]

section
variable (p : Profile) (index : Nat)

theorem Profile.bytes_eq : p.bytes index = b1 index ++ (p.inputs.toList.flatMap InputSetting.bytes ++
    (p.breakers.toList.flatMap BreakerSetting.bytes ++ p.steps.toList.flatMap (leBytes 2))) := by
  simp only [Profile.bytes, List.append_assoc]

theorem Profile.length_inputs : (p.inputs.toList.flatMap InputSetting.bytes).length = 64 := by
  rw [length_flatMap_const (m := 4) fun x _ => x.length_bytes, Vector.length_toList]

theorem Profile.length_breakers : (p.breakers.toList.flatMap BreakerSetting.bytes).length = 72 := by
  rw [length_flatMap_const (m := 18) fun x _ => x.length_bytes, Vector.length_toList]

theorem Profile.length_bytes : (p.bytes index).length = 161 := by
  rw [Profile.bytes_eq, List.length_append, List.length_append, List.length_append, Profile.length_inputs,
    Profile.length_breakers, length_flatMap_const (m := 2) fun x _ => length_leBytes 2 x, Vector.length_toList, b1,
    length_leBytes]

theorem Profile.spells_input (i : Fin 16) : Spells (p.bytes index) (1 + 4 * i.val) (p.inputs[i]).bytes := by
  have h := (spells_flatMap (f := InputSetting.bytes) (p.breakers.toList.flatMap BreakerSetting.bytes ++
    p.steps.toList.flatMap (leBytes 2)) (xs := p.inputs.toList) (fun x _ => x.length_bytes) (i := i.val)
    (by simp)).after (b1 index)
  rw [← Profile.bytes_eq, b1, length_leBytes] at h
  exact h

theorem Profile.spells_breaker (k : Fin 4) : Spells (p.bytes index) (breakerAt k) (p.breakers[k]).bytes := by
  have h := ((spells_flatMap (f := BreakerSetting.bytes) (p.steps.toList.flatMap (leBytes 2)) (xs := p.breakers.toList)
    (fun x _ => x.length_bytes) (i := k.val) (by simp)).after (p.inputs.toList.flatMap InputSetting.bytes)).after (b1 index)
  rw [← Profile.bytes_eq, Profile.length_inputs, b1, length_leBytes, ← Nat.add_assoc] at h
  exact h

theorem Profile.spells_step (i : Fin 12) : Spells (p.bytes index) (137 + 2 * i.val) (leBytes 2 p.steps[i]) := by
  have h := (((spells_flatMap (f := leBytes 2) [] (xs := p.steps.toList) (fun x _ => length_leBytes 2 x) (i := i.val)
    (by simp)).after (p.breakers.toList.flatMap BreakerSetting.bytes)).after
    (p.inputs.toList.flatMap InputSetting.bytes)).after (b1 index)
  rw [List.append_nil, ← Profile.bytes_eq, Profile.length_inputs, Profile.length_breakers, b1, length_leBytes,
    ← Nat.add_assoc, ← Nat.add_assoc] at h
  exact h

end

/-- The body that spells a legal profile passes the checks of R9 to R11 and reads back as it (R183). -/
theorem Profile.read_bytes {p : Profile} (hp : p.Legal) (index : Fin 4) :
    profileBad (p.bytes index.val) = none ∧ readProfile (p.bytes index.val) = p ∧
      field (p.bytes index.val) 0 1 = index.val := by
  obtain ⟨hdebounce, hlegal, hclaims, hsteps⟩ := hp
  have hinput := fun i => readInput_of_spells (p.spells_input index.val i) (hdebounce i)
  have hbreaker := fun k => readBreaker_of_spells (p.spells_breaker index.val k) (hlegal k)
  have hstep : ∀ i, readStep (p.bytes index.val) i = p.steps[i] := fun i => by
    have hmax : Config.laneMax i ≤ 32000 := by unfold Config.laneMax; split <;> omega
    have := hsteps i
    rw [readStep, (p.spells_step index.val i).field_zero (by simp), field_last (by omega)]
  refine ⟨profileBad_eq_none.2 ⟨fun i => (hinput i).2, fun k => ?_, fun i => ?_⟩, ?_, ?_⟩
  · obtain ⟨hread, hcodes⟩ := hbreaker k
    simp only [breakerBad_eq_none, hcodes, true_and, hread, (hbreaker _).1]
    exact ⟨hlegal k, fun o hk j hjk hj => hjk.ne (hclaims j k o hj hk)⟩
  · rw [hstep i]
    exact hsteps i
  · have hi : Vector.ofFn (readInput (p.bytes index.val)) = p.inputs := by
      ext i h
      rw [Vector.getElem_ofFn, (hinput _).1]
      rfl
    have hb : Vector.ofFn (readBreaker (p.bytes index.val)) = p.breakers := by
      ext i h
      rw [Vector.getElem_ofFn, (hbreaker _).1]
      rfl
    have hs : Vector.ofFn (readStep (p.bytes index.val)) = p.steps := by
      ext i h
      rw [Vector.getElem_ofFn, hstep]
      rfl
    rw [readProfile, hi, hb, hs]
  · rw [Profile.bytes_eq, b1, field_here _ (by omega)]

/-- Settles O9: the frame goes through the seven checks to the request it spells, and each record layout is read back field by
field. -/
theorem framesCarryEveryRequest : Obligations.FramesCarryEveryRequest :=
  ⟨fun _ _ _ _ _ rest s hwf h => exec_requestFrame rest s hwf h, fun _ i he => StateEntry.read_bytes he i,
    fun p i hp => ⟨p.length_bytes i.val, Profile.read_bytes hp i⟩⟩

end Sys2Proof.Machine
end

section
/-! SUPPORT. The conditions under which a request is eligible, the cause it waits on, and the arbiter's choice (R30, R32, R39). -/

namespace Sys2Proof.Machine

/-! ## The five conditions (R30) -/

/-- Half the heat limit of a lane: 10¹⁰ mA² × ticks for each A²s (R125, R126). -/
theorem SupSettings.halfLimit_eq (x : SupSettings) : x.halfLimit = x.heatLimit * 10000000000 := by
  unfold SupSettings.halfLimit Config.heatUnit
  omega

theorem State.hot_iff {s : State} {i : Fin 6} :
    s.hot i = true ↔ (s.sup.lanes[currentLane i]).settings.heatLimit * 10000000000 < s.sup.heat[i] := by
  rw [State.hot, SupSettings.halfLimit_eq, decide_eq_true_iff]

theorem State.faulted_iff {s : State} {i : Fin 12} : s.faulted i = true ↔ (s.sup.lanes[i]).condition ≠ .ready := by
  rw [State.faulted, decide_eq_true_iff]

theorem State.inhibits_iff {s : State} {m : LaneSet} :
    s.inhibits m = true ↔ s.sup.inhibit = true ∧ (s.sup.override = false ∨ m ≠ 0) := by
  cases h : s.sup.override <;> simp [State.inhibits, h]

theorem State.emptySlot_eq_none {s : State} : s.emptySlot = none ↔ ∀ k : Fin 16, s.reports[k] ≠ .empty := by
  simp [State.emptySlot, lowest_eq_none]

theorem State.faultedIn_eq_none {s : State} {m : LaneSet} :
    s.faultedIn m = none ↔ ∀ i, ¬(has m i = true ∧ s.faulted i = true) := by
  simp only [State.faultedIn, lowest_eq_none, Bool.and_eq_false_iff, not_and_or, Bool.not_eq_true]

theorem State.faultedIn_eq_some {s : State} {m : LaneSet} {i : Fin 12} : s.faultedIn m = some i ↔
    (has m i = true ∧ s.faulted i = true) ∧ ∀ j, j < i → ¬(has m j = true ∧ s.faulted j = true) := by
  simp only [State.faultedIn, lowest_eq_some, Bool.and_eq_true, Bool.and_eq_false_iff, not_and_or, Bool.not_eq_true]

theorem State.hotIn_eq_none {s : State} {m : LaneSet} :
    s.hotIn m = none ↔ ∀ i, ¬(has m (currentLane i) = true ∧ s.hot i = true) := by
  simp only [State.hotIn, lowest_eq_none, Bool.and_eq_false_iff, not_and_or, Bool.not_eq_true]

theorem State.hotIn_eq_some {s : State} {m : LaneSet} {i : Fin 6} : s.hotIn m = some i ↔
    (has m (currentLane i) = true ∧ s.hot i = true) ∧ ∀ j, j < i → ¬(has m (currentLane j) = true ∧ s.hot j = true) := by
  simp only [State.hotIn, lowest_eq_some, Bool.and_eq_true, Bool.and_eq_false_iff, not_and_or, Bool.not_eq_true]

/-! ## The waiting cause, condition by condition (R39) -/

section
variable {s : State} {r : Request}

theorem State.cause_of_busy (h : s.engine ≠ .idle) : s.cause r = some .engineBusy := by
  have hi : s.engine.isIdle = false := Bool.eq_false_iff.2 (mt Engine.isIdle_iff.1 h)
  simp [State.cause, hi]

theorem State.cause_of_noSlot (h : s.engine = .idle) (hk : s.emptySlot = none) : s.cause r = some .noSlot := by
  simp [State.cause, Engine.isIdle_iff.2 h, hk]

/-- Past the engine and the slot the cause is the lanes' or INHIBIT's. -/
theorem State.cause_of_slot {k : Fin 16} (h : s.engine = .idle) (hk : s.emptySlot = some k) : s.cause r =
    ((s.faultedIn r.laneUse).map Cause.laneFault).or (((s.hotIn r.laneUse).map fun i => .heat (currentLane i)).or
      (if s.inhibits r.laneUse = true then some .inhibit else none)) := by
  simp only [State.cause, Engine.isIdle_iff.2 h, hk, Bool.not_true, Bool.false_eq_true, if_false, Option.isNone_some]
  cases s.faultedIn r.laneUse <;> cases s.hotIn r.laneUse <;> rfl

/-- A request is eligible when no condition of R30 fails. -/
theorem State.eligible_iff : s.eligible r = true ↔ s.engine = .idle ∧ s.emptySlot ≠ none ∧
    s.faultedIn r.laneUse = none ∧ s.hotIn r.laneUse = none ∧ s.inhibits r.laneUse = false := by
  rw [State.eligible, Option.isNone_iff_eq_none]
  by_cases h : s.engine = .idle
  · cases hk : s.emptySlot with
    | none => simp [State.cause_of_noSlot h hk]
    | some k =>
      rw [State.cause_of_slot h hk]
      cases s.faultedIn r.laneUse <;> cases s.hotIn r.laneUse <;> simp [h]
  · simp [State.cause_of_busy h, h]

end

theorem State.exists_empty_iff {s : State} : (∃ k : Fin 16, s.reports[k] = .empty) ↔ s.emptySlot ≠ none := by
  rw [ne_eq, State.emptySlot_eq_none]
  simp

/-- Settles O25: the model's checks stand in the order of R39, and an eligible request passes them all. -/
theorem eligibilityAndWaitingCause : Obligations.EligibilityAndWaitingCause := by
  refine ⟨fun s r => ?_, fun s r => ?_, fun s r h => (State.choice_mem h).2⟩
  · rw [State.eligible_iff, State.exists_empty_iff, State.faultedIn_eq_none, State.hotIn_eq_none, ← Bool.not_eq_true,
      State.inhibits_iff]
    simp only [State.faulted_iff, State.hot_iff, not_and, not_not, not_lt]
    cases s.sup.inhibit <;> cases s.sup.override <;> simp
  · dsimp only
    refine ⟨State.cause_of_busy, fun h hk => State.cause_of_noSlot h (State.emptySlot_eq_none.2 hk), fun h hk => ?_⟩
    obtain ⟨k, hk⟩ := Option.ne_none_iff_exists'.1 (State.exists_empty_iff.1 hk)
    simp only [← State.faulted_iff, ← State.hot_iff, ← State.inhibits_iff, State.cause_of_slot h hk]
    refine ⟨fun i hi hj => ?_, fun hf => ⟨fun i hi hj => ?_, fun hh => ?_⟩⟩
    · rw [State.faultedIn_eq_some.2 ⟨hi, hj⟩]; rfl
    · rw [State.faultedIn_eq_none.2 hf, State.hotIn_eq_some.2 ⟨hi, hj⟩]; rfl
    · rw [State.faultedIn_eq_none.2 hf, State.hotIn_eq_none.2 hh]; rfl

end Sys2Proof.Machine
end

section
/-! SUPPORT. The arbiter's choice (R32): what the two searches of the queue find. -/

namespace Sys2Proof.Machine

/-- The minimum that `bestPriority` folds out is below its start value and every member's number. -/
theorem State.foldl_min_le (s : State) (xs : List Request) : ∀ n : Nat,
    xs.foldl (fun p x => min p (s.priorityOf x).priority) n ≤ n ∧
      ∀ x ∈ xs, xs.foldl (fun p x => min p (s.priorityOf x).priority) n ≤ (s.priorityOf x).priority := by
  induction xs with
  | nil => exact fun n => ⟨Nat.le_refl n, fun x hx => by cases hx⟩
  | cons y ys ih =>
    intro n
    rw [List.foldl_cons]
    obtain ⟨hstart, hmem⟩ := ih (min n (s.priorityOf y).priority)
    refine ⟨hstart.trans (Nat.min_le_left _ _), fun x hx => ?_⟩
    rcases List.mem_cons.1 hx with rfl | hx
    · exact hstart.trans (Nat.min_le_right _ _)
    · exact hmem x hx

/-- No member of the list has a priority number below the best one (R32 step 2). -/
theorem State.bestPriority_le (s : State) {es : List Request} {x : Request} (h : x ∈ es) :
    s.bestPriority es ≤ (s.priorityOf x).priority := by
  cases es with
  | nil => cases h
  | cons y ys =>
    obtain ⟨hstart, hmem⟩ := s.foldl_min_le ys (s.priorityOf y).priority
    rcases List.mem_cons.1 h with rfl | h
    · exact hstart
    · exact hmem x h

theorem State.aged_iff {s : State} {r : Request} :
    s.aged r = true ↔ 1 ≤ (s.priorityOf r).maxWait ∧ (s.priorityOf r).maxWait ≤ r.passed := by
  simp [State.aged, Nat.succ_le_iff]

/-- What a search among the eligible requests finds is the oldest eligible one that it accepts. -/
theorem State.find?_eligible {s : State} {p : Request → Bool} {r : Request}
    (h : (s.queue.requests.filter s.eligible).find? p = some r) :
    ∃ before after, s.queue.requests = before ++ r :: after ∧ s.eligible r = true ∧ p r = true ∧
      ∀ x ∈ before, s.eligible x = true → p x = false := by
  rw [List.find?_filter, List.find?_eq_some_iff_append] at h
  obtain ⟨hr, before, after, heq, hbefore⟩ := h
  simp only [Bool.decide_and, Bool.decide_eq_true, Bool.and_eq_true] at hr
  exact ⟨before, after, heq, hr.1, hr.2, fun x hx he => by simpa [he] using hbefore x hx⟩

/-- No request is chosen exactly when none is eligible. -/
theorem State.choice_eq_none_iff {s : State} : s.choice = none ↔ ∀ r ∈ s.queue.requests, s.eligible r = false := by
  constructor
  · intro h r hr
    by_contra he
    obtain ⟨x, hx⟩ := State.choice_isSome hr (Bool.not_eq_false _ ▸ he)
    rw [h] at hx
    cases hx
  · intro h
    cases hc : s.choice with
    | none => rfl
    | some r =>
      obtain ⟨hmem, he⟩ := State.choice_mem hc
      rw [h r hmem] at he
      cases he

/-- Settles O26: the first search finds the oldest aged eligible request, and where it finds none the second finds the oldest eligible
one whose priority number is the lowest among the eligible. -/
theorem arbiterChoosesByAgeThenPriority : Obligations.ArbiterChoosesByAgeThenPriority := by
  refine fun s => ⟨State.choice_eq_none_iff, fun r h => ?_⟩
  unfold State.choice at h
  dsimp only at h
  split at h
  · rename_i x haged
    cases h
    obtain ⟨before, after, heq, he, hr, hbefore⟩ := State.find?_eligible haged
    exact ⟨before, after, heq, he, .inl ⟨State.aged_iff.1 hr, fun x hx hxe ha =>
      Bool.eq_false_iff.1 (hbefore x hx hxe) (State.aged_iff.2 ha)⟩⟩
  · rename_i hnone
    obtain ⟨before, after, heq, he, hr, hbefore⟩ := State.find?_eligible h
    have hr := eq_of_beq hr
    have hbest : ∀ x ∈ s.queue.requests, s.eligible x = true → (s.priorityOf r).priority ≤ (s.priorityOf x).priority :=
      fun x hx hxe => hr ▸ s.bestPriority_le (List.mem_filter.2 ⟨hx, hxe⟩)
    refine ⟨before, after, heq, he, .inr ⟨fun x hx hxe => ⟨fun ha => ?_, hbest x hx hxe⟩, fun x hx hxe => ?_⟩⟩
    · exact List.find?_eq_none.1 hnone x (List.mem_filter.2 ⟨hx, hxe⟩) (State.aged_iff.2 ha)
    · have hne := beq_eq_false_iff_ne.1 (hbefore x hx hxe)
      exact Nat.lt_of_le_of_ne (hbest x (heq ▸ List.mem_append_left _ hx) hxe) fun h => hne (h.symm.trans hr)

end Sys2Proof.Machine
end

section
/-! SUPPORT. No eligible request waits beside an IDLE engine (R31, R39). What a step does between two moments of a grant leaves the engine
busy, or leaves alone what the conditions of R30 read, or makes a condition harder to meet; so every operation is quiet: no grant waits
after it when none waited before. -/

namespace Sys2Proof.Machine

/-! ## Quiet operations -/

/-- No grant waits in `t` when none waits in `s`. -/
def State.Quiet (s t : State) : Prop := s.NoGrantWaits → t.NoGrantWaits

/-- Two states with the same queued requests and the same of all that the conditions of R30 read. -/
def State.SameGates (s t : State) : Prop :=
  t.queue.requests = s.queue.requests ∧ t.engine = s.engine ∧ t.reports = s.reports ∧ t.sup.lanes = s.sup.lanes ∧
    t.sup.heat = s.sup.heat ∧ t.sup.inhibit = s.sup.inhibit ∧ t.sup.override = s.sup.override

section
variable {s t u : State}

theorem State.Quiet.refl : s.Quiet s := id

theorem State.Quiet.trans (h : s.Quiet t) (g : t.Quiet u) : s.Quiet u := fun hs => g (h hs)

/-- Beside a busy engine no grant waits. -/
theorem State.Quiet.of_busy (h : t.engine ≠ .idle) : s.Quiet t := fun _ hi => absurd hi h

/-- After a moment of a grant none waits (R31). -/
theorem State.Quiet.of_moment : s.Quiet t.grantMoment := fun _ => t.grantMoment_noGrantWaits

/-- An operation that adds no request, and meets no condition of R30 that was not met, is quiet. -/
theorem State.Quiet.of_stricter (hq : ∀ r ∈ t.queue.requests, r ∈ s.queue.requests) (he : t.engine = s.engine)
    (hr : ∀ k : Fin 16, t.reports[k] = .empty → s.reports[k] = .empty) (hf : ∀ i, s.faulted i = true → t.faulted i = true)
    (hh : ∀ i, s.hot i = true → t.hot i = true) (hi : ∀ m, s.inhibits m = true → t.inhibits m = true) : s.Quiet t := by
  have heligible : ∀ r, t.eligible r = true → s.eligible r = true := by
    intro r h
    rw [State.eligible_iff, ← State.exists_empty_iff, State.faultedIn_eq_none, State.hotIn_eq_none, ← Bool.not_eq_true] at h ⊢
    obtain ⟨hidle, ⟨k, hk⟩, hfaulted, hhot, hinhibits⟩ := h
    exact ⟨he ▸ hidle, ⟨k, hr k hk⟩, fun i h => hfaulted i ⟨h.1, hf i h.2⟩,
      fun i h => hhot i ⟨h.1, hh i h.2⟩, fun h => hinhibits (hi _ h)⟩
  intro hs
  have hnone := State.choice_eq_none_iff.1 (State.noGrantWaits_iff.1 hs)
  exact State.noGrantWaits_iff.2 (State.choice_eq_none_iff.2 fun r hr => Bool.eq_false_iff.2 fun hel =>
    Bool.eq_false_iff.1 (hnone r (hq r hr)) (heligible r hel))

theorem State.Quiet.of_same (h : s.SameGates t) : s.Quiet t := by
  obtain ⟨hq, he, hr, hl, hh, hi, ho⟩ := h
  exact .of_stricter (by simp [hq]) he (by simp [hr]) (by simp [State.faulted, hl]) (by simp [State.hot, hl, hh])
    (by simp [State.inhibits, hi, ho])

/-- An operation that keeps the granted shot where it is needs looking at only with the engine IDLE. -/
theorem State.Quiet.of_shot (hshot : t.engine.shot? = s.engine.shot?) (h : s.engine = .idle → s.Quiet t) : s.Quiet t := by
  by_cases hi : s.engine = .idle
  · exact h hi
  · refine .of_busy fun ht => hi ?_
    rw [ht] at hshot
    cases he : s.engine <;> simp_all

end

/-! ## What the operations do beside an IDLE engine -/

section
variable {s : State}

theorem State.completeMove_of_idle (h : s.engine = .idle) (k : Fin 4) : s.completeMove k = s := by
  unfold State.completeMove
  split
  · simp [h, Engine.isRunning]
  · rfl

theorem State.completeMoves_of_idle (h : s.engine = .idle) : s.completeMoves = s :=
  State.completeMoves_of_none fun k => by simp [State.moveDue, h, Engine.isRunning]

theorem State.recordEvent_of_idle (h : s.engine = .idle) (i : Fin 16) (d : Direction) (c : Clock) :
    s.recordEvent i d c = s := by simp [State.recordEvent, h]

theorem State.handOver_of_idle (h : s.engine = .idle) (i : Fin 16) (d : Direction) (c : Clock) : s.handOver i d c = s := by
  simp [State.handOver, State.latchEdges, State.informBreakers, State.informCapture, State.fileEvent, h, Engine.isRunning,
    State.recordEvent_of_idle h]

theorem State.openTick_sameGates (s : State) : s.SameGates s.openTick := by
  have hsup : s.openTick.sup.lanes = s.sup.lanes ∧ s.openTick.sup.heat = s.sup.heat ∧
      s.openTick.sup.inhibit = s.sup.inhibit ∧ s.openTick.sup.override = s.sup.override := by
    unfold State.openTick
    split <;> simp
  simp [State.SameGates, hsup]

theorem State.compareLanes_of_idle (h : s.engine = .idle) : s.SameGates s.compareLanes := by
  have hlane : ∀ i, s.compareLane i = s := fun i => by
    simp [State.compareLane, State.toCompare, State.supervised, h]
  have hall : (List.finRange 12).foldl State.compareLane s = s :=
    List.foldlRecOn (motive := fun t => t = s) _ _ rfl fun t ht i _ => by rw [ht, hlane]
  simp [State.SameGates, State.compareLanes, hall]

theorem State.settleTick_of_idle (h : s.engine = .idle) : s.SameGates s.settleTick := by
  have hflush : s.flushElems = s := by simp [State.flushElems, h]
  have hall : s.tick.events.foldl (fun s e => s.recordEvent e.1 e.2 s.now) s = s :=
    List.foldlRecOn (motive := fun t => t = s) _ _ rfl fun t ht e _ => by
      rw [ht, State.recordEvent_of_idle h]
  simp [State.SameGates, State.settleTick, hflush, State.fileWaiting, hall]

end

/-! ## The operations of the engine and its ticks -/

theorem State.requestEnd_quiet (s : State) (r : EndReason) : s.Quiet (s.requestEnd r) := by
  cases h : s.engine with
  | idle => rw [State.requestEnd_of_idle r h]; exact .refl
  | armed sh latch => rw [State.requestEnd_of_armed r h]; exact .of_moment
  | running sh run => rw [State.requestEnd_of_running r h]; exact .of_busy (by simp)
  | settling sh a b => rw [State.requestEnd_of_settling r h]; exact .refl

theorem State.judgeInhibit_quiet (s : State) : s.Quiet s.judgeInhibit := by
  unfold State.judgeInhibit
  split
  · exact s.requestEnd_quiet _
  · exact .refl

theorem State.setQuality_quiet (s : State) (q : Quality) : s.Quiet (s.setQuality q) := by
  unfold State.setQuality State.qualityChanged
  dsimp only
  repeat' split
  · exact .of_same (by simp [State.SameGates])
  · exact .trans (.of_same (by simp [State.SameGates])) (State.requestEnd_quiet _ _)
  · exact .of_same (by simp [State.SameGates])
  · exact .of_same (by simp [State.SameGates])

theorem State.prepare_quiet (s : State) : s.Quiet s.prepare := by
  refine .of_shot (by simp) fun h => ?_
  have hopen : s.openTick.engine = .idle := by simpa using h
  rw [State.prepare, State.completeMoves_of_idle hopen, ite_self]
  exact .of_same s.openTick_sameGates

theorem State.perform_quiet {s : State} {a : Action} (h : s.Ready a) : s.Quiet (s.perform a) := by
  cases a with
  | rest => exact .refl
  | stay => exact .refl
  | start sh => exact .of_busy (by simp [State.perform, State.startShot])
  | finish sh run r cause => exact .of_moment
  | enter sh run target cause n =>
    obtain ⟨run', he, _⟩ := (s.leaveVisit sh run cause n).enterState_engine sh run target
    exact .of_busy (by simp [State.perform, he])
  | defer sh run d => exact .of_busy (by simp [State.perform])

theorem State.settleTick_quiet (s : State) : s.Quiet s.settleTick :=
  .of_shot (by simp) fun h => .of_same (State.settleTick_of_idle h)

theorem State.engineWork_quiet (s : State) : s.Quiet s.engineWork := by
  unfold State.engineWork
  repeat' split
  · exact (s.prepare_quiet.trans (State.perform_quiet s.prepare.action_ready)).trans (State.settleTick_quiet _)
  · exact .of_shot (by simp) fun h => by rw [State.completeMoves_of_idle h]; exact .refl
  · exact .refl

theorem State.compareAll_quiet (s : State) : s.Quiet s.compareAll := by
  have h : s.Quiet s.compareLanes := .of_shot (by simp) fun h => .of_same (State.compareLanes_of_idle h)
  unfold State.compareAll
  split
  · exact h.trans (State.requestEnd_quiet _ _)
  · exact h

theorem State.runTick_quiet (s : State) : s.Quiet s.runTick := by
  unfold State.runTick
  split
  · exact .of_moment
  · exact .refl

/-- A lane's event happens only in RUNNING. -/
theorem State.laneEvent_quiet (s : State) (due : State → Shot → Run → Bool) (act : State → Shot → Run → State)
    (h : ∀ (t : State) sh run, (act t sh run).engine = t.engine) : s.Quiet (s.laneEvent due act) := by
  unfold State.laneEvent
  repeat' split
  · rename_i sh run he _
    exact .of_busy (by rw [h, he]; simp)
  all_goals exact .refl

theorem State.deviationFault_quiet (s : State) (i : Fin 12) : s.Quiet (s.deviationFault i) := by
  unfold State.deviationFault
  repeat' split
  · exact s.engineWork_quiet
  · exact .refl
  · exact s.engineWork_quiet.trans (State.compareAll_quiet _)
  · exact .refl

theorem State.startSecond_quiet (s : State) : s.Quiet s.startSecond := by
  unfold State.startSecond
  repeat' split
  · refine .of_busy fun hi => ?_
    have hs := congrArg Engine.shot? hi
    simp [State.startShot] at hs
  all_goals exact .refl

theorem State.handleMark_quiet (s : State) : s.Quiet s.handleMark := by
  unfold State.handleMark State.acceptMark
  repeat' split
  · have hr : s.SameGates s.reanchor := by unfold State.reanchor; split <;> simp [State.SameGates]
    have hc : ∀ (t : State) (c : TestClock), t.Quiet { t with clock := c } := fun t c => .of_same (by simp [State.SameGates])
    exact (((State.Quiet.of_same hr).trans (hc _ _)).trans (State.setQuality_quiet _ _)).trans (State.startSecond_quiet _)
  all_goals exact .refl

theorem State.expire_quiet (s : State) : s.Quiet s.expire := by
  unfold State.expire
  split
  · exact s.setQuality_quiet _
  · exact .trans (.of_same (by simp [State.SameGates])) (State.setQuality_quiet _ _)

theorem State.endEpisode_quiet (s : State) (i : Fin 16) (e : Episode) : s.Quiet (s.endEpisode i e) := by
  refine .of_shot (by simp) fun h => ?_
  unfold State.endEpisode
  dsimp only
  split
  · exact .of_same (by simp [State.SameGates, State.noteEnded])
  · rw [State.handOver_of_idle (by simpa using h)]
    exact .of_same (by simp [State.SameGates, State.noteEnded])

/-! ## The requests -/

theorem State.clearOverride_quiet (s : State) : s.Quiet s.clearOverride := by
  have h : s.Quiet { s with sup := { s.sup with override := false } } :=
    .of_stricter (fun _ h => h) rfl (fun _ h => h) (fun _ h => h) (fun _ h => h) fun m hm =>
      State.inhibits_iff.2 ⟨(State.inhibits_iff.1 hm).1, .inl rfl⟩
  unfold State.clearOverride
  dsimp only
  split
  · exact h.trans (State.judgeInhibit_quiet _)
  · exact h

theorem State.removeQueued_quiet (s : State) (r : Request) : s.Quiet (s.removeQueued r) :=
  .of_stricter (fun x hx => List.mem_of_mem_erase (by simpa using hx)) (by simp) (by simp)
    (by simp [State.faulted]) (by simp [State.hot]) (by simp [State.inhibits])

theorem State.removeQueuedOf_quiet (s : State) (l : Link) : s.Quiet (s.removeQueuedOf l) :=
  .of_stricter (fun x hx => List.mem_of_mem_filter (by simpa only [State.removeQueuedOf] using hx)) (by simp) (by simp)
    (by simp [State.faulted]) (by simp [State.hot]) (by simp [State.inhibits])

theorem State.endGoWait_quiet (s : State) (l : Link) : s.Quiet (s.endGoWait l) := by
  unfold State.endGoWait
  repeat' split
  · exact s.requestEnd_quiet _
  all_goals exact .refl

theorem State.linkReset_quiet (s : State) (l : Link) : s.Quiet (s.linkReset l) := by
  have hl : s.Quiet (s.setLink l ((s.link l).linkReset l)) := .of_same (by simp [State.SameGates])
  have hr : ∀ t : State, t.Quiet (t.resetRecords l) := fun t => .of_same (by simp [State.SameGates])
  have h := ((hl.trans (State.removeQueuedOf_quiet _ l)).trans (hr _)).trans (State.endGoWait_quiet _ l)
  unfold State.linkReset
  dsimp only
  split
  · exact h.trans (State.clearOverride_quiet _)
  · exact h

/-- The override matters to no request while INHIBIT is deasserted (R30 condition 5). -/
theorem State.setOverrideLatch_quiet (s : State) : s.Quiet s.setOverrideLatch := by
  unfold State.setOverrideLatch
  dsimp only
  split
  · exact .of_moment
  · rename_i h
    refine .of_stricter (fun _ h => h) rfl (fun _ h => h) (fun _ h => h) (fun _ h => h) fun m hm => ?_
    obtain ⟨hi, ho⟩ := State.inhibits_iff.1 hm
    refine State.inhibits_iff.2 ⟨hi, ho.elim (fun ho => ?_) .inr⟩
    simp [hi, ho] at h

/-- A lane declared FAULTED keeps requests from a grant and lets none through (R30 condition 3). -/
theorem State.declareFault_quiet (s : State) (i : Fin 12) : s.Quiet (s.declareFault i) := by
  have h : s.Quiet (s.setCondition i .declared) := by
    have hlane : ∀ j : Fin 12, (s.setCondition i .declared).sup.lanes[j] =
        if j = i then { s.sup.lanes[i] with condition := .declared } else s.sup.lanes[j] := by
      intro j
      by_cases hj : j = i
      · subst hj; unfold State.setCondition State.setSup; dsimp only; split <;> simp
      · unfold State.setCondition State.setSup
        dsimp only
        split <;> simp [Vector.getElem_set_ne, Fin.val_inj, Ne.symm hj]
    have hsup : (s.setCondition i .declared).sup.heat = s.sup.heat ∧
        (s.setCondition i .declared).sup.inhibit = s.sup.inhibit ∧
        (s.setCondition i .declared).sup.override = s.sup.override := by
      unfold State.setCondition State.setSup
      dsimp only
      split <;> simp
    refine .of_stricter (by simp) (by simp) (by simp) (fun j hj => ?_) (fun j hj => ?_) (by simp [State.inhibits, hsup])
    · rw [State.faulted_iff, hlane]
      split
      · simp
      · exact State.faulted_iff.1 hj
    · rw [State.hot_iff, hlane, hsup.1]
      have hj := State.hot_iff.1 hj
      split
      · rename_i he; rwa [← he]
      · exact hj
  have he : (s.sup.lanes[i]).condition.onDeclare = .declared := rfl
  unfold State.declareFault
  dsimp only
  rw [he]
  split
  · exact h.trans (State.requestEnd_quiet _ _)
  · exact h

/-- A link retired from a report that other links wait for empties no slot (R149). -/
theorem State.retire_quiet (s : State) (k : Fin 16) (l : Link) {r : Report} {w : LinkSet} (h : s.reports[k] = .complete r w) :
    s.Quiet (s.retire k l w) := by
  unfold State.retire
  dsimp only
  split
  · exact .of_moment
  · rename_i hw
    refine .of_stricter (fun _ h => h) rfl (fun j hj => ?_) (fun _ h => h) (fun _ h => h) fun _ h => h
    rw [h, Slot.retire, if_neg hw] at hj
    by_cases hjk : j = k
    · subst hjk; simp at hj
    · simpa [Vector.getElem_set_ne, Fin.val_inj, Ne.symm hjk] using hj

theorem State.setDiscipline_quiet (s : State) (on : Bool) : s.Quiet (s.setDiscipline on) := by
  unfold State.setDiscipline
  split
  · exact .refl
  · exact .trans (.of_same (by simp [State.SameGates])) (State.setQuality_quiet _ _)

/-! ## The commands -/

/-- No grant waits after a command when none waited before it. -/
def State.Quiets (s : State) (o : Host.Outcome State Fault Refusal) : Prop := ∀ t, o = .next t → s.Quiet t

section
variable {s : State}

theorem State.Quiets.next {t : State} (h : s.Quiet t) : s.Quiets (.next t) := fun _ e => by
  cases e; exact h

/-- A request is quiet when its effect is; its refusal and its reply touch only its link (R175). -/
theorem State.Quiets.respond {l : Link} {k : Kind} {tag : Byte} {res : Except Denial (State × ReplyBody)}
    (h : ∀ t b, res = .ok (t, b) → s.Quiet t) : s.Quiets (.next (respond l k tag s res)) := by
  intro t e
  cases e
  cases res with
  | error d => exact .of_same (by simp [State.SameGates, Machine.respond])
  | ok p => exact (h p.1 p.2 rfl).trans (.of_same (by simp [State.SameGates, Machine.respond]))

theorem State.Quiets.ok {l : Link} {k : Kind} {tag : Byte} {t : State} {b : ReplyBody} (h : s.Quiet t) :
    s.Quiets (.next (Machine.respond l k tag s (.ok (t, b)))) :=
  .respond fun t' b' e => by cases e; exact h

section
variable {l : Link} {t : State} {b : ReplyBody}

theorem loadState_quiet {body : List Byte} (h : loadState l body s = .ok (t, b)) : s.Quiet t := by
  unfold loadState at h
  repeat' split at h
  all_goals cases h
  exact .of_same (by simp [State.SameGates])

theorem loadProfile_quiet {body : List Byte} (h : loadProfile l body s = .ok (t, b)) : s.Quiet t := by
  unfold loadProfile at h
  repeat' split at h
  all_goals cases h
  exact .of_same (by simp [State.SameGates])

theorem freeState_quiet {n : Byte} (h : freeState l n s = .ok (t, b)) : s.Quiet t := by
  unfold freeState at h
  repeat' split at h
  all_goals cases h
  exact .of_same (by simp [State.SameGates])

theorem freeProfile_quiet {n : Byte} (h : freeProfile l n s = .ok (t, b)) : s.Quiet t := by
  unfold freeProfile at h
  repeat' split at h
  all_goals cases h
  exact .of_same (by simp [State.SameGates])

theorem readStateRecord_quiet {n : Byte} (h : readStateRecord n s = .ok (t, b)) : s.Quiet t := by
  unfold readStateRecord at h
  split at h <;> cases h
  exact .refl

theorem readProfileRecord_quiet {n : Byte} (h : readProfileRecord n s = .ok (t, b)) : s.Quiet t := by
  unfold readProfileRecord at h
  split at h <;> cases h
  exact .refl

theorem submitShot_quiet {x : Submit} (h : submitShot l x s = .ok (t, b)) : s.Quiet t := by
  unfold submitShot at h
  repeat' split at h
  all_goals cases h
  exact .of_moment

theorem abort_quiet {n : Byte} (h : abort l n s = .ok (t, b)) : s.Quiet t := by
  unfold abort abortGranted at h
  repeat' split at h
  all_goals cases h
  · exact s.removeQueued_quiet _
  · exact s.requestEnd_quiet _

theorem setLinkPriority_quiet {p w : Byte} (h : setLinkPriority l p w s = .ok (t, b)) : s.Quiet t := by
  unfold setLinkPriority at h
  split at h
  all_goals cases h
  exact .of_same (by simp [State.SameGates])

theorem go_quiet (h : go l s = .ok (t, b)) : s.Quiet t := by
  unfold go at h
  repeat' split at h
  all_goals cases h
  exact .of_busy (by simp)

theorem panelStep_quiet (h : panelStep l s = .ok (t, b)) : s.Quiet t := by
  unfold panelStep at h
  repeat' split at h
  all_goals cases h
  exact .of_busy (by simp)

theorem adjust_quiet {i d : Byte} (h : adjust l i d s = .ok (t, b)) : s.Quiet t := by
  unfold adjust State.adjustLane at h
  repeat' split at h
  all_goals cases h
  exact .of_same (by simp [State.SameGates])

theorem setSupervision_quiet {i e : Byte} {d : Half16} {m : Byte} {r x : Half16}
    (h : setSupervision l i e d m r x s = .ok (t, b)) : s.Quiet t := by
  unfold setSupervision at h
  repeat' split at h
  all_goals cases h
  exact .of_moment

theorem declareLaneFault_quiet {i : Byte} (h : declareLaneFault l i s = .ok (t, b)) : s.Quiet t := by
  unfold declareLaneFault at h
  repeat' split at h
  all_goals cases h
  exact s.declareFault_quiet _

theorem clearLaneFault_quiet {i : Byte} (h : clearLaneFault l i s = .ok (t, b)) : s.Quiet t := by
  unfold clearLaneFault at h
  repeat' split at h
  all_goals cases h
  exact .of_moment

theorem setOverride_quiet {a : Byte} (h : setOverride l a s = .ok (t, b)) : s.Quiet t := by
  unfold setOverride at h
  repeat' split at h
  all_goals cases h
  · exact s.setOverrideLatch_quiet
  · exact s.clearOverride_quiet

theorem subscribe_quiet {x n : Byte} (h : subscribe l x n s = .ok (t, b)) : s.Quiet t := by
  unfold subscribe at h
  dsimp only at h
  repeat' split at h
  all_goals cases h
  · exact .of_moment
  · exact .of_same (by simp [State.SameGates])

theorem readReport_quiet {k : Byte} {n : Half16} {p v : Byte} {f : Half16} {c : Byte}
    (h : readReport k n p v f c s = .ok (t, b)) : s.Quiet t := by
  unfold readReport at h
  repeat' split at h
  all_goals cases h
  exact .refl

theorem retireReport_quiet {k : Byte} {n : Half16} (h : retireReport l k n s = .ok (t, b)) : s.Quiet t := by
  unfold retireReport at h
  repeat' split at h
  all_goals cases h
  rename_i hk _
  exact s.retire_quiet _ l hk

theorem readCapture_quiet {x : Byte} {f : Half16} {c : Byte} (h : readCapture x f c s = .ok (t, b)) : s.Quiet t := by
  unfold readCapture at h
  dsimp only at h
  repeat' split at h
  all_goals cases h
  exact .refl

theorem setDiscipline_quiet {x : Byte} (h : setDiscipline l x s = .ok (t, b)) : s.Quiet t := by
  unfold setDiscipline at h
  dsimp only at h
  repeat' split at h
  all_goals cases h
  exact s.setDiscipline_quiet _

end

theorem runRequest_quiets (l : Link) (k : Kind) (tag : Byte) (body : List Byte) (s : State) :
    s.Quiets (runRequest l k tag body s) := by
  cases k with
  | nop => exact .ok .refl
  | peekNotices => exact .ok .refl
  | takeNotices => exact .ok (.of_same (by simp [State.SameGates]))
  | clearFault => exact .ok (.of_same (by simp [State.SameGates]))
  | linkReset => exact .ok (s.linkReset_quiet l)
  | loadState => exact .respond fun _ _ => loadState_quiet
  | loadProfile => exact .respond fun _ _ => loadProfile_quiet
  | freeState => exact .respond fun _ _ => freeState_quiet
  | freeProfile => exact .respond fun _ _ => freeProfile_quiet
  | readState => exact .respond fun _ _ => readStateRecord_quiet
  | readProfile => exact .respond fun _ _ => readProfileRecord_quiet
  | tableStatus => exact .ok .refl
  | submitShot => exact .respond fun _ _ => submitShot_quiet
  | abort => exact .respond fun _ _ => abort_quiet
  | setLinkPriority => exact .respond fun _ _ => setLinkPriority_quiet
  | queueStatus => exact .ok .refl
  | go => exact .respond fun _ _ => go_quiet
  | step => exact .respond fun _ _ => panelStep_quiet
  | adjust => exact .respond fun _ _ => adjust_quiet
  | setSupervision => exact .respond fun _ _ => setSupervision_quiet
  | declareLaneFault => exact .respond fun _ _ => declareLaneFault_quiet
  | clearLaneFault => exact .respond fun _ _ => clearLaneFault_quiet
  | setOverride => exact .respond fun _ _ => setOverride_quiet
  | supervisionStatus => exact .ok .refl
  | subscribe => exact .respond fun _ _ => subscribe_quiet
  | reportStatus => exact .ok .refl
  | readReport => exact .respond fun _ _ => readReport_quiet
  | retireReport => exact .respond fun _ _ => retireReport_quiet
  | readCapture => exact .respond fun _ _ => readCapture_quiet
  | setDiscipline => exact .respond fun _ _ => setDiscipline_quiet
  | timeStatus => exact .ok .refl

theorem execBadFrame_quiets (l : Link) (bytes : List Byte) (s : State) : s.Quiets (execBadFrame l bytes s) := by
  unfold execBadFrame
  repeat' split
  · exact .next .refl
  · exact .next (.of_same (by simp [State.SameGates]))
  · exact runRequest_quiets _ _ _ _ _

theorem execMark_quiets (s : State) : s.Quiets (execMark s) := by
  have h : s.Quiet { s with clock := { s.clock with markNow := true } } := .of_same (by simp [State.SameGates])
  refine .next ?_
  split
  · exact h.trans (State.handleMark_quiet _)
  · exact h

theorem execTrigEdge_quiets (s : State) : s.Quiets (execTrigEdge s) := by
  refine .next (.of_shot ?_ fun h => .of_same ?_)
  · split <;> simp
  · split <;> simp [State.SameGates, State.takeTrig, h]

/-- INHIBIT asserted keeps requests from a grant and lets none through (R30 condition 5). -/
theorem execInhibitAssert_quiets (s : State) : s.Quiets (execInhibitAssert s) := by
  refine .next ?_
  split
  · exact .of_same (by simp [State.SameGates])
  · refine .trans ?_ (State.judgeInhibit_quiet _)
    exact .of_stricter (fun _ h => h) rfl (fun _ h => h) (fun _ h => h) (fun _ h => h) fun m _ =>
      State.inhibits_iff.2 ⟨rfl, .inl rfl⟩

theorem execInhibitDeassert_quiets (s : State) : s.Quiets (execInhibitDeassert s) := by
  refine .next ?_
  split
  · exact .of_moment
  · exact .of_same (by simp [State.SameGates])

theorem execVisitClose_quiets (s : State) : s.Quiets (execVisitClose s) := by
  refine .next (.of_shot ?_ fun h => ?_)
  · split <;> simp
  · have hdue : s.visitDue = none := by simp [State.visitDue, State.closing, h]
    rw [hdue]
    exact .refl

theorem execTeardown_quiets (s : State) : s.Quiets (execTeardown s) := by
  refine .next ?_
  split
  · exact .of_moment
  · exact .refl

theorem powerOn_noGrantWaits (s : State) : s.powerOn.NoGrantWaits := fun _ r hr => by cases hr

theorem exec_quiets (c : Instr) (s : State) : s.Quiets (exec c s) := by
  cases hp : frameParts c with
  | some p =>
    obtain ⟨l, k, tag, body⟩ := p
    rw [← runRequest_of_parts hp]
    exact runRequest_quiets l k tag body s
  | none =>
    cases c with
    | powerOnReset => exact .next fun _ => powerOn_noGrantWaits s
    | badFrame l bytes => exact execBadFrame_quiets l bytes s
    | grant => exact .next .of_moment
    | trigEdge => exact execTrigEdge_quiets s
    | mark => exact execMark_quiets s
    | qualityExpiry => exact .next (by split; exacts [s.expire_quiet, .refl])
    | clockWrap => exact .next (by split; exacts [.of_same (by simp [State.SameGates]), .refl])
    | inhibitAssert => exact execInhibitAssert_quiets s
    | inhibitDeassert => exact execInhibitDeassert_quiets s
    | contactRawEdge i level => exact .next (.of_same (by simp [State.SameGates]))
    | episodeEnd i => exact .next (by split; exacts [s.endEpisode_quiet i _, .refl])
    | moveComplete k => exact .next (.of_shot (by simp) fun h => by rw [State.completeMove_of_idle h]; exact .refl)
    | readbackFrame frame => exact .next (.of_same (by simp [State.SameGates]))
    | sampleTick => exact .next s.runTick_quiet
    | timeExit => exact .next (by split; exacts [s.engineWork_quiet, .refl])
    | deferralEnd => exact .next (by split; exacts [s.engineWork_quiet, .refl])
    | shotStart => exact .next (by split; exacts [s.engineWork_quiet, .refl])
    | shotEnd => exact .next (by split; exacts [s.engineWork_quiet, .refl])
    | visitClose => exact execVisitClose_quiets s
    | teardown => exact execTeardown_quiets s
    | deviationFault i => exact .next (s.deviationFault_quiet i)
    | cutTakesEffect i => exact .next (s.laneEvent_quiet _ _ fun t _ _ => by simp [State.cutLane])
    | cutLimit i => exact .next (s.laneEvent_quiet _ _ fun t _ _ => by simp [State.cutLane])
    | reenergise i => exact .next (s.laneEvent_quiet _ _ fun t sh run => by simp)
    | _ => cases hp

end

/-- Settles O28: between two moments of a grant no operation adds a request, empties a slot or lets a condition of R30 be met. -/
theorem stepsLeaveNoGrantWaiting : Obligations.StepsLeaveNoGrantWaiting := by
  intro s t hs h
  unfold step State.idle at h
  repeat' split at h
  · rename_i c rest _
    exact exec_quiets c { s with pending := rest } t h hs
  · exact exec_quiets _ s t h hs
  · cases h
    exact State.Quiet.of_same (s := s) (by simp [State.SameGates]) hs

end Sys2Proof.Machine
end

section
/-! SUPPORT. What a SUBMIT_SHOT derives: a fresh ticket (R22), the reachable set and the first entry of it that refuses (R23 to R25), the
lane-use mask (R27). -/

namespace Sys2Proof.Machine

/-! ## Tickets (R22) -/

/-- The tickets after `n` go round through 1 to 255. -/
theorem ticketAfter_iterate (n j : Nat) : ticketAfter^[j + 1] n = ((if n < 255 then n else 0) + j) % 255 + 1 := by
  induction j with
  | zero =>
    show ticketAfter n = _
    rw [ticketAfter]
    split_ifs <;> omega
  | succ j ih =>
    rw [Function.iterate_succ_apply', ih, ticketAfter]
    split_ifs <;> omega

/-- The search for a ticket stops at the first number that is not in use, unless every number it looks at is. -/
theorem nextTicket_spec (inUse : List Nat) : ∀ fuel last : Nat,
    (∃ k, nextTicket inUse fuel last = ticketAfter^[k + 1] last ∧ (∀ j, j < k → ticketAfter^[j + 1] last ∈ inUse) ∧
      ticketAfter^[k + 1] last ∉ inUse) ∨ ∀ j, j < fuel → ticketAfter^[j + 1] last ∈ inUse := by
  intro fuel
  induction fuel with
  | zero => exact fun _ => .inr fun j hj => by omega
  | succ fuel ih =>
    intro last
    rw [nextTicket]
    split
    · rename_i hnext
      have hnext : ticketAfter last ∈ inUse := by simpa using hnext
      rcases ih (ticketAfter last) with ⟨k, hk, hused, hfree⟩ | hused
      · refine .inl ⟨k + 1, hk, fun j hj => ?_, hfree⟩
        cases j with
        | zero => exact hnext
        | succ j => exact hused j (by omega)
      · refine .inr fun j hj => ?_
        cases j with
        | zero => exact hnext
        | succ j => exact hused j (by omega)
    · rename_i hnext
      exact .inl ⟨0, rfl, fun j hj => by omega, by simpa using hnext⟩

/-- Of 255 tickets in a row one is not in use when at most 254 are. -/
theorem exists_unused_ticket {inUse : List Nat} (h : inUse.length ≤ 254) (last : Nat) :
    ∃ j, j < 255 ∧ ticketAfter^[j + 1] last ∉ inUse := by
  by_contra hall
  push Not at hall
  have hnodup : ((List.range 255).map fun j => ticketAfter^[j + 1] last).Nodup := by
    refine List.Nodup.map_on (fun i hi j hj hij => ?_) List.nodup_range
    rw [List.mem_range] at hi hj
    rw [ticketAfter_iterate, ticketAfter_iterate] at hij
    omega
  have hsub : ((List.range 255).map fun j => ticketAfter^[j + 1] last) ⊆ inUse := by
    intro n hn
    obtain ⟨j, hj, rfl⟩ := List.mem_map.1 hn
    exact hall j (List.mem_range.1 hj)
  have hle := (List.subperm_of_subset hnodup hsub).length_le
  rw [List.length_map, List.length_range] at hle
  omega

/-- Settles O19: the search cannot find every number in use, and a lane is in the mask when a member of the reachable set or the step size
puts it there. -/
theorem submitDerivesTicketAndMask : Obligations.SubmitDerivesTicketAndMask := by
  refine ⟨fun s hlen => ?_, fun s r i => ?_⟩
  · rcases nextTicket_spec s.ticketsInUse 255 s.queue.lastTicket with ⟨k, hk, hused, hfree⟩ | hall
    · have hrange := ticketAfter_iterate s.queue.lastTicket k
      refine ⟨k, hk, hused, ?_⟩
      rw [State.freshTicket, hk]
      exact ⟨hfree, by omega, by omega⟩
    · obtain ⟨j, hj, hfree⟩ := exists_unused_ticket hlen s.queue.lastTicket
      exact absurd (hall j hj) hfree
  · simp [State.completeRequest, State.laneUse]

/-! ## The reachable set (R24) -/

/-- A walk finds nothing that its list and what it has seen do not lead to. -/
theorem State.walk_sound (s : State) {P : Fin 64 → Prop} (hstep : ∀ a b, P a → s.leads a b → P b) :
    ∀ (fuel : Nat) (todo : List (Fin 64)) (seen : StateSet), (∀ a ∈ todo, P a) → (∀ a, has seen a = true → P a) →
      ∀ a, has (s.walk fuel todo seen) a = true → P a := by
  intro fuel
  induction fuel with
  | zero => exact fun _ _ _ hseen => hseen
  | succ fuel ih =>
    intro todo seen htodo hseen
    cases todo with
    | nil => exact hseen
    | cons i rest =>
      have hrest : ∀ a ∈ rest, P a := fun a ha => htodo a (List.mem_cons_of_mem _ ha)
      rw [State.walk]
      split
      · exact ih rest seen hrest hseen
      · refine ih _ _ (fun a ha => ?_) fun a ha => ?_
        · rcases List.mem_append.1 ha with ha | ha
          · exact hstep i a (htodo i List.mem_cons_self) (State.mem_targets.1 ha)
          · exact hrest a ha
        · rw [has_including, Bool.or_eq_true, beq_iff_eq] at ha
          rcases ha with rfl | ha
          · exact htodo a List.mem_cons_self
          · exact hseen a ha

/-- The reachable set holds the states that a chain of exits leads to (R24). -/
theorem State.has_reachable {s : State} {start i : Fin 64} :
    has (s.reachable start) i = true ↔ Relation.ReflTransGen s.leads start i := by
  constructor
  · refine s.walk_sound (P := Relation.ReflTransGen s.leads start) (fun a b ha hab => ha.tail hab) _ _ _ (fun a ha => ?_)
      (fun a ha => ?_) i
    · rw [List.mem_singleton.1 ha]
    · simp at ha
  · intro h
    obtain ⟨hstart, hclosed⟩ := s.reachable_closed start
    induction h with
    | refl => exact hstart
    | tail _ hab ih => exact hclosed _ _ ih hab

/-! ## The first refusal of a reachable set (R23 to R25) -/

/-- A search of a set in ascending order gives what its first member that has something gives. -/
theorem findSome?_members {n : Nat} {m : BitVec n} {α : Type} {f : Fin n → Option α} {i : Fin n} {d : α}
    (hi : has m i = true) (hd : f i = some d) (hbefore : ∀ j, j < i → has m j = true → f j = none) :
    (members m).findSome? f = some d := by
  have key : ∀ l : List (Fin n), l.Pairwise (· < ·) → i ∈ l → (∀ j ∈ l, j < i → f j = none) → l.findSome? f = some d := by
    intro l
    induction l with
    | nil => exact fun _ h => by cases h
    | cons x xs ih =>
      intro hsorted hmem hnone
      rw [List.pairwise_cons] at hsorted
      rcases List.mem_cons.1 hmem with rfl | hmem
      · rw [List.findSome?_cons, hd]
      · rw [List.findSome?_cons, hnone x List.mem_cons_self (hsorted.1 i hmem)]
        exact ih hsorted.2 hmem fun j hj => hnone j (List.mem_cons_of_mem _ hj)
  exact key _ ((List.pairwise_lt_finRange n).filter _) (mem_members.2 hi) fun j hj hji => hbefore j hji (mem_members.1 hj)

/-- The holder check lets through exactly the records LOADED by the link, at any lock count. -/
theorem Rec.submitDenial_eq_none {α : Type} {l : Link} {k : Nat} {x : Rec α} :
    x.submitDenial l k = none ↔ ∃ n c, x = .loaded (some l) n c := by
  cases x with
  | free => simp [Rec.submitDenial]
  | loaded h n c => by_cases hh : h = some l <;> simp [Rec.submitDenial, hh]

theorem firstFailing_eq_none {α : Type} {ok : α → Bool} {xs : List α} :
    firstFailing ok xs = none ↔ ∀ x ∈ xs, ok x = true := by
  induction xs with
  | nil => simp [firstFailing]
  | cons x xs ih => cases h : ok x <;> simp [firstFailing, h, ih]

/-- The slot found is that of the first element that fails. -/
theorem firstFailing_eq_some {α : Type} {ok : α → Bool} {xs : List α} : ∀ {n : Nat} {x : α}, xs[n]? = some x → ok x = false →
    (∀ y ∈ xs.take n, ok y = true) → firstFailing ok xs = some n := by
  induction xs with
  | nil => intro n x hx; simp at hx
  | cons y ys ih =>
    intro n x hx hfails hbefore
    cases n with
    | zero =>
      obtain rfl : y = x := by simpa using hx
      simp [firstFailing, hfails]
    | succ n =>
      have hy : ok y = true := hbefore y (by simp)
      rw [firstFailing, if_pos hy, ih (by simpa using hx) hfails fun z hz => hbefore z (by simp [hz])]
      rfl

section
variable {e : StateEntry} {i : Fin 64} {p : Profile}

theorem StateEntry.conflict_eq_none : e.conflict i p = none ↔
    (∀ x ∈ e.exits, x.passes p = true) ∧ ∀ a ∈ e.assessments, a.passesProfile p = true := by
  rw [StateEntry.conflict, ← firstFailing_eq_none, ← firstFailing_eq_none]
  cases firstFailing (fun x : Exit => x.passes p) e.exits <;> simp

theorem StateEntry.conflict_of_exit {n : Nat} {x : Exit} (hx : e.exits[n]? = some x) (hfails : x.passes p = false)
    (hbefore : ∀ y ∈ e.exits.take n, y.passes p = true) : e.conflict i p = some (.conflict i .exits n) := by
  rw [StateEntry.conflict, firstFailing_eq_some hx hfails hbefore]

theorem StateEntry.conflict_of_assessment {n : Nat} {a : Assessment} (hexits : ∀ x ∈ e.exits, x.passes p = true)
    (ha : e.assessments[n]? = some a) (hfails : a.passesProfile p = false)
    (hbefore : ∀ y ∈ e.assessments.take n, y.passesProfile p = true) :
    e.conflict i p = some (.conflict i .assessments n) := by
  rw [StateEntry.conflict, firstFailing_eq_none.2 hexits, firstFailing_eq_some ha hfails hbefore]
  rfl

end

/-- Settles O20: the walk finds what chains of exits find, and each stage searches what it finds in ascending order. -/
theorem reachableSetIsTheWalk : Obligations.ReachableSetIsTheWalk := by
  refine fun s start => ⟨fun i => State.has_reachable, fun l => ⟨fun h => ?_, fun i hi hbefore => ⟨fun hfree => ?_, ?_⟩⟩,
    fun p => ?_⟩
  · exact List.findSome?_eq_none_iff.2 fun i hi => Rec.submitDenial_eq_none.2 (h i (mem_members.1 hi))
  · exact findSome?_members hi (by rw [hfree]; rfl) fun j hj hjm => Rec.submitDenial_eq_none.2 (hbefore j hj hjm)
  · intro h n e hl hh
    exact findSome?_members hi (by rw [hl, Rec.submitDenial, if_neg hh]) fun j hj hjm =>
      Rec.submitDenial_eq_none.2 (hbefore j hj hjm)
  · intro off out exitFails assessFails passes
    have hexit : ∀ x : Exit, ¬exitFails x ↔ x.passes p = true := by
      rintro ⟨kind, target⟩
      cases kind <;> simp [exitFails, off, out, Exit.passes]
    have hassess : ∀ a : Assessment, ¬assessFails a ↔ a.passesProfile p = true := by
      rintro ⟨kind, origin, mode, low, high⟩
      cases kind <;> simp [assessFails, off, out, Assessment.passesProfile]
    have hpasses : ∀ i, passes i → (s.entry i).conflict i p = none := fun i h =>
      StateEntry.conflict_eq_none.2 ⟨fun x hx => (hexit x).1 (h.1 x hx), fun a ha => (hassess a).1 (h.2 a ha)⟩
    have of_fails : ∀ {b : Bool} {q : Prop}, (¬q ↔ b = true) → q → b = false := fun h hq =>
      Bool.eq_false_iff.2 fun hb => h.2 hb hq
    refine ⟨fun h => ?_, fun i hi hbefore => ⟨fun n x hx hfails hfirst => ?_, fun hexits n a ha hfails hfirst => ?_⟩⟩
    · exact List.findSome?_eq_none_iff.2 fun i hi => hpasses i (h i (mem_members.1 hi))
    · exact findSome?_members hi (StateEntry.conflict_of_exit hx (of_fails (hexit x) hfails) fun y hy =>
        (hexit y).1 (hfirst y hy)) fun j hj hjm => hpasses j (hbefore j hj hjm)
    · exact findSome?_members hi (StateEntry.conflict_of_assessment (fun x hx => (hexit x).1 (hexits x hx)) ha
        (of_fails (hassess a) hfails) fun y hy => (hassess y).1 (hfirst y hy)) fun j hj hjm => hpasses j (hbefore j hj hjm)

end Sys2Proof.Machine
end

section
/-! SUPPORT. SUBMIT_SHOT, ABORT, SET_LINK_PRIORITY and QUEUE_STATUS, case by case (R23 to R26, R37, R38, R40, R61). -/

namespace Sys2Proof.Machine

/-! ## SUBMIT_SHOT (R23 to R26) -/

theorem startCondition?_eq_none {n : Nat} : startCondition? n = none ↔ 3 < n := by
  match n with
  | 0 | 1 | 2 | 3 => decide
  | n + 4 => simp [startCondition?]

theorem reportMode?_eq_none {n : Nat} : reportMode? n = none ↔ 2 < n := by
  match n with
  | 0 | 1 | 2 => decide
  | n + 3 => simp [reportMode?]

@[simp] theorem startCondition?_code (c : StartCondition) : startCondition? c.code = some c := by cases c <;> rfl

@[simp] theorem reportMode?_code (m : ReportMode) : reportMode? m.code = some m := by cases m <;> rfl

/-- A check in a row names its field when it is the first that fails (R13). -/
theorem firstBad_failsAt {n : Nat} {b : Bool} {cs : List (Option Nat)} :
    firstBad (failsAt n b :: cs) = if b = true then some n else firstBad cs := by
  cases b <;> rfl

/-- The field checks of stage 2 in their order (R23). -/
theorem Submit.bad_eq (x : Submit) : x.bad =
    if 63 < x.start.toNat then some 0
    else if 3 < x.profile.toNat then some 1
    else if 3 < x.condition.toNat then some 2
    else if 2 < x.mode.toNat then some 3
    else if x.capture ≠ 0 ∧ 2048 < x.preCount.toNat then some 7
    else if x.capture ≠ 0 ∧ 4095 < x.capLanes.toNat then some 8
    else none := by
  simp only [Submit.bad, firstBad_failsAt, firstBad_nil, decide_eq_true_iff, Option.isNone_iff_eq_none,
    startCondition?_eq_none, reportMode?_eq_none, yes, Bool.and_eq_true, Nat.succ_le_iff]
  rfl

section
variable {l : Link} {x : Submit} {s : State}

theorem submitShot_of_bad {n : Nat} (hl : l ≠ .supervision) (h : x.bad = some n) :
    submitShot l x s = .error (badRequest n) := by
  rw [submitShot, if_neg hl, h]

theorem submitShot_of_denial {d : Denial} (hl : l ≠ .supervision) (hb : x.bad = none)
    (h : s.submitDenial l (x.request l) = some d) : submitShot l x s = .error d := by
  rw [submitShot, if_neg hl, hb]
  dsimp only
  rw [h]

theorem submitShot_of_taken (hl : l ≠ .supervision) (hb : x.bad = none) (h : s.submitDenial l (x.request l) = none) :
    submitShot l x s = .ok ((s.enqueue (s.completeRequest (x.request l))).grantMoment,
      .submitted (s.completeRequest (x.request l)).ticket (s.completeRequest (x.request l)).laneUse
        (s.completeRequest (x.request l)).reach) := by
  rw [submitShot, if_neg hl, hb]
  dsimp only
  rw [h]

end

/-- The quality lets no SECOND shot wait exactly when it is DISABLED or FREE (R35). -/
theorem Quality.lost_iff {q : Quality} : q.lost = true ↔ q = .disabled ∨ q = .free := by cases q <;> simp [Quality.lost]

/-- Stage 4 refuses a profile that is FREE or held by another (R23). -/
theorem State.submitDenial_of_unheld {s : State} {l : Link} {r : Request} {d : Denial}
    (hroom : s.queue.requests.length < 8)
    (hd : (s.tables.profiles[r.profile]).submitDenial l r.profile.val = some d) : s.submitDenial l r = some d := by
  rw [State.submitDenial, if_neg (show ¬Config.queueSize ≤ _ from Nat.not_le.2 hroom), hd]

/-- Stages 4 to 7 for a queue with room and a profile LOADED by the submitter (R23). -/
theorem State.submitDenial_of_profile {s : State} {l : Link} {r : Request} {n : Nat} {p : Profile}
    (hroom : s.queue.requests.length < 8) (hp : s.tables.profiles[r.profile] = .loaded (some l) n p) :
    s.submitDenial l r = (s.holderDenial l (s.reachable r.start)).or ((s.conflictDenial (s.reachable r.start) p).or
      (if r.condition = .second ∧ (s.clock.quality = .disabled ∨ s.clock.quality = .free) then
        some (.noTime s.clock.quality) else none)) := by
  have hprofile : s.profile r.profile = p := by rw [State.profile, hp]; rfl
  rw [State.submitDenial, if_neg (show ¬Config.queueSize ≤ _ from Nat.not_le.2 hroom), hp,
    Rec.submitDenial_eq_none.2 ⟨n, p, rfl⟩, hprofile]
  simp only [Quality.lost_iff]
  cases s.holderDenial l (s.reachable r.start) <;> cases s.conflictDenial (s.reachable r.start) p <;> rfl

/-- Settles O21: no stage refuses, and what is stored of the fields is what they spell. -/
theorem submitShotJoinsTheQueue : Obligations.SubmitShotJoinsTheQueue := by
  intro l tag start profile condition mode adjust capture trigMask preCount capLanes s lock p hl hcap hroom hp hstates htime r
  have hstart : (BitVec.ofNat 8 start.val).toNat = start.val := by simp; omega
  have hprofile : (BitVec.ofNat 8 profile.val).toNat = profile.val := by simp; omega
  have hcondition : (BitVec.ofNat 8 condition.code).toNat = condition.code := by cases condition <;> rfl
  have hmode : (BitVec.ofNat 8 mode.code).toNat = mode.code := by cases mode <;> rfl
  let x : Submit := ⟨BitVec.ofNat 8 start.val, BitVec.ofNat 8 profile.val, BitVec.ofNat 8 condition.code,
    BitVec.ofNat 8 mode.code, adjust, capture, trigMask, preCount, capLanes⟩
  have hbad : x.bad = none := by
    have hc : condition.code ≤ 3 := by cases condition <;> decide
    have hm : mode.code ≤ 2 := by cases mode <;> decide
    simp only [Submit.bad_eq, x, hstart, hprofile, hcondition, hmode]
    grind
  have hprof : s.profile profile = p := by rw [State.profile, hp]; rfl
  have hreq : x.request l = { r with ticket := 0, reach := 0, laneUse := 0 } := by
    simp only [Submit.request, x, r, hstart, hprofile, hcondition, hmode, startCondition?_code, reportMode?_code,
      Option.getD_some, yes, decide_eq_true_iff, BitVec.ofNat_toNat, Fin.ofNat_val_eq_self]
  have hr : s.completeRequest (x.request l) = r := by rw [hreq, State.completeRequest, hprof]
  have hholder : s.holderDenial l (s.reachable start) = none := List.findSome?_eq_none_iff.2 fun i hi =>
    have ⟨n, e, he, _⟩ := hstates i (mem_members.1 hi)
    Rec.submitDenial_eq_none.2 ⟨n, e, he⟩
  have hconflict : s.conflictDenial (s.reachable start) p = none := List.findSome?_eq_none_iff.2 fun i hi => by
    obtain ⟨n, e, he, hpasses⟩ := hstates i (mem_members.1 hi)
    rw [State.entry, he]
    exact StateEntry.conflict_eq_none.2 hpasses
  have hdenial : s.submitDenial l (x.request l) = none := by
    rw [hreq, State.submitDenial_of_profile hroom hp, hholder, hconflict]
    exact if_neg fun h => h.2.elim (htime h.1).1 (htime h.1).2
  show Host.Outcome.next (respond l .submitShot tag s (submitShot l x s)) = _
  rw [submitShot_of_taken hl hbad hdenial, hr, respond_ok]
  rfl

/-- Settles O22: each outcome of the stages in their order. -/
theorem submitShotRefusals : Obligations.SubmitShotRefusals := by
  intro l tag start profile condition mode adjust capture trigMask preCount capLanes s refused field
  let x : Submit := ⟨start, profile, condition, mode, adjust, capture, trigMask, preCount, capLanes⟩
  have of_error : ∀ {d : Denial}, submitShot l x s = .error d → refused d := fun {d} h => by
    show Host.Outcome.next (respond l .submitShot tag s (submitShot l x s)) = _
    rw [h, respond_error]
  have hbad := x.bad_eq
  split_ifs with hl h0 h1 h2 h3 h7 h8 hroom
  · exact of_error (if_pos hl)
  · exact of_error (submitShot_of_bad hl (hbad.trans (if_pos h0)))
  · exact of_error (submitShot_of_bad hl (by rw [hbad, if_neg h0, if_pos h1]))
  · exact of_error (submitShot_of_bad hl (by rw [hbad, if_neg h0, if_neg h1, if_pos h2]))
  · exact of_error (submitShot_of_bad hl (by rw [hbad, if_neg h0, if_neg h1, if_neg h2, if_pos h3]))
  · exact of_error (submitShot_of_bad hl (by rw [hbad, if_neg h0, if_neg h1, if_neg h2, if_neg h3, if_pos h7]))
  · exact of_error (submitShot_of_bad hl (by
      rw [hbad, if_neg h0, if_neg h1, if_neg h2, if_neg h3, if_neg h7, if_pos h8]))
  all_goals rw [if_neg h0, if_neg h1, if_neg h2, if_neg h3, if_neg h7, if_neg h8] at hbad
  · exact of_error (submitShot_of_denial hl hbad (if_pos hroom))
  · intro p reach
    have hroom := Nat.not_le.1 hroom
    have of_denial : ∀ {d : Denial}, s.submitDenial l (x.request l) = some d → refused d := fun h =>
      of_error (submitShot_of_denial hl hbad h)
    have hp : s.tables.profiles[(x.request l).profile] = s.tables.profiles[p] := rfl
    cases hx : s.tables.profiles[p] with
    | free => exact of_denial (State.submitDenial_of_unheld hroom (by rw [hp, hx]; rfl))
    | loaded h n y =>
      dsimp only
      split_ifs with hh
      · exact of_denial (State.submitDenial_of_unheld hroom (by rw [hp, hx]; exact if_neg hh))
      · obtain rfl : h = some l := not_not.1 hh
        have hdenial : s.submitDenial l (x.request l) = (s.holderDenial l reach).or ((s.conflictDenial reach y).or
            (if (x.request l).condition = .second ∧ (s.clock.quality = .disabled ∨ s.clock.quality = .free) then
              some (.noTime s.clock.quality) else none)) := State.submitDenial_of_profile hroom hx
        cases hholder : s.holderDenial l reach with
        | some d => exact of_denial (by rw [hdenial, hholder]; rfl)
        | none =>
          cases hconflict : s.conflictDenial reach y with
          | some d => exact of_denial (by rw [hdenial, hholder, hconflict]; rfl)
          | none =>
            intro hcond hq
            have hsecond : (x.request l).condition = .second := by simp [Submit.request, x, hcond, startCondition?]
            exact of_denial (by rw [hdenial, hholder, hconflict, if_pos ⟨hsecond, hq⟩]; rfl)

/-! ## ABORT (R40, R61) -/

section
variable {l : Link} {ticket : Byte} {s : State}

/-- The oldest request with a ticket is the one that an ABORT of it finds. -/
theorem find?_ticket {before after : List Request} {r : Request} (hr : r.ticket = ticket.toNat)
    (hbefore : ∀ x ∈ before, x.ticket ≠ ticket.toNat) :
    (before ++ r :: after).find? (fun x => x.ticket == ticket.toNat) = some r := by
  rw [List.find?_eq_some_iff_append]
  exact ⟨by simpa using hr, before, after, rfl, fun x hx => by simpa using hbefore x hx⟩

/-- The request found leaves the queue, the others keeping their order (R40). -/
theorem State.removeQueued_eq {before after : List Request} {r : Request} (hq : s.queue.requests = before ++ r :: after)
    (hr : r ∉ before) : s.removeQueued r =
      { s with queue := { s.queue with requests := before ++ after }, tables := s.tables.releaseFor r } := by
  rw [State.removeQueued, hq, List.erase_append_right _ hr, List.erase_cons_head]

theorem abort_of_queued {r : Request} (h : s.queue.requests.find? (fun x => x.ticket == ticket.toNat) = some r) :
    abort l ticket s =
      if l = .plan ∧ r.link = .panel then .error .notPermitted else .ok (s.removeQueued r, .removed r.ticket) := by
  rw [abort, h]

/-- An ABORT whose ticket no queued request has speaks of the granted shot, by its ticket or by 0 (R40). -/
theorem abort_of_unqueued (h : ∀ x ∈ s.queue.requests, x.ticket ≠ ticket.toNat) : abort l ticket s =
    match s.engine.shot? with
    | none => .error .noShot
    | some sh =>
      if ticket.toNat ≠ 0 ∧ ticket.toNat ≠ sh.req.ticket then .error .noShot else abortGranted l sh s := by
  have hnone : s.queue.requests.find? (fun x => x.ticket == ticket.toNat) = none :=
    List.find?_eq_none.2 fun x hx => by simpa using h x hx
  rw [abort, hnone]
  dsimp only
  rw [State.abortNames]
  cases s.engine.shot? with
  | none => rfl
  | some sh =>
    dsimp only
    split_ifs with h1 h2 h3
    · exact absurd h1 (by tauto)
    · rfl
    · rfl
    · exact absurd h1 (by tauto)

theorem abortGranted_of_settling {sh : Shot} {a : Option Clock} {b : Clock} (h : s.engine = .settling sh a b) :
    abortGranted l sh s = .error .noShot := by simp [abortGranted, h, Engine.isSettling]

theorem abortGranted_of_armed {sh : Shot} {a : Option Clock} (h : s.engine = .armed sh a) : abortGranted l sh s =
    if l = .plan ∧ sh.req.link = .panel then .error .notPermitted
    else .ok (s.requestEnd (.abort l), .aborted sh.req.ticket .armed (.abort l)) := by
  simp [abortGranted, h, Engine.isSettling, Engine.name, State.standingReason]

/-- In RUNNING a reason already pending stands (R61). -/
theorem abortGranted_of_running {sh : Shot} {run : Run} (h : s.engine = .running sh run) : abortGranted l sh s =
    if l = .plan ∧ sh.req.link = .panel then .error .notPermitted
    else .ok ({ s with engine := .running sh { run with pendingEnd := some (run.pendingEnd.getD (.abort l)) } },
      .aborted sh.req.ticket .running (run.pendingEnd.getD (.abort l))) := by
  simp [abortGranted, h, Engine.isSettling, Engine.name, State.standingReason, State.requestEnd_of_running _ h]

end

/-- Settles O23: the ticket names a queued request, or the granted shot in one of its engine states, or nothing. -/
theorem abortRemovesOrEnds : Obligations.AbortRemovesOrEnds := by
  refine ⟨fun l tag ticket s before after r hq hr hbefore => ?_, fun l tag ticket s hnone => ?_⟩
  · have habort := abort_of_queued (l := l) (hq ▸ find?_ticket (after := after) hr hbefore)
    have hexec : exec (.abort l tag ticket) s = .next (respond l .abort tag s (abort l ticket s)) := rfl
    refine ⟨fun hl hlink => ?_, fun hl => ?_⟩
    · rw [hexec, habort, if_pos ⟨hl, hlink⟩, respond_error]
    · rw [hexec, habort, if_neg hl, State.removeQueued_eq hq fun hmem => hbefore r hmem hr, respond_ok]
  · have habort := abort_of_unqueued (l := l) hnone
    have hexec : exec (.abort l tag ticket) s = .next (respond l .abort tag s (abort l ticket s)) := rfl
    dsimp only
    rw [hexec, habort]
    cases he : s.engine with
    | idle => rfl
    | settling sh a b =>
      simp only [Engine.shot?_settling, abortGranted_of_settling he, ite_self]
      rfl
    | armed sh a =>
      simp only [Engine.shot?_armed, abortGranted_of_armed he]
      split_ifs <;> rfl
    | running sh run =>
      simp only [Engine.shot?_running, abortGranted_of_running he]
      split_ifs <;> rfl

/-! ## SET_LINK_PRIORITY and QUEUE_STATUS (R37, R38) -/

/-- Settles O24: the clamped values and the reply are written over the link's own item. -/
theorem linkPriorityAndQueueStatus : Obligations.LinkPriorityAndQueueStatus := by
  refine fun l tag priority maxWait s => ⟨fun hl => ?_, fun hl => ?_, rfl⟩
  · show Host.Outcome.next (respond l .setLinkPriority tag s (setLinkPriority l priority maxWait s)) = _
    rw [setLinkPriority, if_pos hl, respond_error]
  · show Host.Outcome.next (respond l .setLinkPriority tag s (setLinkPriority l priority maxWait s)) = _
    rw [setLinkPriority, if_neg hl, respond_ok, State.setReply_setLink]
    rfl

end Sys2Proof.Machine
end

section
/-! SUPPORT. The grant (R31 to R35, R45, R134, R154): what it writes, and the end of a SECOND shot that is granted without time. -/

namespace Sys2Proof.Machine

/-! ## What a grant writes -/

theorem Request.passOver_eq (r : Request) : r.passOver = { r with passed := min (r.passed + 1) 15 } := by
  have h : saturateSucc Config.maxPassedOver r.passed = min (r.passed + 1) 15 := by
    rw [saturateSucc, Config.maxPassedOver]
    split_ifs <;> omega
  rw [Request.passOver, h]

/-- The shot that a grant makes of a request (R33, R43). -/
def State.shotOf (s : State) (r : Request) (slot : Fin 16) : Shot :=
  { req := r, serial := serialAfter s.queue.lastSerial, slot := slot, half := s.halfFor r }

/-- The report that a grant opens (R33 step 6, R135). -/
def State.reportOf (s : State) (r : Request) : Report :=
  { header := .granted r (serialAfter s.queue.lastSerial) s.now (r.capture && (s.halfFor r).isNone), visits := [],
    results := [], timeline := [] }

section
variable (s : State) (r : Request) (slot : Fin 16)

theorem State.grantInto_armed : (s.grantInto r slot).engine = .armed (s.shotOf r slot) (s.latchAtGrant r) :=
  State.grantInto_engine s r slot

theorem State.grantInto_reports : (s.grantInto r slot).reports = s.reports.set slot (.building (s.reportOf r)) := by
  simp only [State.grantInto, State.raiseGranted_reports, State.onHalf_reports]
  rfl

theorem State.grantInto_links : (s.grantInto r slot).links = (s.setLink r.link
    { s.link r.link with notices := { (s.link r.link).notices with granted := true } }).links := by
  unfold State.grantInto
  cases s.halfFor r <;> rfl

/-- The half taken is FILLING with the capture settings of the request, and the other is as it was (R154). -/
theorem State.grantInto_half (h : HalfId) : (s.grantInto r slot).captures.get h =
    if s.halfFor r = some h then Half.taken r else s.captures.get h := by
  simp only [State.grantInto, State.raiseGranted_captures, State.onHalf_get]

theorem State.grantInto_frame : s.grantInto r slot =
    { s with queue := (s.grantInto r slot).queue, engine := (s.grantInto r slot).engine,
             reports := (s.grantInto r slot).reports, captures := (s.grantInto r slot).captures,
             links := (s.grantInto r slot).links } := by
  unfold State.grantInto
  cases s.halfFor r <;> rfl

end

/-! ## The moment of a grant (R31, R35) -/

section
variable {s : State} {r : Request} {slot : Fin 16}

theorem State.grantLoop_of_choice (n : Nat) (hc : s.choice = some r) (hk : s.emptySlot = some slot) :
    State.grantLoop (n + 1) s =
      if r.condition = .second ∧ (s.clock.quality = .disabled ∨ s.clock.quality = .free) then
        State.grantLoop n ((s.grantInto r slot).endArmed (s.shotOf r slot) .timeLost)
      else s.grantInto r slot := by
  rw [State.grantLoop, hc, hk]
  simp only [State.grantInto_armed, Quality.lost_iff]

/-- A moment of a grant with a request chosen takes it, and goes on while the shot it makes ends at once (R31, R35). -/
theorem State.grantMoment_of_choice (hc : s.choice = some r) (hk : s.emptySlot = some slot) :
    s.grantMoment =
      if r.condition = .second ∧ (s.clock.quality = .disabled ∨ s.clock.quality = .free) then
        State.grantLoop (s.queue.requests.erase r).length ((s.grantInto r slot).endArmed (s.shotOf r slot) .timeLost)
      else s.grantInto r slot := by
  have hlen : s.queue.requests.length = (s.queue.requests.erase r).length + 1 := by
    have hm := (State.choice_mem hc).1
    rw [List.length_erase_of_mem hm]
    have := List.length_pos_of_mem hm
    omega
  rw [State.grantMoment, hlen, State.grantLoop_of_choice _ hc hk]

end

/-! ## The end of an ARMED shot (R59, R63) -/

/-- The state in which a shot ended from ARMED settles (R59). -/
def State.settled (s : State) (sh : Shot) (r : EndReason) : State :=
  { (s.onHalf sh.half Half.stop).writeEnd sh r with engine := .settling sh none s.now }

section
variable (s : State) (sh : Shot) (r : EndReason)

theorem State.settled_keeps : (s.settled sh r).tables = s.tables ∧ (s.settled sh r).queue = s.queue ∧
    (s.settled sh r).clock = s.clock ∧ (s.settled sh r).engine = .settling sh none s.now := by
  simp [State.settled]

/-- The end time and reason are in the report of the settling shot (R60 step 5). -/
theorem State.settled_report {rep : Report} (h : s.reports[sh.slot] = .building rep) :
    ∃ cut, (s.settled sh r).reports[sh.slot] = .building { rep with
      header := { rep.header with endTime := some s.now, endReason := some r, cutShort := cut } } := by
  refine ⟨(s.onHalf sh.half Half.stop).halfCutShort sh.half, ?_⟩
  simp only [State.settled, State.writeEnd, State.onReport_get, State.onHalf_reports, h, if_true, State.now,
    State.onHalf_clock]
  rfl

/-- With a debounce horizon above 0 the shot settles; with a horizon of 0 it is torn down in the same action (R63). -/
theorem State.endArmed_eq : s.endArmed sh r =
    if (s.profile sh.req.profile).horizon = 0 then (s.settled sh r).tearDown sh else s.settled sh r := by
  have hprofile : ((s.onHalf sh.half Half.stop).writeEnd sh r).profile sh.req.profile = s.profile sh.req.profile := by
    simp [State.profile]
  have hnow : ((s.onHalf sh.half Half.stop).writeEnd sh r).now = s.now := by simp [State.now]
  rw [State.endArmed, State.settle, State.horizon, hprofile, hnow]
  rfl

end

/-- TEARDOWN of a SETTLING shot whose horizon has passed (R63, R64). -/
theorem exec_teardown_of_due {s : State} {sh : Shot} {start : Option Clock} {finish : Clock}
    (he : s.engine = .settling sh start finish) (hd : (s.profile sh.req.profile).horizon ≤ elapsed finish s.now) :
    exec .teardown s = .next (s.tearDown sh).grantMoment := by
  have hdue : s.teardownDue = some sh := by rw [State.teardownDue, he]; exact if_pos hd
  show Host.Outcome.next _ = _
  rw [hdue]

/-- What stands of a SECOND shot granted without time as it settles (R35, R59). -/
theorem State.settled_of_grant (s : State) (r : Request) (slot : Fin 16) :
    let t := (s.grantInto r slot).settled (s.shotOf r slot) .timeLost
    ∃ rep, t.engine = .settling (s.shotOf r slot) none s.now ∧ t.reports[slot] = .building rep ∧
      rep.header.endReason = some .timeLost ∧ rep.header.endTime = some s.now ∧ rep.header.startTime = none ∧
      rep.visits = [] ∧ t.queue.requests = (s.queue.requests.erase r).map Request.passOver ∧ t.tables = s.tables := by
  intro t
  have hrep : (s.grantInto r slot).reports[(s.shotOf r slot).slot] = .building (s.reportOf r) := by
    rw [State.grantInto_reports]
    exact Vector.getElem_set_self _
  obtain ⟨cut, hsettled⟩ := State.settled_report _ _ .timeLost hrep
  obtain ⟨htables, hqueue, _, hengine⟩ := (s.grantInto r slot).settled_keeps (s.shotOf r slot) .timeLost
  have hnow : (s.grantInto r slot).now = s.now := by simp [State.now]
  rw [hnow] at hsettled hengine
  exact ⟨_, hengine, hsettled, rfl, rfl, rfl, rfl, by rw [hqueue, State.grantInto_queue], by rw [htables]; simp⟩

/-- Settles O27: a moment of a grant takes the chosen request; a SECOND shot without time is then ended from ARMED. -/
theorem grantHandsOverTheEngine : Obligations.GrantHandsOverTheEngine := by
  have hexec : ∀ s, exec .grant s = .next s.grantMoment := fun _ => rfl
  have hhorizon : ∀ (s : State) (r : Request) (slot : Fin 16),
      (s.grantInto r slot).profile (s.shotOf r slot).req.profile = s.profile r.profile := fun s r slot => by
    simp [State.profile, State.shotOf]
  refine ⟨fun s => ⟨fun hc => by rw [hexec, State.grantMoment_of_none hc], fun r slot hc hk htime => ?_⟩,
    fun s r slot hc hk hsecond hq hh => ?_, fun s r slot hc hk hsecond hq hh => ?_⟩
  · intro serial half
    have hhalf : s.halfFor r = half := by simp only [State.halfFor, Captures.toTake, half]
    refine ⟨s.grantInto r slot, ?_, ?_, ?_, ?_, fun h => ?_, s.grantInto_links r slot, s.grantInto_frame r slot⟩
    · rw [hexec, State.grantMoment_of_choice hc hk,
        if_neg fun h => h.2.elim (htime h.1).1 (htime h.1).2]
    · rw [State.grantInto_queue, funext Request.passOver_eq]
      rfl
    · rw [State.grantInto_armed, State.shotOf, hhalf, State.latchAtGrant]
      cases r.condition <;> rfl
    · rw [State.grantInto_reports, State.reportOf, hhalf]
      rfl
    · rw [State.grantInto_half, hhalf]
      rfl
  · obtain ⟨rep, hengine, hrep, hreason, hend, hstart, hvisits, hqueue, _⟩ := s.settled_of_grant r slot
    refine ⟨_, _, rep, ?_, hengine, rfl, rfl, hrep, hreason, hend, hstart, hvisits, hqueue⟩
    rw [hexec, State.grantMoment_of_choice hc hk, if_pos ⟨hsecond, hq⟩, State.endArmed_eq, hhorizon, if_neg hh,
      State.grantLoop_of_busy _ (by rw [hengine]; simp)]
  · obtain ⟨rep, hengine, hrep, hreason, hend, hstart, hvisits, hqueue, htables⟩ := s.settled_of_grant r slot
    refine ⟨_, _, rep, ?_, hengine, rfl, rfl, hrep, hreason, hend, hstart, hvisits, hqueue, htables⟩
    have hzero : (((s.grantInto r slot).settled (s.shotOf r slot) .timeLost).profile r.profile).horizon = 0 := by
      rw [State.profile, htables]
      exact hh
    obtain ⟨_, _, hkept, _⟩ :=
      ((s.grantInto r slot).settled (s.shotOf r slot) .timeLost).tearDown_keeps (s.shotOf r slot)
    rw [hexec, State.grantMoment_of_choice hc hk, if_pos ⟨hsecond, hq⟩, State.endArmed_eq, hhorizon, if_pos hh,
      exec_teardown_of_due hengine (hzero ▸ Nat.zero_le _), State.grantMoment, hkept, hqueue, List.length_map]

end Sys2Proof.Machine
end

section
/-! SUPPORT. The close of a visit and the teardown (R64, R94, R136, R140 to R142, R160). -/

namespace Sys2Proof.Machine

/-! ## Results and their counts (R136) -/

theorem Visit.resultsFrom_eq (v : Visit) (cut : Bool) (as : List Assessment) : ∀ n : Nat,
    v.resultsFrom cut n as = (as.zipIdx n).map fun a => v.result cut a.2 a.1 := by
  induction as with
  | nil => exact fun _ => rfl
  | cons a as ih => exact fun n => by rw [Visit.resultsFrom, ih, List.zipIdx_cons, List.map_cons]

/-- Each verdict of a list of results is counted in its own count of the header. -/
theorem Header.foldl_count (rs : List Result) : ∀ h : Header, rs.foldl (fun h x => h.count x.verdict) h =
    { h with
      pass := h.pass + rs.countP fun x => x.verdict = .pass,
      fail := h.fail + rs.countP fun x => x.verdict = .fail,
      notMeasured := h.notMeasured + rs.countP fun x => x.verdict = .notMeasured,
      void := h.void + rs.countP fun x => x.verdict = .void } := by
  induction rs with
  | nil => exact fun _ => rfl
  | cons x xs ih =>
    intro h
    rw [List.foldl_cons, ih]
    cases hx : x.verdict <;> simp [Header.count, hx, Nat.add_assoc, Nat.add_comm 1]

/-- What the close of a visit makes of the report (R94, R136). -/
theorem Report.closeVisit_eq {rep : Report} {n : Nat} {v : Visit} (f : Fin 64 → List Assessment)
    (h : rep.visits.find? (fun x => x.number == n) = some v) : rep.closeVisit n f =
      let results := ((f v.state).zipIdx).map fun a => v.result (rep.cutShort v) a.2 a.1
      { rep with
        header := { rep.header with
          pass := rep.header.pass + results.countP fun x => x.verdict = .pass,
          fail := rep.header.fail + results.countP fun x => x.verdict = .fail,
          notMeasured := rep.header.notMeasured + results.countP fun x => x.verdict = .notMeasured,
          void := rep.header.void + results.countP fun x => x.verdict = .void },
        visits := rep.visits.map fun x => if x.number = n then { x with closeAt := none } else x,
        results := rep.results ++ results } := by
  rw [Report.closeVisit, Report.visit?, h]
  simp only [Report.append, Report.onVisit, Visit.resultsFrom_eq, Header.foldl_count]

/-- The last visit is cut short unless the shot ended COMPLETED or with VISIT_LIMIT (R140). -/
theorem Report.cutShort_iff {rep : Report} {v : Visit} : rep.cutShort v = true ↔ v.number + 1 = rep.header.visitCount ∧
    ∃ r, rep.header.endReason = some r ∧ r ≠ .completed ∧ r ≠ .visitLimit := by
  rw [Report.cutShort, Bool.and_eq_true, beq_iff_eq]
  refine and_congr_right fun _ => ?_
  cases rep.header.endReason with
  | none => simp
  | some r => cases r <;> simp [EndReason.judged]

/-- The completed report keeps what its mode keeps (R142). -/
theorem Report.complete_eq (rep : Report) (untriggered : Bool) (ref : Option CaptureRef) :
    let header := { rep.header with anyClip := rep.visits.any fun v => v.clip ≠ 0, untriggered := untriggered, capture := ref }
    rep.complete untriggered ref = match rep.header.mode with
      | .full => { rep with header := header }
      | .verdicts => { rep with header := header, visits := [], timeline := [] }
      | .failures => { rep with header := header, visits := [], timeline := [],
                                results := rep.results.filter fun x => x.verdict ≠ .pass } := by
  simp only [Report.complete, Report.onHeader, Report.applyMode, keptResults]
  cases rep.header.mode <;> rfl

/-! ## The teardown (R64) -/

section
variable {s : State} {sh : Shot} {rep : Report}

/-- A slot as it is handed on to the links `w`: COMPLETE for them, or EMPTY when there is none (R141). -/
def handedSlot (w : LinkSet) (rep : Report) : Slot := if w = 0 then .empty else .complete rep w

/-- A shot's half as it is handed on with its report: HELD, or FREE when there is no link (R160). -/
def handedHalf (w : LinkSet) (sh : Shot) (x : Half) : Half :=
  if w = 0 then .free else { x with state := .held sh.slot sh.serial }

theorem State.handOn_eq (h : s.reports[sh.slot] = .building rep) : s.handOn sh =
    ({ s with reports := s.reports.set sh.slot (handedSlot s.subscribers rep) } : State).onHalf sh.half
      (handedHalf s.subscribers sh) := by
  by_cases hw : s.subscribers = 0
  · have hhalf : handedHalf s.subscribers sh = fun _ => .free := funext fun _ => if_pos hw
    simp only [State.handOn, h, handedSlot, hhalf, if_pos hw]
  · have hhalf : handedHalf s.subscribers sh = fun x => { x with state := .held sh.slot sh.serial } :=
      funext fun _ => if_neg hw
    simp only [State.handOn, h, handedSlot, hhalf, if_neg hw]

@[simp] theorem State.onReport_subscribers (s : State) (k : Fin 16) (f : Report → Report) :
    (s.onReport k f).subscribers = s.subscribers := by simp [State.subscribers]

theorem State.onReport_set (h : s.reports[sh.slot] = .building rep) (f : Report → Report) (x : Slot) :
    (s.onReport sh.slot f).reports.set sh.slot x = s.reports.set sh.slot x := by
  rw [State.onReport_building h]
  simp only [Vector.set_set]

/-- The report as the teardown completes it: its visits closed in order, its mode applied (R64 steps 1 and 2, R141). -/
def State.finalReport (s : State) (sh : Shot) (rep : Report) : Report :=
  (rep.unclosed.foldl (fun r n => r.closeVisit n fun i => (s.entry i).assessments) rep).complete
    (s.halfUntriggered sh.half) (s.captureRef sh.half)

/-- The visits still to close are closed and the report is completed, in one change of it (R64 steps 1 and 2). -/
theorem State.completeReport_closeRest (h : s.reports[sh.slot] = .building rep) :
    (s.closeRest sh.slot).completeReport sh = (s.onReport sh.slot fun _ => s.finalReport sh rep).handOn sh := by
  have hhalf : ∀ (k : Option HalfId) (f : Report → Report), (s.onReport sh.slot f).halfUntriggered k = s.halfUntriggered k ∧
      (s.onReport sh.slot f).captureRef k = s.captureRef k := fun k f => by
    cases k <;> simp [State.halfUntriggered, State.captureRef]
  have htwice : ∀ f g : Report → Report,
      (s.onReport sh.slot f).onReport sh.slot g = s.onReport sh.slot fun r => g (f r) := fun f g => by
    have hget : (s.onReport sh.slot f).reports[sh.slot] = .building (f rep) := by rw [State.onReport_get, if_pos rfl, h]
    rw [State.onReport_building hget, State.onReport_set h, State.onReport_building h, State.onReport_building h]
  rw [State.completeReport, State.closeRest, (hhalf _ _).1, (hhalf _ _).2, htwice, State.onReport_building h,
    State.onReport_building h]
  rfl

/-- The report and the half that the teardown hands on (R64 step 2). -/
theorem State.tearDown_handsOn (h : s.reports[sh.slot] = .building rep) :
    (s.tearDown sh).reports = s.reports.set sh.slot (handedSlot s.subscribers (s.finalReport sh rep)) ∧
      (s.tearDown sh).captures = (s.onHalf sh.half (handedHalf s.subscribers sh)).captures := by
  have hget : (s.onReport sh.slot fun _ => s.finalReport sh rep).reports[sh.slot] = .building (s.finalReport sh rep) := by
    rw [State.onReport_get, if_pos rfl, h]
  rw [State.tearDown, State.completeReport_closeRest h, State.handOn_eq hget, State.onReport_set h,
    State.onReport_subscribers]
  constructor
  · simp
  · cases sh.half <;> simp [State.onHalf]

/-- What the teardown does to the links: SHOT_ENDED is raised on the submitting one (R64 step 6). -/
theorem State.tearDown_links (s : State) (sh : Shot) : (s.tearDown sh).links = (s.setLink sh.req.link
    { s.link sh.req.link with notices := { (s.link sh.req.link).notices with ended := true } }).links := by
  simp [State.tearDown, State.raiseEnded, State.setLink, State.link]

theorem State.tearDown_frame (s : State) (sh : Shot) : s.tearDown sh =
    { s with engine := (s.tearDown sh).engine, tables := (s.tearDown sh).tables, links := (s.tearDown sh).links,
             reports := (s.tearDown sh).reports, captures := (s.tearDown sh).captures } := by
  obtain ⟨hpending, hclock, hqueue, htrig, hsynth, hcontacts, hbreakers, hsup, htick⟩ := s.tearDown_keeps sh
  rw [← hpending, ← hclock, ← hqueue, ← htrig, ← hsynth, ← hcontacts, ← hbreakers, ← hsup, ← htick]

end

/-- Settles O38: VISIT_CLOSE and TEARDOWN when they are due, and not, and what a visit's close and a completion write. -/
theorem visitCloseAndTeardown : Obligations.VisitCloseAndTeardown := by
  refine ⟨fun s slot n rep v hdue hrep hv => ?_, fun s sh rep hrep => ⟨fun run he => ?_, fun start finish he => ?_⟩,
    fun s hdue => ?_, fun s sh start finish rep he hd hrep => ?_, fun s hnot => ?_, fun rep v a slot => ?_,
    fun rep untriggered ref => rep.complete_eq untriggered ref⟩
  · show Host.Outcome.next _ = _
    rw [hdue]
    dsimp only
    rw [State.onReport_building hrep, Report.closeVisit_eq _ hv]
  · rw [State.visitDue, State.closing, he]
    dsimp only
    rw [hrep]
    rfl
  · rw [State.visitDue, State.closing, he]
    dsimp only
    rw [hrep]
    rfl
  · show Host.Outcome.next _ = _
    rw [hdue]
  · intro left closed
    obtain ⟨hreports, hcaptures⟩ := State.tearDown_handsOn hrep
    obtain ⟨_, _, hqueue, _⟩ := s.tearDown_keeps sh
    refine ⟨s.tearDown sh, exec_teardown_of_due he hd, State.tearDown_engine s sh, State.tearDown_tables s sh,
      hqueue, s.tearDown_links sh, hreports, fun h => ?_, s.tearDown_frame sh⟩
    rw [hcaptures, State.onHalf_get]
    rfl
  · have hdue : s.teardownDue = none := by
      unfold State.teardownDue
      split
      · rename_i sh start finish he
        exact if_neg (Nat.not_le.2 (hnot sh start finish he))
      · rfl
    show Host.Outcome.next _ = _
    rw [hdue]
  · exact ⟨Report.cutShort_iff, rfl, rfl⟩

end Sys2Proof.Machine
end

section
/-! SUPPORT. The requests on the Output Supervision Unit that set a lane's items (R116 to R120). -/

namespace Sys2Proof.Machine

/-! ## SET_SUPERVISION (R116, R117) -/

/-- The field checks of SET_SUPERVISION in their order; those of a current lane pass for a voltage lane (R116). -/
theorem supervisionBad_eq (i : Fin 12) (missLimit : Byte) (rating heatLimit : Half16) :
    supervisionBad i missLimit rating heatLimit =
      if missLimit = 0 then some 3
      else if i.val < 6 ∧ (rating = 0 ∨ 32000 < rating.toNat) then some 4
      else if i.val < 6 ∧ (heatLimit = 0 ∨ 50000 < heatLimit.toNat) then some 5
      else none := by
  have hzero : ∀ {w : Nat} (x : BitVec w), x.toNat = 0 ↔ x = 0 := fun x => by
    rw [← BitVec.toNat_inj]; simp
  have hmax : ∀ n : Nat, (i.val < 6 ∧ (rating = 0 ∨ Config.laneMax i < n)) ↔ (i.val < 6 ∧ (rating = 0 ∨ 32000 < n)) :=
    fun n => and_congr_right fun hi => by simp [Config.laneMax, Config.isCurrentLane, hi]
  simp only [supervisionBad, firstBad_failsAt, firstBad_nil, beq_iff_eq, hzero, Config.isCurrentLane, Bool.and_eq_true,
    Bool.or_eq_true, decide_eq_true_iff, hmax]
  rfl

/-- The settings stored hold the rating and the heat limit of a current lane only (R116). -/
theorem supervisionSettings_eq (i : Fin 12) (enabled : Byte) (deviation : Half16) (missLimit : Byte)
    (rating heatLimit : Half16) : supervisionSettings i enabled deviation missLimit rating heatLimit =
      { enabled := decide (enabled ≠ 0), deviation := deviation.toNat, missLimit := missLimit.toNat,
        rating := if i.val < 6 then rating.toNat else 0, heatLimit := if i.val < 6 then heatLimit.toNat else 0 } := by
  simp only [supervisionSettings, yes, Config.isCurrentLane, decide_eq_true_iff]

/-- The reply carries the account of a current lane with half its limit (R117). -/
theorem State.heatReply_current (s : State) (j : Fin 6) (x : SupSettings) :
    s.heatReply (currentLane j) x = some (s.sup.heat[j], x.heatLimit * 10000000000) := by
  rw [State.heatReply, SupSettings.halfLimit_eq, show (currentLane j).val = j.val from rfl, index?_of_lt j.isLt]
  rfl

theorem State.heatReply_voltage (s : State) {i : Fin 12} (h : 6 ≤ i.val) (x : SupSettings) : s.heatReply i x = none := by
  rw [State.heatReply, index?_of_le h]
  rfl

/-- SET_SUPERVISION past the role and index checks (R116, R117). -/
theorem setSupervision_of_index {i : Fin 12} {lane enabled missLimit : Byte} {deviation rating heatLimit : Half16} {s : State}
    (h : index? 12 lane.toNat = some i) :
    setSupervision .supervision lane enabled deviation missLimit rating heatLimit s =
      if s.engine ≠ .idle then .error .locked
      else if missLimit = 0 then .error (badRequest 3)
      else if i.val < 6 ∧ (rating = 0 ∨ 32000 < rating.toNat) then .error (badRequest 4)
      else if i.val < 6 ∧ (heatLimit = 0 ∨ 50000 < heatLimit.toNat) then .error (badRequest 5)
      else
        let x := supervisionSettings i enabled deviation missLimit rating heatLimit
        .ok ((s.setSup i { s.sup.lanes[i] with settings := x, missRun := 0 }).grantMoment,
          .supervision i x (s.heatReply i x)) := by
  have hbusy : (!s.engine.isIdle) = true ↔ s.engine ≠ .idle := by
    rw [Bool.not_eq_true', ← Bool.not_eq_true, Engine.isIdle_iff]
  rw [setSupervision, if_neg (not_not.2 rfl), h]
  simp only [hbusy, supervisionBad_eq]
  split_ifs <;> rfl

/-! ## DECLARE_LANE_FAULT (R118, R119) -/

/-- A declared fault, with LANE_FAULT raised unless the fault was declared already, and the end it requests (R118, R119). -/
theorem State.declareFault_eq (s : State) (i : Fin 12) : s.declareFault i =
    let marked := s.setSup i { s.sup.lanes[i] with condition := .declared }
    let noticed := if (s.sup.lanes[i]).condition = .declared then marked else marked.raiseLaneFault
    if s.endsByFault i = true then noticed.requestEnd (.laneFault i) else noticed := by
  have hcondition : s.setCondition i (s.sup.lanes[i]).condition.onDeclare =
      if (s.sup.lanes[i]).condition = .declared then s.setSup i { s.sup.lanes[i] with condition := .declared }
      else (s.setSup i { s.sup.lanes[i] with condition := .declared }).raiseLaneFault := by
    by_cases h : (s.sup.lanes[i]).condition = .declared <;> simp [State.setCondition, Condition.onDeclare]
  rw [State.declareFault, hcondition]

/-- Settles O53: each outcome of the checks in their order, and the lane's items as each request writes them. -/
theorem supervisionRequestsSetTheLane : Obligations.SupervisionRequestsSetTheLane := by
  refine ⟨fun l tag lane enabled deviation missLimit rating heatLimit s => ?_, fun l tag lane s => ?_⟩
  · have hexec : exec (.setSupervision l tag lane enabled deviation missLimit rating heatLimit) s =
        .next (respond l .setSupervision tag s (setSupervision l lane enabled deviation missLimit rating heatLimit s)) := rfl
    dsimp only
    rw [hexec]
    by_cases hl : l = .supervision
    · subst hl
      rw [if_neg (not_not.2 rfl)]
      by_cases h : lane.toNat < 12
      · have hx := supervisionSettings_eq ⟨lane.toNat, h⟩ enabled deviation missLimit rating heatLimit
        dsimp only at hx
        rw [dif_pos h, setSupervision_of_index (index?_of_lt h), ← hx]
        split_ifs
        · rfl
        · rfl
        · rfl
        · rfl
        · refine ⟨s.heatReply _ _, fun j hj => ?_, fun hi => s.heatReply_voltage hi _, rfl⟩
          have hcurrent : (currentLane j).val < 6 := j.isLt
          rw [← hj, State.heatReply_current, supervisionSettings_eq]
          simp only [hcurrent, if_true]
      · rw [dif_neg h, setSupervision, if_neg (not_not.2 rfl), index?_of_le (Nat.not_lt.1 h)]
        rfl
    · rw [if_pos hl, setSupervision, if_pos hl, respond_error]
  · have hdeclare : exec (.declareLaneFault l tag lane) s =
        .next (respond l .declareLaneFault tag s (declareLaneFault l lane s)) := rfl
    have hclear : exec (.clearLaneFault l tag lane) s =
        .next (respond l .clearLaneFault tag s (clearLaneFault l lane s)) := rfl
    dsimp only
    rw [hdeclare, hclear]
    by_cases hl : l = .supervision
    · rw [if_neg (not_not.2 hl), declareLaneFault, clearLaneFault, if_neg (not_not.2 hl), if_neg (not_not.2 hl)]
      by_cases h : lane.toNat < 12
      · rw [dif_pos h, index?_of_lt h]
        dsimp only
        rw [State.declareFault_eq]
        exact ⟨rfl, rfl⟩
      · rw [dif_neg h, index?_of_le (Nat.not_lt.1 h)]
        exact ⟨rfl, rfl⟩
    · rw [if_pos hl, declareLaneFault, clearLaneFault, if_pos hl, if_pos hl]
      exact ⟨rfl, rfl⟩

end Sys2Proof.Machine
end

section
/-! SUPPORT. SUBSCRIBE and RETIRE_REPORT: the pending sets a link leaves, the slots that become EMPTY and the halves freed with them (R145,
R149, R150, R160). -/

namespace Sys2Proof.Machine

/-! ## The halves bound to emptied slots (R150, R160) -/

@[simp] theorem Captures.get_freeBound (c : Captures) (k : Fin 16) (h : HalfId) :
    (c.freeBound k).get h = (c.get h).freeWith k := by cases h <;> rfl

theorem Half.freeWith_eq (x : Half) (k : Fin 16) : x.freeWith k = match x.state with
    | .held j _ => if j = k then .free else x
    | _ => x := by
  unfold Half.freeWith
  cases x.state <;> rfl

/-- A half is freed with the slots of a list when it is bound to one of them. -/
theorem Half.foldl_freeWith (ks : List (Fin 16)) : ∀ x : Half, ks.foldl (fun y k => y.freeWith k) x = match x.state with
    | .held j _ => if j ∈ ks then .free else x
    | _ => x := by
  induction ks with
  | nil => intro x; cases hx : x.state <;> simp
  | cons k ks ih =>
    intro x
    rw [List.foldl_cons, ih, Half.freeWith]
    cases hx : x.state with
    | free => simp [hx]
    | filling => simp [hx]
    | held j n => by_cases hj : j = k <;> simp [hx, hj, Half.free]

theorem Captures.get_foldl_freeBound (ks : List (Fin 16)) (h : HalfId) : ∀ c : Captures,
    (ks.foldl Captures.freeBound c).get h = ks.foldl (fun y k => y.freeWith k) (c.get h) := by
  induction ks with
  | nil => exact fun _ => rfl
  | cons k ks ih => intro c; rw [List.foldl_cons, ih, List.foldl_cons, Captures.get_freeBound]

/-! ## RETIRE_REPORT (R149, R150) -/

section
variable {s : State} {l : Link} {k : Fin 16} {r : Report} {w : LinkSet}

/-- The last link that waits for a report empties its slot, which is a moment for a grant (R31, R150). -/
theorem State.retire_last (hk : s.reports[k] = .complete r w) (hw : excluding w l.number = 0) : s.retire k l w =
    ({ s with reports := s.reports.set k .empty, captures := s.captures.freeBound k } : State).grantMoment := by
  rw [State.retire, hk, Slot.retire, if_pos hw, if_pos hw]

theorem State.retire_shared (hk : s.reports[k] = .complete r w) (hw : excluding w l.number ≠ 0) : s.retire k l w =
    { s with reports := s.reports.set k (.complete r (excluding w l.number)) } := by
  rw [State.retire, hk, Slot.retire, if_neg hw, if_neg hw]

end

/-! ## SUBSCRIBE (R145) -/

theorem clampThreshold_eq (n : Nat) : clampThreshold n = max 1 (min 16 n) := by
  unfold clampThreshold
  split_ifs <;> omega

section
variable (s : State) (l : Link)

/-- The slots that a link leaving every pending set empties are those that wait for it alone (R145, R150). -/
theorem State.has_emptiedBy (k : Fin 16) : has (s.emptiedBy l) k = true ↔
    ∃ r w, s.reports[k] = .complete r w ∧ has w l.number = true ∧ excluding w l.number = 0 := by
  rw [State.emptiedBy, has_setOf]
  cases s.reports[k] <;> simp

theorem State.leaveAll_report (k : Fin 16) : (s.leaveAll l).reports[k] = match s.reports[k] with
    | .complete r w =>
      if has w l.number = true then
        (if excluding w l.number = 0 then .empty else .complete r (excluding w l.number))
      else .complete r w
    | x => x := by
  have hget : (s.leaveAll l).reports[k] =
      if has (s.reports[k]).waiting l.number = true then (s.reports[k]).retire l else s.reports[k] := by
    simp [State.leaveAll]
  rw [hget]
  cases s.reports[k] with
  | empty => exact ite_self _
  | building r => exact ite_self _
  | complete r w => rfl

theorem State.leaveAll_half (h : HalfId) : (s.leaveAll l).captures.get h = match (s.captures.get h).state with
    | .held k _ => if has (s.emptiedBy l) k = true then .free else s.captures.get h
    | _ => s.captures.get h := by
  rw [State.leaveAll, Captures.get_foldl_freeBound, Half.foldl_freeWith]
  cases (s.captures.get h).state <;> simp

end

section
variable {l : Link} {subscription threshold : Byte} {s : State}

theorem subscribe_of_other (h : 1 < subscription.toNat) : subscribe l subscription threshold s = .error (badRequest 0) := by
  obtain ⟨n, hn⟩ := Nat.exists_eq_add_of_le' h
  unfold subscribe
  rw [hn]
  rfl

theorem subscribe_on (h : subscription.toNat = 1) : subscribe l subscription threshold s =
    .ok (s.setSubscription l true threshold.toNat, .subscribed true (clampThreshold threshold.toNat)
      (clampThreshold threshold.toNat ≠ threshold.toNat) 0) := by
  unfold subscribe
  rw [h]
  rfl

theorem subscribe_off (h : subscription.toNat = 0) : subscribe l subscription threshold s =
    .ok (((s.leaveAll l).setSubscription l false threshold.toNat).grantMoment,
      .subscribed false (clampThreshold threshold.toNat) (clampThreshold threshold.toNat ≠ threshold.toNat)
        (s.emptiedBy l)) := by
  unfold subscribe
  rw [h]
  rfl

end

/-- Settles O49: each outcome of the checks in their order, and what a link that leaves pending sets empties. -/
theorem subscribeAndRetire : Obligations.SubscribeAndRetire := by
  refine ⟨fun l tag subscription threshold s => ?_, fun l tag slot serial s => ?_⟩
  · have hexec : exec (.subscribe l tag subscription threshold) s =
        .next (respond l .subscribe tag s (subscribe l subscription threshold s)) := rfl
    have hlevel := clampThreshold_eq threshold.toNat
    have hzero : (subscription = 0 → subscription.toNat = 0) ∧ (subscription = 1 → subscription.toNat = 1) :=
      ⟨fun h => by rw [h]; rfl, fun h => by rw [h]; rfl⟩
    intro level
    rw [hexec]
    refine ⟨fun h => ?_, fun h => ?_, fun h => ?_⟩
    · rw [subscribe_of_other h, respond_error]
      rfl
    · rw [subscribe_on (hzero.2 h), hlevel, respond_ok, State.setSubscription, State.setReply_setLink, hlevel]
    · refine ⟨(s.leaveAll l).setSubscription l false threshold.toNat, s.emptiedBy l, ?_,
        fun k => ⟨s.has_emptiedBy l k, ?_⟩, fun x => ?_, ?_, ?_⟩
      · rw [subscribe_off (hzero.1 h), hlevel, respond_ok]
      · rw [State.setSubscription_reports]
        exact s.leaveAll_report l k
      · rw [State.setSubscription_captures]
        exact s.leaveAll_half l x
      · rw [State.setSubscription, hlevel]
        rfl
      · rfl
  · have hexec : exec (.retireReport l tag slot serial) s =
        .next (respond l .retireReport tag s (retireReport l slot serial s)) := rfl
    dsimp only
    rw [hexec]
    by_cases h : slot.toNat < 16
    · rw [dif_pos h, retireReport, index?_of_lt h]
      dsimp only
      cases hk : s.reports[(⟨slot.toNat, h⟩ : Fin 16)] with
      | empty => rfl
      | building r => rfl
      | complete r w =>
        have hasked : (!has w l.number) = true ↔ has w l.number = false := by simp
        simp only [hasked]
        split_ifs with hno hlast
        · rfl
        · refine ⟨s.captures.freeBound ⟨slot.toNat, h⟩, fun x => ?_, ?_⟩
          · rw [Captures.get_freeBound]
            exact Half.freeWith_eq _ _
          · rw [State.retire_last hk hlast, respond_ok, decide_eq_true hlast, hlast]
        · rw [State.retire_shared hk hlast, respond_ok, decide_eq_false hlast]
    · rw [dif_neg h, retireReport, index?_of_le (Nat.not_lt.1 h)]
      rfl

end Sys2Proof.Machine
end

section
/-! SUPPORT. The passing of time, power-on reset, the ends requested of a shot, and its start conditions (R44 to R46, R58, R59, R63,
R65, R163). -/

namespace Sys2Proof.Machine

/-! ## The passing of time (R163) -/

theorem step_of_empty {s : State} (h : s.pending = []) : step s = s.idle := by rw [step, h]

/-- Nothing is due only before the last microsecond of the clock: there the wrap is. -/
theorem State.atWrap_of_idle {s : State} (h : s.dueEvent = none) : s.atWrap = false := by
  unfold State.dueEvent at h
  split at h
  · cases h
  · by_contra hw
    rw [Bool.not_eq_false] at hw
    rw [if_pos hw] at h
    cases h

/-- Settles O2: with no command waiting the due event is executed, and otherwise the microsecond ends. -/
theorem emptyQueueLetsTimePass : Obligations.EmptyQueueLetsTimePass := by
  intro s hempty
  rw [step_of_empty hempty]
  refine ⟨fun c hc => by rw [State.idle, hc], fun hnone => ⟨s.advance, by rw [State.idle, hnone], ?_, rfl, fun i => ?_, rfl, rfl⟩⟩
  · have hanchor : s.anchorNext = s.clock.anchor := by rw [State.anchorNext, State.atWrap_of_idle hnone]; rfl
    rw [State.advance, hanchor]
    rfl
  · simp [State.advance]

/-- Settles O5: the state that power-on reset leaves. -/
theorem powerOnResetClearsThePart : Obligations.PowerOnResetClearsThePart := by
  intro s
  refine ⟨s.powerOn, rfl, fun i => ?_, rfl⟩
  have hpowered : s.powerOn.contacts[i] = .reset (s.contacts[i]).pin := by simp [State.powerOn]
  rw [hpowered, State.reset_contact]
  rfl

/-! ## Ends requested (R58, R59) -/

/-- The cut-short mark that the stop of a shot's half leaves it with, clear for a shot without one (R159). -/
def State.cutAtStop (s : State) : Option HalfId → Bool
  | none => false
  | some h => ((s.captures.get h).stop).cutShort

/-- The halves with that of a shot stopped (R159). -/
def Captures.stopped (c : Captures) : Option HalfId → Captures
  | none => c
  | some h => c.set h (c.get h).stop

theorem Captures.get_stopped (c : Captures) (h : Option HalfId) (k : HalfId) :
    (c.stopped h).get k = if h = some k then (c.get k).stop else c.get k := by
  cases h with
  | none => rfl
  | some h =>
    by_cases hk : k = h
    · subst hk; simp [Captures.stopped]
    · simp [Captures.stopped, Captures.get_set_ne _ hk, Ne.symm hk]

/-- The header as the end of a shot writes it (R60 step 5). -/
def Header.ended (x : Header) (now : Clock) (r : EndReason) (cut : Bool) : Header :=
  { x with endTime := some now, endReason := some r, cutShort := cut }

theorem State.halfCutShort_stop (s : State) (h : Option HalfId) : (s.onHalf h Half.stop).halfCutShort h = s.cutAtStop h := by
  cases h with
  | none => rfl
  | some h => simp [State.halfCutShort, State.onHalf, State.cutAtStop]

/-- The stop of the half and the end in the header, in one equation (R60 step 5, R159). -/
theorem State.writeEnd_stop {s : State} {sh : Shot} {rep : Report} (h : s.reports[sh.slot] = .building rep) (r : EndReason) :
    (s.onHalf sh.half Half.stop).writeEnd sh r = { s with
      captures := s.captures.stopped sh.half,
      reports := s.reports.set sh.slot (.building { rep with header := rep.header.ended s.now r (s.cutAtStop sh.half) }) } := by
  have hrep : (s.onHalf sh.half Half.stop).reports[sh.slot] = .building rep := by simpa using h
  rw [State.writeEnd, State.halfCutShort_stop, State.onReport_building hrep]
  cases sh.half <;> rfl

section
variable {s : State} {sh : Shot} {latch : Option Clock} {rep : Report}

theorem State.settled_eq (h : s.reports[sh.slot] = .building rep) (r : EndReason) : s.settled sh r = { s with
    engine := .settling sh none s.now,
    captures := s.captures.stopped sh.half,
    reports := s.reports.set sh.slot (.building { rep with header := rep.header.ended s.now r (s.cutAtStop sh.half) }) } := by
  rw [State.settled, State.writeEnd_stop h]

/-- An end requested in ARMED, with a debounce horizon above 0: the shot settles (R59, R63). -/
theorem State.requestEnd_settles (he : s.engine = .armed sh latch) (hh : (s.profile sh.req.profile).horizon ≠ 0) (r : EndReason) :
    s.requestEnd r = s.settled sh r := by
  obtain ⟨_, _, _, hengine⟩ := s.settled_keeps sh r
  rw [State.requestEnd_of_armed r he, State.endArmed_eq, if_neg hh, State.grantMoment_of_busy (by simp [hengine])]

/-- An end requested in ARMED, with a debounce horizon of 0: the teardown follows in the same action (R59, R63). -/
theorem State.requestEnd_tearsDown (he : s.engine = .armed sh latch) (hh : (s.profile sh.req.profile).horizon = 0) (r : EndReason) :
    .next (s.requestEnd r) = exec .teardown (s.settled sh r) := by
  obtain ⟨htables, _, _, hengine⟩ := s.settled_keeps sh r
  have hzero : ((s.settled sh r).profile sh.req.profile).horizon = 0 := by rw [State.profile, htables]; exact hh
  rw [State.requestEnd_of_armed r he, State.endArmed_eq, if_pos hh, exec_teardown_of_due hengine (hzero ▸ Nat.zero_le _)]

end

/-- Settles O29: the engine's states one by one, ARMED with either horizon. -/
theorem endRequestsActByEngineState : Obligations.EndRequestsActByEngineState := by
  intro s r
  refine ⟨fun he => State.requestEnd_of_idle r he, fun sh start finish he => State.requestEnd_of_settling r he,
    fun sh run he => State.requestEnd_of_running r he, fun sh latch rep he hrep hh => ?_, fun sh latch rep he hrep hh => ?_⟩
  · rw [State.requestEnd_settles he hh, State.settled_eq hrep]
    exact ⟨rfl, fun h => s.captures.get_stopped sh.half h⟩
  · refine ⟨s.captures.stopped sh.half, fun h => s.captures.get_stopped sh.half h, ?_⟩
    rw [State.requestEnd_tearsDown he hh, State.settled_eq hrep]
    rfl

/-! ## GO and TRIG_EDGE (R44 to R46, R53) -/

theorem exec_go (l : Link) (tag : Byte) (s : State) : exec (.go l tag) s = .next (respond l .go tag s (go l s)) := rfl

/-- A GO is refused NOT_ARMED unless the engine is ARMED with its start latch clear (R46). -/
theorem go_of_unarmed {l : Link} {s : State} (h : ∀ sh, s.engine ≠ .armed sh none) : go l s = .error .notArmed := by
  unfold go
  split
  · rename_i sh he
    exact absurd he (h sh)
  · rfl

theorem go_of_armed {l : Link} {s : State} {sh : Shot} (h : s.engine = .armed sh none) : go l s =
    if sh.req.condition ≠ .go then .error .notArmed
    else if sh.req.link ≠ l then .error .notOwner
    else .ok ({ s with engine := .armed sh (some s.now) }, .started sh.req.ticket sh.serial) := by
  rw [go, h]

/-- A sample that finds TRIG high, and is an edge or is none (R44). -/
theorem exec_trigEdge (s : State) : exec .trigEdge s = .next
    (if s.trig.prev = some false ∧ s.trig.now = false then ({ s with trig := { s.trig with now := true } } : State).takeTrig
     else { s with trig := { s.trig with now := true } }) := rfl

/-- Settles O30: GO and the trigger edge in each state of the engine. -/
theorem goAndTrigMeetTheStart : Obligations.GoAndTrigMeetTheStart := by
  refine ⟨fun l tag s => ?_, fun s => ⟨fun hno => ?_, fun hprev hnow => ?_⟩⟩
  · dsimp only
    rw [exec_go]
    split
    · rename_i sh he
      rw [go_of_armed he]
      split_ifs
      · exact congrArg _ (respond_error ..)
      · exact congrArg _ (respond_error ..)
      · exact congrArg _ (respond_ok ..)
    · rename_i hne
      rw [go_of_unarmed hne, respond_error]
  · rw [exec_trigEdge, if_neg fun h => hno.elim (fun hp => hp h.1) fun hn => by rw [h.2] at hn; cases hn]
  · rw [exec_trigEdge, if_pos ⟨hprev, hnow⟩]
    dsimp only
    split
    · rename_i sh he
      simp only [State.takeTrig, he]
      split_ifs <;> rfl
    · rename_i sh run he
      simp only [State.takeTrig, he]
      split_ifs <;> rfl
    · rename_i hne hrun
      unfold State.takeTrig
      dsimp only
      split
      · rename_i sh he
        exact absurd he (hne sh)
      · rename_i sh run he
        exact absurd he (hrun sh run)
      · rfl

end Sys2Proof.Machine
end

section
/-! SUPPORT. The exit a tick takes and the end of a deferral (R51, R52, R55 to R57). -/

namespace Sys2Proof.Machine

/-! ## The exit taken (R51, R52) -/

section
variable {s : State} {run : Run}

/-- A search from slot `n` on finds the first exit whose condition holds, with the slot it stands in (R51). -/
theorem State.firstExit_eq_some {slot : Nat} {e : Exit} (es : List Exit) : ∀ n : Nat,
    s.firstExit run n es = some (slot, e) ↔ ∃ k, slot = n + k ∧ es[k]? = some e ∧ s.exitHolds run slot e.kind = true ∧
      ∀ j x, j < k → es[j]? = some x → s.exitHolds run (n + j) x.kind = false := by
  induction es with
  | nil => intro n; simp [State.firstExit]
  | cons y ys ih =>
    intro n
    rw [State.firstExit]
    by_cases hy : s.exitHolds run n y.kind = true
    · rw [if_pos hy]
      constructor
      · intro h
        cases h
        exact ⟨0, rfl, rfl, hy, fun j _ hj => absurd hj (Nat.not_lt_zero j)⟩
      · rintro ⟨k, rfl, hk, _, hfirst⟩
        cases k with
        | zero => cases hk; rfl
        | succ k => exact absurd hy (by simp [show s.exitHolds run n y.kind = false from hfirst 0 y k.succ_pos rfl])
    · rw [if_neg hy, ih]
      constructor
      · rintro ⟨k, rfl, hk, hholds, hfirst⟩
        refine ⟨k + 1, by omega, hk, hholds, fun j x hj hx => ?_⟩
        cases j with
        | zero => cases hx; simpa using hy
        | succ j => rw [show n + (j + 1) = n + 1 + j by omega]; exact hfirst j x (by omega) hx
      · rintro ⟨k, rfl, hk, hholds, hfirst⟩
        cases k with
        | zero => cases hk; exact absurd hholds hy
        | succ k =>
          refine ⟨k, by omega, hk, hholds, fun j x hj hx => ?_⟩
          rw [show n + 1 + j = n + (j + 1) by omega]
          exact hfirst (j + 1) x (by omega) hx

theorem State.inputActive_iff {i : Fin 16} :
    s.inputActive i = true ↔ (s.contacts[i]).accepted = (s.contacts[i]).setting.active := by
  simp [State.inputActive, Contact.operated]

@[simp] theorem Position.is_opened {p : Position} : p.is .opened = true ↔ p = .opened := by simp [Position.is]

@[simp] theorem Position.is_closed {p : Position} : p.is .closed = true ↔ p = .closed := by simp [Position.is]

end

/-- Settles O32: the search of the exits from slot 0, and the table of R52 condition by condition. -/
theorem firstExitThatHoldsIsTaken : Obligations.FirstExitThatHoldsIsTaken := by
  intro s run
  refine ⟨fun slot e => ?_, fun slot => ⟨fun limit => ?_, fun mask => ?_, fun mask => ?_, fun _ => rfl, rfl, rfl,
    fun k => ?_, fun k => ?_⟩⟩
  · rw [State.taken, State.firstExit_eq_some]
    constructor
    · rintro ⟨k, hk, hx, hholds, hfirst⟩
      obtain rfl : slot = k := by omega
      exact ⟨hx, hholds, fun n x hn hnx => by simpa using hfirst n x hn hnx⟩
    · rintro ⟨hx, hholds, hfirst⟩
      exact ⟨slot, by omega, hx, hholds, fun n x hn hnx => by simpa using hfirst n x hn hnx⟩
  · exact decide_eq_true_iff
  · simp [State.exitHolds, State.inputActive_iff]
  · simp [State.exitHolds, State.inputActive_iff]
  · simp [State.exitHolds]
  · simp [State.exitHolds]

/-! ## The end of a deferral (R56, R57) -/

/-- Steps of `inc` from `q` on reach the first `inc` numbers of the circle before they have gone once round it. -/
theorem exists_steps_lt {q inc : Nat} (hq : q < 4294967296) (hinc : 0 < inc) :
    ∃ n, n * inc < 4294967296 ∧ (q + n * inc) % 4294967296 < inc := by
  by_cases h : q < inc
  · exact ⟨0, by omega, by omega⟩
  · have hlow := Nat.div_mul_le_self (4294967296 - q + inc - 1) inc
    have hhigh := Nat.lt_div_mul_add (a := 4294967296 - q + inc - 1) hinc
    exact ⟨(4294967296 - q + inc - 1) / inc, by omega, by omega⟩

/-- The reference lane, `n` increments on, has reached the point on the wave of a state that names one (R56). -/
theorem State.reached_setLane (s : State) (run : Run) {target : Fin 64} {p : PointOnWave}
    (hp : (s.entry target).pow = some p) (accum : Phase) :
    (s.setLane p.lane { s.synth.lanes[p.lane] with accum := accum }).reached run target =
      (phaseIncrement ((s.entry run.inForce).lanes[p.lane]).freq == 0 ||
        decide (accum + angleOffset ((s.entry run.inForce).lanes[p.lane]).angle - angleOffset p.angle <
          phaseIncrement ((s.entry run.inForce).lanes[p.lane]).freq)) := by
  have hentry : ∀ i, (s.setLane p.lane { s.synth.lanes[p.lane] with accum := accum }).entry i = s.entry i := fun _ => rfl
  have hlane : (s.setLane p.lane { s.synth.lanes[p.lane] with accum := accum }).synth.lanes[p.lane] =
      { s.synth.lanes[p.lane] with accum := accum } := Vector.getElem_set_self _
  rw [State.reached, hentry, hp]
  simp only [hentry, hlane]

/-- Settles O36: from any phase the first increment's width before the target is met within one turn. -/
theorem deferralLastsLessThanAPeriod : Obligations.DeferralLastsLessThanAPeriod := by
  intro s run target p hp inc x
  have hreached : ∀ n : Nat, (s.setLane p.lane { x with accum := x.accum + BitVec.ofNat 32 n * inc }).reached run target =
      (inc == 0 || decide (x.accum + BitVec.ofNat 32 n * inc + angleOffset ((s.entry run.inForce).lanes[p.lane]).angle -
        angleOffset p.angle < inc)) := fun n => s.reached_setLane run hp _
  by_cases hzero : inc = 0
  · exact ⟨0, by omega, by rw [hreached, hzero]; rfl⟩
  · have hpos : 0 < inc.toNat := Nat.pos_of_ne_zero fun h => hzero (BitVec.eq_of_toNat_eq h)
    generalize hoff : angleOffset ((s.entry run.inForce).lanes[p.lane]).angle = off at hreached
    have hphase : (x.accum + off - angleOffset p.angle).toNat < 4294967296 := BitVec.isLt _
    obtain ⟨n, hturn, hn⟩ := exists_steps_lt hphase hpos
    refine ⟨n, hturn, ?_⟩
    have hsum : x.accum + BitVec.ofNat 32 n * inc + off - angleOffset p.angle =
        x.accum + off - angleOffset p.angle + BitVec.ofNat 32 n * inc := by ring
    rw [hreached, hsum, Bool.or_eq_true, decide_eq_true_iff, BitVec.lt_def]
    refine .inr ?_
    rwa [BitVec.toNat_add, BitVec.toNat_mul, BitVec.toNat_ofNat, Nat.mod_mul_mod, Nat.add_mod_mod]

end Sys2Proof.Machine
end

section
/-! SUPPORT. The engine's work at a tick, action by action: the opening, an entry, a deferral, and the events and elements that waited for
the tick (R49, R50, R55, R56, R93, R113). -/

namespace Sys2Proof.Machine

/-! ## The opening of a tick -/

section
variable (s : State)

@[simp] theorem State.openTick_tick : s.openTick.tick.engine = s.tick.engine ∧ s.openTick.tick.heat = s.tick.heat ∧
    s.openTick.tick.synth = s.tick.synth ∧ s.openTick.tick.events = s.tick.events ∧
    s.openTick.tick.ended = s.tick.ended := by
  unfold State.openTick
  split <;> simp

@[simp] theorem State.openTick_sup : s.openTick.sup.lanes = s.sup.lanes ∧ s.openTick.sup.heat = s.sup.heat ∧
    s.openTick.sup.inhibit = s.sup.inhibit := by
  unfold State.openTick
  split <;> simp

@[simp] theorem State.openTick_now : s.openTick.now = s.now := by simp [State.now]

@[simp] theorem State.openTick_entry (i : Fin 64) : s.openTick.entry i = s.entry i := by simp [State.entry]

@[simp] theorem State.openTick_profile (k : Fin 4) : s.openTick.profile k = s.profile k := by simp [State.profile]

@[simp] theorem State.openTick_horizon (sh : Shot) : s.openTick.horizon sh = s.horizon sh := by simp [State.horizon]

@[simp] theorem State.openTick_offset (c : Clock) : s.openTick.offset c = s.offset c := by simp [State.offset]

@[simp] theorem State.openTick_since (c : Clock) (n : Nat) : s.openTick.since c n = s.since c n := by simp [State.since]

@[simp] theorem State.openTick_adjustCounts (sh : Shot) : s.openTick.adjustCounts sh = s.adjustCounts sh := by
  simp [State.adjustCounts]

@[simp] theorem State.openTick_reached (run : Run) (n : Fin 64) : s.openTick.reached run n = s.reached run n := by
  simp [State.reached]

@[simp] theorem State.openTick_laneAc (sh : Shot) (n : Fin 64) (i : Fin 12) : s.openTick.laneAc sh n i = s.laneAc sh n i := by
  simp [State.laneAc, State.laneRms, State.stepSize]

@[simp] theorem State.openTick_oldValue (sh : Shot) (n : Fin 64) (i : Fin 12) :
    s.openTick.oldValue sh n i = s.oldValue sh n i := by simp [State.oldValue]

end

/-! ## When the engine works -/

theorem State.engineDue_iff {s : State} : s.engineDue = true ↔ s.tickDue = true ∧ s.tick.engine = false := by
  simp [State.engineDue]

section
variable {s : State} {a : Action}

theorem State.dueAction_eq (hdue : s.engineDue = true) (hprep : s.prepare = s.openTick) : s.dueAction = s.openTick.action := by
  rw [State.dueAction, if_pos hdue, hprep]

theorem State.engineWork_eq (hdue : s.engineDue = true) (hprep : s.prepare = s.openTick) (ha : s.openTick.action = a) :
    s.engineWork = (s.openTick.perform a).settleTick := by
  rw [State.engineWork, if_pos hdue, hprep, ha]

end

/-! ## What waited for the tick (R93, R113) -/

/-- The events dated to `now` that waited for its tick recorded (R93). -/
def Report.recordAll (rep : Report) (start now : Clock) (events : List (Fin 16 × Direction)) : Report :=
  events.foldl (fun r x => r.record start now x.1 x.2 now) rep

/-- A report once a tick's work is done: the elements that waited for the tick in visit `n`, then the events (R93, R113). -/
def State.filed (s : State) (run : Run) (n time : Nat) (rep : Report) : Report :=
  (rep.onVisit n fun v => v.addFresh time run.fresh).recordAll run.startTime s.now s.tick.events

theorem Report.onVisit_of_id {f : Visit → Visit} (h : ∀ v, f v = v) (rep : Report) (n : Nat) : rep.onVisit n f = rep := by
  simp [Report.onVisit, h]

@[simp] theorem Visit.addFresh_nil (v : Visit) (time : Nat) : v.addFresh time [] = v := rfl

section
variable {s : State} {sh : Shot} {run : Run} {rep : Report}

theorem State.recordEvent_now (he : s.engine = .running sh run) (hrep : s.reports[sh.slot] = .building rep) (i : Fin 16)
    (d : Direction) : s.recordEvent i d s.now =
      { s with reports := s.reports.set sh.slot (.building (rep.record run.startTime s.now i d s.now)) } := by
  simp only [State.recordEvent, he]
  rw [if_pos (by simp), State.onReport_building hrep, ← he]

theorem State.foldl_recordEvent (events : List (Fin 16 × Direction)) : ∀ {s : State} {rep : Report},
    s.engine = .running sh run → s.reports[sh.slot] = .building rep →
      (events.foldl (fun s x => s.recordEvent x.1 x.2 s.now) s).reports =
        s.reports.set sh.slot (.building (rep.recordAll run.startTime s.now events)) := by
  induction events with
  | nil =>
    intro s rep _ hrep
    exact Vector.ext fun k hk => by
      by_cases h : sh.slot.val = k
      · subst h
        rw [List.foldl_nil, Vector.getElem_set_self]
        exact hrep
      · rw [List.foldl_nil, Vector.getElem_set_ne _ _ h]
  | cons x xs ih =>
    intro s rep he hrep
    rw [List.foldl_cons, State.recordEvent_now he hrep, ih (by exact he) (Vector.getElem_set_self _)]
    exact Vector.set_set ..

/-- The engine after a tick's work in RUNNING: no element waits any more. -/
theorem State.settleTick_running (he : s.engine = .running sh run) :
    s.settleTick.engine = .running sh { run with fresh := [] } := by
  simp [State.settleTick, State.flushElems, he]

/-- What waited for the tick is in the report once its work is done: the elements in the visit now open, then the events. -/
theorem State.settleTick_reports (he : s.engine = .running sh run) (hrep : s.reports[sh.slot] = .building rep) :
    s.settleTick.reports = s.reports.set sh.slot
      (.building (s.filed run run.visit (s.since run.startTime run.entry) rep)) := by
  have hflush : s.flushElems = { s with
      engine := .running sh { run with fresh := [] },
      reports := s.reports.set sh.slot (.building (rep.onVisit run.visit fun v =>
        v.addFresh (s.since run.startTime run.entry) run.fresh)) } := by
    simp only [State.flushElems, he, State.flushInto, State.onReport_building hrep]
  have hfold := State.foldl_recordEvent (sh := sh) (run := { run with fresh := [] }) s.tick.events
    (s := s.flushElems) (by rw [hflush]) (by rw [hflush]; exact Vector.getElem_set_self _)
  have htick : s.flushElems.tick.events = s.tick.events := by simp
  have hset : s.settleTick.reports =
      (s.tick.events.foldl (fun s x => s.recordEvent x.1 x.2 s.now) s.flushElems).reports := by
    rw [← htick]
    rfl
  rw [hset, hfold, hflush]
  exact Vector.set_set ..

theorem State.flushElems_resting (h : s.engine.isRunning = false) : s.flushElems = s := by
  unfold State.flushElems
  split
  · rename_i he
    rw [he] at h
    cases h
  · rfl

/-- Outside RUNNING the end of a tick's work leaves the engine as it is. -/
theorem State.settleTick_resting (h : s.engine.isRunning = false) : s.settleTick.engine = s.engine := by
  simp [State.settleTick, State.flushElems_resting h]

/-- The tick's own record once the engine's work is done. -/
theorem State.settleTick_tick (s : State) : s.settleTick.tick = { s.tick with events := [], engine := true } := by
  have hfold : (s.tick.events.foldl (fun s x => s.recordEvent x.1 x.2 s.now) s.flushElems).tick = s.tick :=
    (foldl_keeps (fun s => s.tick) _ (fun s x => by simp) _ _).trans (by simp)
  have htick : s.flushElems.tick = s.tick := by simp
  simp only [State.settleTick, State.fileWaiting, htick, hfold]

end

/-! ## An entry and a deferral (R49, R50, R55, R56) -/

/-- A visit record as it is when the visit is left at the present tick (R50, R94). -/
def State.leftVisit (s : State) (sh : Shot) (run : Run) (cause : ExitCause) (deferral : Nat) (v : Visit) : Visit :=
  { v with exit := some (s.offset run.startTime), cause := some cause, deferral := deferral, adjust := s.adjustCounts sh,
           closeAt := some (later s.now (s.horizon sh)) }

/-- A report with one more visit open (R49). -/
def Report.withVisit (rep : Report) (v : Visit) : Report :=
  { rep with header := { rep.header with visitCount := rep.header.visitCount + 1 }, visits := rep.visits ++ [v] }

/-- The running record after the entry of state `n` at the present tick (R49). -/
def State.enteredRun (s : State) (run : Run) (n : Fin 64) : Run :=
  { run with visit := run.visit + 1, inForce := n, entry := s.offset run.startTime, trigLatch := false, stepLatch := false,
             edges := 0, deferral := none, fresh := [] }

/-- The report after the entry of state `n` at the present tick (R49, R50). -/
def State.enteredReport (s : State) (sh : Shot) (run : Run) (n : Fin 64) (cause : ExitCause) (deferral : Nat) (rep : Report) :
    Report :=
  (rep.onVisit run.visit (s.leftVisit sh run cause deferral)).withVisit
    (.opened (run.visit + 1) n (s.entry n).label (s.offset run.startTime))

theorem later_elapsed (c d : Clock) : later c (elapsed c d) = d := by
  rw [later, elapsed, BitVec.ofNat_toNat, BitVec.setWidth_eq]
  ring

/-- The time since the present moment's own offset is none. -/
theorem State.since_offset (s : State) (c : Clock) : s.since c (s.offset c) = 0 := by
  rw [State.since, State.offset, later_elapsed, elapsed_self]

theorem State.openVisit_report {s : State} {sh : Shot} {rep : Report} (h : s.reports[sh.slot] = .building rep) (number : Nat)
    (n : Fin 64) (entry : Nat) : (s.openVisit sh number n entry).reports =
      s.reports.set sh.slot (.building (rep.withVisit (.opened number n (s.entry n).label entry))) := by
  rw [State.openVisit, State.onHalf_reports, State.onReport_building h]
  rfl

section
variable (s : State) (sh : Shot) (run : Run) (n : Fin 64) (cause : ExitCause) (k : Nat)

/-- The entry of a state with what waited for its tick. -/
def State.entering : State := (s.perform (.enter sh run n cause k)).settleTick

theorem State.entering_engine : (s.entering sh run n cause k).engine = .running sh (s.enteredRun run n) := by
  refine State.settleTick_running (run := { run with
    visit := run.visit + 1, inForce := n, entry := s.offset run.startTime, trigLatch := false, stepLatch := false,
    edges := 0, deferral := none }) ?_
  simp [State.perform, State.enterState, State.offset, State.now]

@[simp] theorem State.entering_keeps : (s.entering sh run n cause k).pending = s.pending ∧
    (s.entering sh run n cause k).clock = s.clock ∧ (s.entering sh run n cause k).tables = s.tables ∧
    (s.entering sh run n cause k).queue = s.queue ∧ (s.entering sh run n cause k).links = s.links ∧
    (s.entering sh run n cause k).breakers = s.breakers ∧ (s.entering sh run n cause k).contacts = s.contacts ∧
    (s.entering sh run n cause k).sup = s.sup := by
  simp [State.entering, State.perform]

theorem State.entering_reports {rep : Report} (hrep : s.reports[sh.slot] = .building rep) :
    (s.entering sh run n cause k).reports = s.reports.set sh.slot
      (.building (s.filed run (run.visit + 1) 0 (s.enteredReport sh run n cause k rep))) := by
  have hleft : s.leaveVisit sh run cause k = { s with
      reports := s.reports.set sh.slot (.building (rep.onVisit run.visit (s.leftVisit sh run cause k))) } :=
    State.onReport_building hrep _
  have hperform : (s.perform (.enter sh run n cause k)).reports =
      s.reports.set sh.slot (.building (s.enteredReport sh run n cause k rep)) := by
    rw [State.perform, State.enterState, State.openVisit_report (rep := rep.onVisit run.visit (s.leftVisit sh run cause k))
      (by rw [hleft]; exact Vector.getElem_set_self _), hleft]
    exact Vector.set_set ..
  have hengine : (s.perform (.enter sh run n cause k)).engine = .running sh { run with
      visit := run.visit + 1, inForce := n, entry := s.offset run.startTime, trigLatch := false, stepLatch := false,
      edges := 0, deferral := none } := by
    simp [State.perform, State.enterState, State.offset, State.now]
  have hnow : (s.perform (.enter sh run n cause k)).now = s.now := by simp [State.now]
  have htick : (s.perform (.enter sh run n cause k)).tick.events = s.tick.events := by
    simp [State.perform, State.enterState, State.setResidues]
  have hsince : (s.perform (.enter sh run n cause k)).since run.startTime (s.offset run.startTime) = 0 := by
    rw [State.since, hnow]
    exact s.since_offset run.startTime
  rw [State.entering, State.settleTick_reports hengine (by rw [hperform]; exact Vector.getElem_set_self _), hperform, State.filed,
    hnow, htick, hsince]
  exact Vector.set_set ..

/-- The residues that the entry sets: a CUT lane's is left (R74, R76). -/
theorem State.entering_lane (i : Fin 12) : (s.entering sh run n cause k).synth.lanes[i] =
    if (s.synth.lanes[i]).cut = .cut then s.synth.lanes[i]
    else { s.synth.lanes[i] with
      residue := entryResidue i ((s.entry n).lanes[i]) (s.oldValue sh run.inForce i) (s.laneAc sh n i) } := by
  simp [State.entering, State.perform, State.enterState, State.setResidues, State.valueLeft, State.entry, State.oldValue,
    State.laneAc, State.laneRms, State.stepSize, State.profile]

theorem State.entering_residueSet : (s.entering sh run n cause k).tick.residueSet = BitVec.allOnes 12 := by
  simp [State.entering, State.settleTick_tick, State.perform, State.enterState, State.setResidues]

end

section
variable {s : State} {sh : Shot} {run : Run} {d : Deferral}

theorem State.deferralEndDue_of_reached (hdue : s.engineDue = true) (hprep : s.prepare = s.openTick)
    (he : s.engine = .running sh run) (hp : run.pendingEnd = none) (hd : run.deferral = some d)
    (hr : s.reached run d.target = true) : s.deferralEndDue = true := by
  simp [State.deferralEndDue, hdue, hprep, he, hp, hd, hr]

theorem State.action_of_deferralEnd (he : s.engine = .running sh run) (hp : run.pendingEnd = none) (hd : run.deferral = some d)
    (hr : s.reached run d.target = true) :
    s.action = .enter sh run d.target (.exit d.slot d.kind) (s.since run.startTime d.offset) := by
  simp [State.action, he, hp, hd, hr]

end

/-- Settles O35: the tick's work at a deferral's end is the entry of its target. -/
theorem deferralEndEntersTheTarget : Obligations.DeferralEndEntersTheTarget := by
  intro s sh run d rep he htick hengine hevents hmove hp hd hfresh hr hrep
  have hdue := State.engineDue_iff.2 ⟨htick, hengine⟩
  have hprep := State.prepare_of_noMove hmove
  have hwork : s.engineWork =
      s.openTick.entering sh run d.target (.exit d.slot d.kind) (s.openTick.since run.startTime d.offset) :=
    State.engineWork_eq hdue hprep (State.action_of_deferralEnd (by simpa using he) hp hd (by simpa using hr))
  have hrep' : s.openTick.reports[sh.slot] = .building rep := by simpa using hrep
  refine ⟨s.engineWork, congrArg _ (if_pos (State.deferralEndDue_of_reached hdue hprep he hp hd hr)), ?_⟩
  rw [hwork, State.entering_engine, State.entering_reports _ _ _ _ _ _ hrep']
  refine ⟨?_, ?_, by simp⟩
  · simp [State.enteredRun, hfresh]
  · rw [State.filed, hfresh, Report.onVisit_of_id fun v => v.addFresh_nil 0]
    simp [hevents, Report.recordAll, State.enteredReport, Report.withVisit, Report.onVisit, State.leftVisit, Visit.opened,
      State.since, State.horizon]

end Sys2Proof.Machine
end

section
/-! SUPPORT. The exit taken at a tick, and the end of a RUNNING shot at its end tick (R51, R55 to R58, R60, R63, R114, R159). -/

namespace Sys2Proof.Machine

/-! ## The exit taken and what follows its target (R51, R55, R56) -/

section
variable {s : State} {sh : Shot} {run : Run} {slot : Nat} {e : Exit}

/-- The exit due at a tick with no move due is the one taken once the tick is open, with no end pending and outside DEFERRING (R51). -/
theorem State.taken_of_dueExit (he : s.engine = .running sh run) (hmove : ∀ k, s.moveDue k = false)
    (hx : s.dueExit = some (slot, e)) : s.engineDue = true ∧ run.pendingEnd = none ∧ run.deferral = none ∧
      s.openTick.taken run = some (slot, e) := by
  have hopen : s.openTick.engine = .running sh run := by simpa using he
  rw [State.dueExit, State.prepare_of_noMove hmove, hopen] at hx
  dsimp only at hx
  split_ifs at hx with hdue hnone
  exact ⟨hdue, hnone.1, hnone.2, hx⟩

/-- What the engine does at a tick with an exit due follows the exit's target (R55, R56). -/
theorem State.action_of_dueExit (he : s.engine = .running sh run) (hmove : ∀ k, s.moveDue k = false)
    (hx : s.dueExit = some (slot, e)) : s.openTick.action = s.openTick.follow sh run slot e := by
  obtain ⟨_, hp, hd, ht⟩ := State.taken_of_dueExit he hmove hx
  have hopen : s.openTick.engine = .running sh run := by simpa using he
  rw [State.action, hopen]
  simp only [hp, hd, ht]

theorem exec_timeExit_of_due (hx : s.dueExit = some (slot, e)) (htime : ∃ limit, e.kind = .time limit) :
    exec .timeExit s = .next s.engineWork := by
  obtain ⟨limit, hkind⟩ := htime
  have hdue : s.timeExitDue = true := by rw [State.timeExitDue, hx]; simp [Exit.isTime, hkind]
  exact congrArg _ (if_pos hdue)

/-- What an exit to a state leads to: the end at the limit of 64 visits, the entry, or a deferral (R55, R56). -/
theorem State.follow_state {n : Fin 64} (ht : e.target = .state n) : s.follow sh run slot e =
    if 64 ≤ run.visit + 1 then .finish sh run .visitLimit (.finish .visitLimit)
    else if s.reached run n = true then .enter sh run n (.exit slot e.kind) 0
    else .defer sh run { target := n, slot := slot, kind := e.kind, offset := s.offset run.startTime } := by
  rw [State.follow, ht]
  rfl

theorem State.follow_finish (ht : e.target = .finish) :
    s.follow sh run slot e = .finish sh run .completed (.exit slot e.kind) := by
  rw [State.follow, ht]

end

/-! ## The supervision of an end tick (R122 to R125) -/

theorem State.setCondition_inhibit (s : State) (i : Fin 12) (c : Condition) :
    (s.setCondition i c).sup.inhibit = s.sup.inhibit := by
  unfold State.setCondition
  dsimp only
  split <;> rfl

/-- What the comparison of a lane leaves of the tick's own record and of the Output Supervision Unit. -/
theorem State.compareLane_rest (s : State) (i : Fin 12) : (s.compareLane i).sup.inhibit = s.sup.inhibit ∧
    (s.compareLane i).tick.residueSet = s.tick.residueSet ∧ (s.compareLane i).tick.synth = s.tick.synth ∧
    (s.compareLane i).tick.events = s.tick.events := by
  unfold State.compareLane
  dsimp only
  repeat' split
  · simp [State.setCondition_inhibit, State.setSup]
  · simp [State.setSup]
  · simp

/-- What the comparison of every lane leaves of the tick's own record and of the Output Supervision Unit. -/
@[simp] theorem State.compareLanes_rest (s : State) : s.compareLanes.sup.inhibit = s.sup.inhibit ∧
    s.compareLanes.tick.residueSet = s.tick.residueSet ∧ s.compareLanes.tick.synth = s.tick.synth ∧
    s.compareLanes.tick.events = s.tick.events :=
  ⟨foldl_keeps (fun s => s.sup.inhibit) _ (fun s i => by simp [s.compareLane_rest i]) _ s,
    foldl_keeps (fun s => s.tick.residueSet) _ (fun s i => by simp [s.compareLane_rest i]) _ s,
    foldl_keeps (fun s => s.tick.synth) _ (fun s i => by simp [s.compareLane_rest i]) _ s,
    foldl_keeps (fun s => s.tick.events) _ (fun s i => by simp [s.compareLane_rest i]) _ s⟩

@[simp] theorem State.superviseEnd_rest (s : State) : s.superviseEnd.tick.synth = s.tick.synth ∧
    s.superviseEnd.tick.events = s.tick.events := by
  unfold State.superviseEnd
  split <;> simp [State.heatAccounts]

/-! ## The engine's work marked as done -/

/-- The engine's work at this microsecond's tick marked as done, and nothing else changed. -/
def State.marked (s : State) : State := { s with tick := { s.tick with engine := true } }

section
variable (s : State)

theorem State.onReport_marked (k : Fin 16) (f : Report → Report) : s.marked.onReport k f = (s.onReport k f).marked := by
  have h : s.marked.reports[k] = s.reports[k] := rfl
  unfold State.onReport
  rw [h]
  cases s.reports[k] <;> rfl

theorem State.onHalf_marked (h : Option HalfId) (f : Half → Half) : s.marked.onHalf h f = (s.onHalf h f).marked := by
  cases h <;> rfl

theorem State.handOn_marked (sh : Shot) : s.marked.handOn sh = (s.handOn sh).marked := by
  have h : s.marked.reports[sh.slot] = s.reports[sh.slot] := rfl
  have hsubscribers : s.marked.subscribers = s.subscribers := rfl
  unfold State.handOn
  rw [h, hsubscribers]
  cases s.reports[sh.slot] with
  | building r =>
    dsimp only
    split_ifs
    · exact State.onHalf_marked { s with reports := s.reports.set sh.slot .empty } sh.half _
    · exact State.onHalf_marked { s with reports := s.reports.set sh.slot (.complete r s.subscribers) } sh.half _
  | empty => rfl
  | complete r w => rfl

theorem State.tearDown_marked (sh : Shot) : s.marked.tearDown sh = (s.tearDown sh).marked := by
  have hclose : s.marked.closeRest sh.slot = (s.closeRest sh.slot).marked := s.onReport_marked _ _
  have hcomplete : ∀ t : State, t.marked.completeReport sh = (t.completeReport sh).marked := fun t => by
    have huntriggered : t.marked.halfUntriggered sh.half = t.halfUntriggered sh.half := rfl
    have href : t.marked.captureRef sh.half = t.captureRef sh.half := rfl
    rw [State.completeReport, huntriggered, href, State.onReport_marked, State.handOn_marked]
    rfl
  rw [State.tearDown, hclose, hcomplete]
  rfl

theorem State.endArmed_marked (sh : Shot) (r : EndReason) : s.marked.endArmed sh r = (s.endArmed sh r).marked := by
  have hsettled : s.marked.settled sh r = (s.settled sh r).marked := by
    have hcut : (s.onHalf sh.half Half.stop).marked.halfCutShort sh.half = (s.onHalf sh.half Half.stop).halfCutShort sh.half := rfl
    rw [State.settled, State.writeEnd, State.onHalf_marked, hcut, State.onReport_marked]
    rfl
  have hprofile : s.marked.profile sh.req.profile = s.profile sh.req.profile := rfl
  rw [State.endArmed_eq, State.endArmed_eq, hprofile, hsettled]
  split_ifs
  · exact State.tearDown_marked _ sh
  · rfl

theorem State.grantInto_marked (r : Request) (k : Fin 16) : s.marked.grantInto r k = (s.grantInto r k).marked := by
  have hhalf : s.marked.halfFor r = s.halfFor r := rfl
  unfold State.grantInto
  rw [hhalf]
  cases s.halfFor r <;> rfl

theorem State.grantLoop_marked (n : Nat) : ∀ s : State, State.grantLoop n s.marked = (State.grantLoop n s).marked := by
  induction n with
  | zero => exact fun _ => rfl
  | succ n ih =>
    intro s
    have hchoice : s.marked.choice = s.choice := rfl
    have hslot : s.marked.emptySlot = s.emptySlot := rfl
    cases hc : s.choice with
    | none => rw [State.grantLoop, State.grantLoop, hchoice, hc]
    | some r =>
      obtain ⟨k, hk⟩ := State.choice_slot hc
      have hquality : s.marked.clock.quality = s.clock.quality := rfl
      have hshot : s.marked.shotOf r k = s.shotOf r k := rfl
      rw [State.grantLoop_of_choice n (hchoice.trans hc) (hslot.trans hk), State.grantLoop_of_choice n hc hk, hquality, hshot,
        State.grantInto_marked, State.endArmed_marked, ih]
      split_ifs <;> rfl

theorem State.grantMoment_marked : s.marked.grantMoment = s.grantMoment.marked := State.grantLoop_marked _ s

end

/-! ## The end tick (R57, R60, R63) -/

section
variable {s : State} {sh : Shot} {run : Run} {r : EndReason} {cause : ExitCause} {rep : Report}

/-- The end of a tick's work outside RUNNING, with no event waiting: the work is marked as done. -/
theorem State.settleTick_marked (h : s.engine.isRunning = false) (hevents : s.tick.events = []) : s.settleTick = s.marked := by
  rw [State.settleTick, State.flushElems_resting h, State.fileWaiting_of_nil hevents]
  rfl

/-- A moment of a grant starts no shot. -/
theorem State.grantMoment_resting (h : s.engine.isRunning = false) : s.grantMoment.engine.isRunning = false := by
  refine State.grantMoment_induct (P := fun t => t.engine.isRunning = false) h (fun t r k _ _ _ => by simp [Engine.isRunning])
    fun t sh _ _ _ => ?_
  rw [State.endArmed, State.settle_engine]
  split <;> rfl

theorem State.endRunning_resting (s : State) (sh : Shot) (run : Run) (r : EndReason) (cause : ExitCause) :
    (s.endRunning sh run r cause).engine.isRunning = false := by
  rw [State.endRunning, State.settle_engine]
  split <;> rfl

/-- The report after the end of a RUNNING shot (R50, R57, R60). -/
def State.endedReport (s : State) (sh : Shot) (run : Run) (r : EndReason) (cause : ExitCause) (rep : Report) : Report :=
  { rep.onVisit run.visit (s.leftVisit sh run cause (s.deferralAtEnd run)) with
    header := rep.header.ended s.now r (s.cutAtStop sh.half) }

/-- A RUNNING shot stopped at its end tick, as the engine is about to settle (R60). -/
def State.stoppedAt (s : State) (sh : Shot) (run : Run) (r : EndReason) (cause : ExitCause) (rep : Report) : State :=
  { s with
    breakers := Vector.ofFn fun k => s.breakers[k].stop,
    synth := { s.synth with lanes := Vector.ofFn fun i => { s.synth.lanes[i] with reenergise := none } },
    captures := s.captures.stopped sh.half,
    reports := s.reports.set sh.slot (.building (s.endedReport sh run r cause rep)) }

/-- The state in which a RUNNING shot settles at its end tick (R60). -/
def State.settledAt (s : State) (sh : Shot) (run : Run) (r : EndReason) (cause : ExitCause) (rep : Report) : State :=
  { s.stoppedAt sh run r cause rep with engine := .settling sh (some run.startTime) s.now }

theorem State.flushInto_of_nil (h : run.fresh = []) : s.flushInto sh run = s := by
  unfold State.flushInto State.onReport
  rw [h]
  split
  · rename_i rep hrep
    dsimp only
    rw [Report.onVisit_of_id fun v => v.addFresh_nil _, ← hrep]
    simp
  · rfl

theorem State.endRunning_stopped (hrep : s.reports[sh.slot] = .building rep) (hfresh : run.fresh = []) :
    s.endRunning sh run r cause = (s.stoppedAt sh run r cause rep).settle sh (some run.startTime) := by
  have hleft : s.leaveVisit sh run cause (s.deferralAtEnd run) = { s with
      reports := s.reports.set sh.slot
        (.building (rep.onVisit run.visit (s.leftVisit sh run cause (s.deferralAtEnd run)))) } :=
    State.onReport_building hrep _
  rw [State.endRunning, State.flushInto_of_nil hfresh, hleft]
  dsimp only
  rw [State.writeEnd_stop (rep := rep.onVisit run.visit (s.leftVisit sh run cause (s.deferralAtEnd run)))
    (Vector.getElem_set_self _)]
  simp only [Vector.set_set]
  rfl

/-- The end of a RUNNING shot at its end tick: it settles, and with a horizon of 0 it is torn down too (R60, R63). -/
theorem State.endRunning_eq (hrep : s.reports[sh.slot] = .building rep) (hfresh : run.fresh = []) :
    s.endRunning sh run r cause = if (s.profile sh.req.profile).horizon = 0 then (s.settledAt sh run r cause rep).tearDown sh
      else s.settledAt sh run r cause rep := by
  have hprofile : (s.stoppedAt sh run r cause rep).profile sh.req.profile = s.profile sh.req.profile := rfl
  rw [State.endRunning_stopped hrep hfresh]
  split_ifs with hh
  · exact State.settle_of_zero (hprofile ▸ hh)
  · exact State.settle_of_horizon (hprofile ▸ hh)

/-- The engine's work at an end tick (R60, R122, R125). -/
theorem State.engineWork_ends (hdue : s.engineDue = true) (hprep : s.prepare = s.openTick)
    (ha : s.openTick.action = .finish sh run r cause) :
    s.engineWork = ((s.openTick.superviseEnd.endRunning sh run r cause).grantMoment).settleTick := by
  rw [State.engineWork_eq hdue hprep ha, State.perform]

theorem exec_shotEnd_of_finish (hdue : s.engineDue = true) (hprep : s.prepare = s.openTick)
    (ha : s.openTick.action = .finish sh run r cause) : exec .shotEnd s = .next s.engineWork :=
  congrArg _ (if_pos (by rw [State.dueAction_eq hdue hprep, ha]; rfl))

/-- SHOT_END at a tick whose action is the end: with a horizon of 0 the teardown comes in the same action (R60, R63). -/
theorem exec_shotEnd_settles (hdue : s.engineDue = true) (hprep : s.prepare = s.openTick)
    (ha : s.openTick.action = .finish sh run r cause) (hrep : s.reports[sh.slot] = .building rep) (hfresh : run.fresh = [])
    (hevents : s.tick.events = []) :
    exec .shotEnd s = if (s.profile sh.req.profile).horizon = 0 then
        exec .teardown (s.openTick.superviseEnd.settledAt sh run r cause rep).marked
      else .next (s.openTick.superviseEnd.settledAt sh run r cause rep).marked := by
  have hprofile : s.openTick.superviseEnd.profile sh.req.profile = s.profile sh.req.profile := by simp [State.profile]
  rw [exec_shotEnd_of_finish hdue hprep ha, State.engineWork_ends hdue hprep ha,
    State.endRunning_eq (rep := rep) (by simpa using hrep) hfresh, hprofile]
  generalize hv : s.openTick.superviseEnd.settledAt sh run r cause rep = v
  have hengine : v.engine = .settling sh (some run.startTime) s.now := by rw [← hv]; simp [State.settledAt, State.now]
  have hv_events : v.tick.events = [] := by rw [← hv]; simp [State.settledAt, State.stoppedAt, hevents]
  have hresting : v.engine.isRunning = false := by rw [hengine]; rfl
  split_ifs with hh
  · have hzero : (v.marked.profile sh.req.profile).horizon = 0 := by
      rw [← hv, ← hh, ← hprofile]
      rfl
    rw [exec_teardown_of_due (s := v.marked) hengine (hzero ▸ Nat.zero_le _), State.tearDown_marked, State.grantMoment_marked,
      State.settleTick_marked (State.grantMoment_resting rfl) (by simp [hv_events])]
  · rw [State.grantMoment_of_busy (by simp [hengine]), State.settleTick_marked hresting hv_events]

end

/-- The end that a tick takes, with the cause that it gives the last visit, is the action the engine is ready for (R55 to R58). -/
theorem State.action_of_end {s : State} {sh : Shot} {run : Run} {r : EndReason} {cause : ExitCause}
    (he : s.engine = .running sh run)
    (hend : (run.pendingEnd = some r ∧ cause = .finish r) ∨
      ((∀ k : Fin 4, s.moveDue k = false) ∧ ∃ slot e, s.dueExit = some (slot, e) ∧
        ((e.target = .finish ∧ r = .completed ∧ cause = .exit slot e.kind) ∨
          ((∃ n, e.target = .state n) ∧ 64 ≤ run.visit + 1 ∧ r = .visitLimit ∧ cause = .finish .visitLimit)))) :
    s.prepare = s.openTick ∧ s.openTick.action = .finish sh run r cause := by
  rcases hend with ⟨hp, rfl⟩ | ⟨hmove, slot, e, hx, htarget⟩
  · have hopen : s.openTick.engine = .running sh run := by simpa using he
    refine ⟨State.prepare_of_end he (by simp [hp]), ?_⟩
    rw [State.action, hopen]
    simp only [hp]
  · refine ⟨State.prepare_of_noMove hmove, ?_⟩
    rw [State.action_of_dueExit he hmove hx]
    rcases htarget with ⟨ht, rfl, rfl⟩ | ⟨⟨n, ht⟩, hvisit, rfl, rfl⟩
    · exact State.follow_finish ht
    · rw [State.follow_state ht, if_pos hvisit]

/-- Settles O37: the end tick's work is the end of the shot, which then settles or is torn down. -/
theorem shotEndSettles : Obligations.ShotEndSettles := by
  intro s sh run r cause rep he htick hengine hevents hfresh hrep hend
  obtain ⟨hprep, ha⟩ := State.action_of_end he hend
  intro cut
  refine ⟨(s.openTick.superviseEnd.settledAt sh run r cause rep).marked,
    exec_shotEnd_settles (State.engineDue_iff.2 ⟨htick, hengine⟩) hprep ha hrep hfresh hevents, ?_⟩
  have hnow : s.openTick.superviseEnd.now = s.now := by simp [State.now]
  have hcut : s.openTick.superviseEnd.cutAtStop sh.half = cut := by
    show _ = s.openTick.cutAtStop sh.half
    cases sh.half <;> simp [State.cutAtStop]
  have hleft : s.openTick.superviseEnd.leftVisit sh run cause (s.openTick.superviseEnd.deferralAtEnd run) =
      s.leftVisit sh run cause (s.deferralAtEnd run) := by
    funext v
    simp [State.leftVisit, State.deferralAtEnd, State.offset, State.since, State.adjustCounts, State.horizon, State.profile, hnow]
  refine ⟨by rw [← hnow]; rfl, fun k => ?_, fun i => ?_, fun h => ?_, ?_, rfl, ?_⟩
  · simp [State.marked, State.settledAt, State.stoppedAt, Simulator.stop]
  · simp [State.marked, State.settledAt, State.stoppedAt]
  · exact (Captures.get_stopped _ _ _).trans (by simp)
  · have hreports : s.openTick.superviseEnd.reports = s.reports := by simp
    simp only [State.marked, State.settledAt, State.stoppedAt, State.endedReport, hcut, hleft, hnow, hreports]
    rfl
  · simp [State.marked, State.settledAt, State.stoppedAt]

end Sys2Proof.Machine
end

section
/-! SUPPORT. A tick in RUNNING as a whole (R51, R52, R55, R56, R68, R74, R77, R78, R122 to R125): its supervision, the lanes that it plays,
and the exit that is taken at it. -/

namespace Sys2Proof.Machine

/-! ## The supervision of a tick that goes on (R122 to R125) -/

/-- The end that the supervision of a tick may make pending (R123, R125). -/
def SupervisedEnd (p : Option EndReason) : Prop :=
  p = none ∨ (∃ i : Fin 12, p = some (.deviation i)) ∨ ∃ i : Fin 6, p = some (.heat (currentLane i))

/-- What the supervision of a tick in RUNNING leaves as it was. -/
def State.Supervises (s t : State) : Prop :=
  t.clock = s.clock ∧ t.tables = s.tables ∧ t.queue = s.queue ∧ t.synth = s.synth ∧ t.contacts = s.contacts ∧
    t.breakers = s.breakers ∧ t.reports = s.reports ∧ t.sup.inhibit = s.sup.inhibit ∧
    t.tick.residueSet = s.tick.residueSet

section
variable {s : State} {sh : Shot} {run : Run}

theorem State.setEngine_self {e : Engine} (h : s.engine = e) : { s with engine := e } = s := by rw [← h]

/-- The comparison at a tick in RUNNING with no end pending (R122, R123). -/
theorem State.compareAll_running (he : s.engine = .running sh run) (hp : run.pendingEnd = none) :
    ∃ p, (p = none ∨ ∃ i : Fin 12, p = some (.deviation i)) ∧
      s.compareAll = { s.compareLanes with engine := .running sh { run with pendingEnd := p } } := by
  have hlanes : s.compareLanes.engine = .running sh run := by simpa using he
  unfold State.compareAll
  split
  · rename_i i _
    exact ⟨some (.deviation i), .inr ⟨i, rfl⟩, by rw [State.requestEnd_of_running _ hlanes, hp]; rfl⟩
  · exact ⟨none, .inl rfl, (State.setEngine_self (by rw [hlanes, ← hp])).symm⟩

/-- The heat update at a tick in RUNNING, where it is still to be done (R124, R125). -/
theorem State.heatAll_running (he : s.engine = .running sh run) :
    ∃ p t, (p = run.pendingEnd ∨ ∃ i : Fin 6, p = some (.heat (currentLane i))) ∧ (t = s ∨ t = s.heatAccounts) ∧
      s.heatAll = { t with engine := .running sh { run with pendingEnd := p } } := by
  have hheat : s.heatAccounts.engine = .running sh run := he
  unfold State.heatAll
  split
  · exact ⟨_, s, .inl rfl, .inl rfl, (State.setEngine_self he).symm⟩
  · split
    · rename_i i _
      refine ⟨_, s.heatAccounts, ?_, .inr rfl, State.requestEnd_of_running _ hheat⟩
      cases run.pendingEnd with
      | none => exact .inr ⟨i, rfl⟩
      | some r => exact .inl rfl
    · exact ⟨_, s.heatAccounts, .inl rfl, .inr rfl, (State.setEngine_self hheat).symm⟩

/-- The supervision of a tick in RUNNING: of the engine it changes no more than the pending end. -/
theorem State.supervise_running (he : s.engine = .running sh run) (hp : run.pendingEnd = none) :
    ∃ p, SupervisedEnd p ∧ s.compareAll.heatAll.engine = .running sh { run with pendingEnd := p } ∧
      s.Supervises s.compareAll.heatAll := by
  obtain ⟨p, hdeviation, hcompare⟩ := State.compareAll_running he hp
  obtain ⟨q, t, hheat, ht, hall⟩ := State.heatAll_running (s := s.compareAll) (sh := sh) (run := { run with pendingEnd := p })
    (by rw [hcompare])
  refine ⟨q, ?_, by rw [hall], ?_⟩
  · rcases hheat with rfl | hheat
    · exact hdeviation.imp id .inl
    · exact .inr (.inr hheat)
  · rw [hall, State.Supervises]
    rcases ht with rfl | rfl <;> simp [hcompare, State.heatAccounts]

end

/-! ## The lanes that a tick plays (R68, R77, R78) -/

section
variable (s : State) (sh : Shot) (run : Run) {i : Fin 12}

theorem State.reenergiseLane_other {j : Fin 12} (h : i ≠ j) :
    (s.reenergiseLane sh run j).synth.lanes[i] = s.synth.lanes[i] ∧
      has (s.reenergiseLane sh run j).tick.residueSet i = has s.tick.residueSet i := by
  have hval : j.val ≠ i.val := fun hv => h (Fin.ext hv.symm)
  unfold State.reenergiseLane
  dsimp only
  split <;> simp [State.setLane, hval, h]

/-- A lane at which no re-energising request waits is none that the tick makes LIVE (R112). -/
theorem State.reenergiseDue_lane (h : (s.synth.lanes[i]).reenergise = none) :
    (s.reenergiseDue sh run).synth.lanes[i] = s.synth.lanes[i] ∧
      has (s.reenergiseDue sh run).tick.residueSet i = has s.tick.residueSet i := by
  unfold State.reenergiseDue
  refine List.foldlRecOn (motive := fun t : State => t.synth.lanes[i] = s.synth.lanes[i] ∧
    has t.tick.residueSet i = has s.tick.residueSet i) (List.finRange 12) _ ⟨rfl, rfl⟩ fun t ht j _ => ?_
  obtain ⟨hlane, hset⟩ := ht
  split
  · rename_i hdue
    have hij : i ≠ j := fun hij => by
      rw [← hij, hlane, SynthLane.reenergiseDue, h] at hdue
      cases hdue
    obtain ⟨hlane', hset'⟩ := t.reenergiseLane_other sh run hij
    exact ⟨hlane'.trans hlane, hset'.trans hset⟩
  · exact ⟨hlane, hset⟩

/-- A lane after the frame of a tick (R68, R79). -/
theorem State.playLanes_lane (i : Fin 12) :
    (s.playLanes sh run).synth.lanes[i] = ((s.reenergiseDue sh run).laneTick sh run i).lane := by
  simp [State.playLanes]

/-- A lane clips by the value that it gives at the tick (R78). -/
theorem State.laneTick_clip (i : Fin 12) : (s.laneTick sh run i).clip = clips i (s.laneTick sh run i).lane.prev := rfl

/-- A LIVE lane at a tick that has set its residue as an entry's (R74, R77). -/
theorem State.playLanes_live (hcut : (s.synth.lanes[i]).cut = .live) (hr : (s.synth.lanes[i]).reenergise = none)
    (hset : has s.tick.residueSet i = true) :
    ((s.playLanes sh run).synth.lanes[i]).residue = (s.synth.lanes[i]).residue ∧
      ((s.playLanes sh run).synth.lanes[i]).prev =
        if s.sup.inhibit = true then 0 else s.laneAc sh run.inForce i + roundDiv (s.synth.lanes[i]).residue 65536 := by
  obtain ⟨hlane, hset'⟩ := s.reenergiseDue_lane sh run hr
  have hac : (s.reenergiseDue sh run).laneAc sh run.inForce i = s.laneAc sh run.inForce i := by
    simp only [State.laneAc, State.laneRms, State.stepSize, State.profile, State.entry, State.reenergiseDue_keeps, hlane]
  have hresidue : (s.reenergiseDue sh run).laneResidue run i = (s.synth.lanes[i]).residue := by
    simp only [State.laneResidue, hlane, hcut, hset', hset]
    simp
  rw [State.playLanes_lane]
  simp only [State.laneTick, State.cutByValue, State.cutByLimit, hlane, hcut, SynthLane.tested, State.laneValue, hresidue, hac]
  simp

/-- The clipping lanes of a tick join the clip lane mask of the current visit (R78). -/
theorem State.playLanes_reports {rep : Report} (hrep : s.reports[sh.slot] = .building rep) : ∃ clipping : LaneSet,
    (s.playLanes sh run).reports = s.reports.set sh.slot
      (.building (rep.onVisit run.visit fun v => { v with clip := v.clip ||| clipping })) ∧
    ∀ i : Fin 12, has clipping i = true ↔
      32767 < (roundDiv (((s.playLanes sh run).synth.lanes[i]).prev * 32767) (if i.val < 6 then 45255 else 42426)).natAbs := by
  refine ⟨setOf fun i => ((s.reenergiseDue sh run).laneTick sh run i).clip, ?_, fun i => ?_⟩
  · rw [State.playLanes, State.onReport_building (r := rep) (by simpa using hrep)]
    simp
  · have hscale : Config.fullScale i = if i.val < 6 then 45255 else 42426 := by simp [Config.fullScale, Config.isCurrentLane]
    have hclip : ((s.reenergiseDue sh run).laneTick sh run i).clip =
        clips i ((s.playLanes sh run).synth.lanes[i]).prev := by
      rw [State.playLanes_lane, State.laneTick_clip]
    rw [has_setOf, hclip, clips, rawCode, Config.maxCode, hscale, Bool.or_eq_true, decide_eq_true_iff, decide_eq_true_iff]
    omega

end

/-! ## A tick in RUNNING as a whole -/

section
variable {s : State} {sh : Shot} {run : Run}

/-- What the lanes give at a tick reaches the report as the clip lane mask of visit `n` (R78). -/
def State.Clips (s t : State) (sh : Shot) (rep : Report) (n : Nat) : Prop :=
  ∃ clipping : LaneSet,
    t.reports = s.reports.set sh.slot (.building (rep.onVisit n fun v => { v with clip := v.clip ||| clipping })) ∧
    ∀ i : Fin 12, has clipping i = true ↔
      32767 < (roundDiv ((t.synth.lanes[i]).prev * 32767) (if i.val < 6 then 45255 else 42426)).natAbs

/-- SAMPLE_TICK at a tick after whose engine work the shot runs on with no end pending. -/
theorem exec_sampleTick_running (hdue : s.tickDue = true) (he : s.engineWork.engine = .running sh run)
    (hp : run.pendingEnd = none) : ∃ t p, exec .sampleTick s = .next t ∧
      t.engine = .running sh { run with pendingEnd := p } ∧ SupervisedEnd p ∧
      (t.tables = s.engineWork.tables ∧ t.queue = s.engineWork.queue ∧ t.breakers = s.engineWork.breakers ∧
        t.contacts = s.engineWork.contacts ∧ t.clock = s.engineWork.clock) ∧
      (∀ rep, s.engineWork.reports[sh.slot] = .building rep → s.engineWork.Clips t sh rep run.visit) ∧
      ∀ i : Fin 12, (s.engineWork.synth.lanes[i]).cut = .live → (s.engineWork.synth.lanes[i]).reenergise = none →
        has s.engineWork.tick.residueSet i = true →
          (t.synth.lanes[i]).residue = (s.engineWork.synth.lanes[i]).residue ∧
          (t.synth.lanes[i]).prev = if s.engineWork.sup.inhibit = true then 0
            else s.engineWork.laneAc sh run.inForce i + roundDiv (s.engineWork.synth.lanes[i]).residue 65536 := by
  obtain ⟨p, hend, hengine, hclock, htables, hqueue, hsynth, hcontacts, hbreakers, hreports, hinhibit, hset⟩ :=
    State.supervise_running he hp
  generalize hu : s.engineWork.compareAll.heatAll = u at *
  have hclose : exec .sampleTick s = .next u.closeTick := by
    have hrun : s.runTick = u.closeTick := by
      rw [State.runTick, if_pos hdue, hu, State.grantMoment_of_busy (by simp [hengine])]
    exact congrArg _ hrun
  have hsynthesise : u.synthesise = u.playLanes sh { run with pendingEnd := p } := by rw [State.synthesise, hengine]
  have hlanes : u.closeTick.synth = (u.playLanes sh { run with pendingEnd := p }).synth ∧
      u.closeTick.reports = (u.playLanes sh { run with pendingEnd := p }).reports := by
    rw [← hsynthesise]
    exact ⟨rfl, rfl⟩
  refine ⟨u.closeTick, p, hclose, by simp [hengine], hend, by simp [htables, hqueue, hbreakers, hcontacts, hclock],
    fun rep hrep => ?_, fun i hcut hr hi => ?_⟩
  · rw [State.Clips, hlanes.1, hlanes.2, ← hreports]
    exact u.playLanes_reports sh _ (by rw [hreports]; exact hrep)
  · have hac : u.laneAc sh run.inForce i = s.engineWork.laneAc sh run.inForce i := by
      simp only [State.laneAc, State.laneRms, State.stepSize, State.profile, State.entry, htables, hsynth]
    rw [hlanes.1, ← hsynth, ← hinhibit, ← hac]
    exact u.playLanes_live sh { run with pendingEnd := p } (by rw [hsynth]; exact hcut) (by rw [hsynth]; exact hr)
      (by rw [hset]; exact hi)

end

/-! ## An entry at a tick -/

section
variable {s : State} {sh : Shot} {run : Run} {slot : Nat} {e : Exit} {n : Fin 64}

theorem has_allOnes {n : Nat} (i : Fin n) : has (BitVec.allOnes n) i = true := by simp [has]

/-- The residue of an entry is clamped to twice the full scale (R74). -/
theorem entryResidue_eq (i : Fin 12) (x : LaneSetting) (old new : Int) :
    let limit : Int := 131072 * (if i.val < 6 then 45255 else 42426)
    entryResidue i x old new = if x.tau = 0 then 0 else max (-limit) (min limit (65536 * (old - new))) := by
  intro limit
  have hlimit : (2 * Config.fullScale i * 65536 : Int) = limit := by
    simp only [Config.fullScale, Config.isCurrentLane, limit, decide_eq_true_eq]
    split <;> norm_num
  rw [entryResidue, hlimit, clampInt]
  split_ifs <;> omega

/-- The report after an entry at this tick, with what waited for the tick. -/
def State.reportEntered (s : State) (sh : Shot) (run : Run) (n : Fin 64) (cause : ExitCause) (rep : Report) : Report :=
  s.filed run (run.visit + 1) 0 (s.enteredReport sh run n cause 0 rep)

theorem State.openTick_filed (s : State) (run : Run) (k time : Nat) (rep : Report) :
    s.openTick.filed run k time rep = s.filed run k time rep := by simp [State.filed]

theorem State.openTick_enteredRun (s : State) (run : Run) (n : Fin 64) : s.openTick.enteredRun run n = s.enteredRun run n := by
  simp [State.enteredRun]

theorem State.openTick_reportEntered (s : State) (sh : Shot) (run : Run) (n : Fin 64) (cause : ExitCause) (rep : Report) :
    s.openTick.reportEntered sh run n cause rep = s.reportEntered sh run n cause rep := by
  have hleft : s.openTick.leftVisit sh run cause 0 = s.leftVisit sh run cause 0 := by funext v; simp [State.leftVisit]
  simp [State.reportEntered, State.openTick_filed, State.enteredReport, hleft]

theorem State.Clips.of_set {u t : State} {x : Slot} {rep : Report} {k : Nat} (hu : u.reports = s.reports.set sh.slot x)
    (h : u.Clips t sh rep k) : s.Clips t sh rep k := by
  obtain ⟨clipping, hreports, hclips⟩ := h
  exact ⟨clipping, by rw [hreports, hu]; exact Vector.set_set .., hclips⟩

/-- What an exit to a state leaves of the part's other units. -/
def State.KeepsUnits (s t : State) : Prop :=
  t.tables = s.tables ∧ t.queue = s.queue ∧ t.breakers = s.breakers ∧ t.contacts = s.contacts ∧ t.clock = s.clock

/-- The residue that an entry of state `n` at this tick gives a lane that is not CUT (R74). -/
def State.residueAt (s : State) (sh : Shot) (run : Run) (n : Fin 64) (i : Fin 12) : Int :=
  entryResidue i ((s.entry n).lanes[i]) (s.oldValue sh run.inForce i) (s.laneAc sh n i)

/-- The engine's work at a tick whose exit enters its target. -/
theorem State.engineWork_enters (he : s.engine = .running sh run) (hmove : ∀ k, s.moveDue k = false)
    (hx : s.dueExit = some (slot, e)) (ht : e.target = .state n) (hvisit : run.visit + 1 < 64) (hr : s.reached run n = true) :
    s.engineWork.engine = .running sh (s.enteredRun run n) ∧ s.engineWork.links = s.links ∧ s.KeepsUnits s.engineWork ∧
      s.engineWork.sup.inhibit = s.sup.inhibit ∧ s.engineWork.tick.residueSet = BitVec.allOnes 12 ∧
      (∀ rep, s.reports[sh.slot] = .building rep → s.engineWork.reports =
        s.reports.set sh.slot (.building (s.reportEntered sh run n (.exit slot e.kind) rep))) ∧
      ∀ i : Fin 12, s.engineWork.synth.lanes[i] = if (s.synth.lanes[i]).cut = .cut then s.synth.lanes[i]
        else { s.synth.lanes[i] with residue := s.residueAt sh run n i } := by
  obtain ⟨hdue, _⟩ := State.taken_of_dueExit he hmove hx
  have ha : s.openTick.action = .enter sh run n (.exit slot e.kind) 0 := by
    rw [State.action_of_dueExit he hmove hx, State.follow_state ht, if_neg (Nat.not_le.2 hvisit), if_pos (by simpa using hr)]
  have hwork : s.engineWork = s.openTick.entering sh run n (.exit slot e.kind) 0 :=
    State.engineWork_eq hdue (State.prepare_of_noMove hmove) ha
  rw [hwork, State.entering_engine, State.openTick_enteredRun, State.KeepsUnits, State.entering_residueSet]
  refine ⟨rfl, by simp, by simp, by simp, rfl, fun rep hrep => ?_, fun i => ?_⟩
  · rw [State.entering_reports _ _ _ _ _ _ (rep := rep) (by simpa using hrep), ← State.openTick_reportEntered]
    simp [State.reportEntered]
  · rw [State.entering_lane]
    simp [State.residueAt]

/-- SAMPLE_TICK at a tick whose exit enters its target (R49, R50, R55, R74). -/
theorem exec_sampleTick_enters (he : s.engine = .running sh run) (hmove : ∀ k, s.moveDue k = false)
    (hx : s.dueExit = some (slot, e)) (ht : e.target = .state n) (hvisit : run.visit + 1 < 64) (hr : s.reached run n = true) :
    ∃ t p, exec .sampleTick s = .next t ∧ t.engine = .running sh { s.enteredRun run n with pendingEnd := p } ∧ SupervisedEnd p ∧
      s.KeepsUnits t ∧
      (∀ rep, s.reports[sh.slot] = .building rep →
        s.Clips t sh (s.reportEntered sh run n (.exit slot e.kind) rep) (run.visit + 1)) ∧
      ∀ i : Fin 12, (s.synth.lanes[i]).cut = .live → (s.synth.lanes[i]).reenergise = none →
        (t.synth.lanes[i]).residue = s.residueAt sh run n i ∧
        (t.synth.lanes[i]).prev =
          if s.sup.inhibit = true then 0 else s.laneAc sh n i + roundDiv (s.residueAt sh run n i) 65536 := by
  obtain ⟨hengine, _, ⟨htables, hqueue, hbreakers, hcontacts, hclock⟩, hinhibit, hset, hreports, hlanes⟩ :=
    State.engineWork_enters he hmove hx ht hvisit hr
  obtain ⟨hdue, hp, _⟩ := State.taken_of_dueExit he hmove hx
  obtain ⟨t, p, hexec, htengine, hend, ⟨ht₁, ht₂, ht₃, ht₄, ht₅⟩, hclips, hlive⟩ :=
    exec_sampleTick_running (State.engineDue_iff.1 hdue).1 hengine hp
  refine ⟨t, p, hexec, htengine, hend, ⟨ht₁.trans htables, ht₂.trans hqueue, ht₃.trans hbreakers, ht₄.trans hcontacts,
    ht₅.trans hclock⟩, fun rep hrep => ?_, fun i hcut hnone => ?_⟩
  · refine .of_set (hreports rep hrep) (hclips _ ?_)
    rw [hreports rep hrep]
    exact Vector.getElem_set_self _
  · have hlane := hlanes i
    rw [if_neg (by rw [hcut]; simp)] at hlane
    have hac : s.engineWork.laneAc sh n i = s.laneAc sh n i := by
      simp only [State.laneAc, State.laneRms, State.stepSize, State.profile, State.entry, htables, hlane]
    have h := hlive i (by rw [hlane]; exact hcut) (by rw [hlane]; exact hnone) (by rw [hset, has_allOnes])
    rw [hlane, hinhibit] at h
    rw [← hac]
    exact h

/-! ## A deferral at a tick (R56) -/

/-- The deferral that an exit to state `n` begins at the present tick (R56). -/
def State.deferralTo (s : State) (run : Run) (slot : Nat) (e : Exit) (n : Fin 64) : Deferral :=
  { target := n, slot := slot, kind := e.kind, offset := s.offset run.startTime }

/-- The report after a tick at which the visit goes on, with what waited for the tick. -/
def State.reportGoesOn (s : State) (run : Run) (rep : Report) : Report :=
  s.filed run run.visit (s.since run.startTime run.entry) rep

/-- The engine's work at a tick whose exit begins a deferral. -/
theorem State.engineWork_defers (he : s.engine = .running sh run) (hmove : ∀ k, s.moveDue k = false)
    (hx : s.dueExit = some (slot, e)) (ht : e.target = .state n) (hvisit : run.visit + 1 < 64) (hr : s.reached run n = false) :
    s.engineWork.engine = .running sh { run with deferral := some (s.deferralTo run slot e n), fresh := [] } ∧
      s.engineWork.synth = s.synth ∧ s.engineWork.links = s.links ∧ s.KeepsUnits s.engineWork ∧
      ∀ rep, s.reports[sh.slot] = .building rep →
        s.engineWork.reports = s.reports.set sh.slot (.building (s.reportGoesOn run rep)) := by
  obtain ⟨hdue, _⟩ := State.taken_of_dueExit he hmove hx
  have ha : s.openTick.action = .defer sh run (s.deferralTo run slot e n) := by
    rw [State.action_of_dueExit he hmove hx, State.follow_state ht, if_neg (Nat.not_le.2 hvisit), if_neg (by simpa using hr)]
    simp [State.deferralTo]
  have hperform : (s.openTick.perform (.defer sh run (s.deferralTo run slot e n))).engine =
      .running sh { run with deferral := some (s.deferralTo run slot e n) } := rfl
  rw [State.engineWork_eq hdue (State.prepare_of_noMove hmove) ha, State.settleTick_running hperform, State.KeepsUnits]
  refine ⟨rfl, by simp [State.perform], by simp [State.perform], by simp [State.perform], fun rep hrep => ?_⟩
  rw [State.settleTick_reports hperform (rep := rep) (by simpa [State.perform] using hrep)]
  simp [State.perform, State.reportGoesOn, State.filed, State.now, State.since]

/-- SAMPLE_TICK at a tick whose exit begins a deferral (R56). -/
theorem exec_sampleTick_defers (he : s.engine = .running sh run) (hmove : ∀ k, s.moveDue k = false)
    (hx : s.dueExit = some (slot, e)) (ht : e.target = .state n) (hvisit : run.visit + 1 < 64) (hr : s.reached run n = false) :
    ∃ t p, exec .sampleTick s = .next t ∧
      t.engine = .running sh { run with deferral := some (s.deferralTo run slot e n), fresh := [], pendingEnd := p } ∧
      SupervisedEnd p ∧ s.KeepsUnits t ∧
      ∀ rep, s.reports[sh.slot] = .building rep → s.Clips t sh (s.reportGoesOn run rep) run.visit := by
  obtain ⟨hengine, _, _, ⟨htables, hqueue, hbreakers, hcontacts, hclock⟩, hreports⟩ :=
    State.engineWork_defers he hmove hx ht hvisit hr
  obtain ⟨hdue, hp, _⟩ := State.taken_of_dueExit he hmove hx
  obtain ⟨t, p, hexec, htengine, hend, ⟨ht₁, ht₂, ht₃, ht₄, ht₅⟩, hclips, _⟩ :=
    exec_sampleTick_running (State.engineDue_iff.1 hdue).1 hengine hp
  refine ⟨t, p, hexec, htengine, hend, ⟨ht₁.trans htables, ht₂.trans hqueue, ht₃.trans hbreakers, ht₄.trans hcontacts,
    ht₅.trans hclock⟩, fun rep hrep => ?_⟩
  refine .of_set (hreports rep hrep) (hclips _ ?_)
  rw [hreports rep hrep]
  exact Vector.getElem_set_self _

/-! ## The rest of an end tick (R60, R68) -/

/-- SAMPLE_TICK after SHOT_END does the rest of the tick: the engine's work is done and nothing of it is done again. -/
theorem exec_sampleTick_after_end {r : EndReason} {cause : ExitCause} (hdue : s.engineDue = true) (hprep : s.prepare = s.openTick)
    (ha : s.openTick.action = .finish sh run r cause) : exec .sampleTick s = exec .sampleTick s.engineWork := by
  have hwork := State.engineWork_ends hdue hprep ha
  obtain ⟨htick, _⟩ := State.engineDue_iff.1 hdue
  have hresting : s.engineWork.engine.isRunning = false := by
    have hgrant := State.grantMoment_resting (s.openTick.superviseEnd.endRunning_resting sh run r cause)
    rw [hwork, State.settleTick_resting hgrant]
    exact hgrant
  have hdone : s.engineWork.tick.engine = true := by rw [hwork, State.settleTick_tick]
  have hsynth : s.engineWork.tick.synth = s.tick.synth := by rw [hwork, State.settleTick_tick]; simp
  have htick' : s.engineWork.tickDue = true := by
    rw [← htick]
    simp [State.tickDue, State.onGrid, State.now, hsynth]
  have hagain : s.engineWork.engineWork = s.engineWork :=
    State.engineWork_of_rest (by simp [State.engineDue, hdone]) fun k => by simp [State.moveDue, hresting]
  show Host.Outcome.next _ = Host.Outcome.next _
  rw [State.runTick, State.runTick, if_pos htick, if_pos htick', hagain]

end

/-- Settles O34: the entry, the deferral and the end that an exit's target leads to. -/
theorem timeExitFollowsItsTarget : Obligations.TimeExitFollowsItsTarget := by
  intro s sh run slot e he hmove hx entered deferring old residue supervised kept on left awaited enteredReport deferredReport clipped
  have hresidue : ∀ n i, s.residueAt sh run n i = residue n i := fun n i => entryResidue_eq i _ _ _
  refine ⟨fun n ht hvisit hr => ⟨?_, fun htime => ?_⟩, fun n ht hvisit hr => ⟨?_, fun htime => ?_⟩, fun hend => ?_⟩
  · obtain ⟨t, p, hexec, hengine, hp, hkept, hclips, hlanes⟩ := exec_sampleTick_enters he hmove hx ht hvisit hr
    simp only [hresidue] at hlanes
    exact ⟨t, p, hexec, hengine, hp, hkept, hclips, hlanes⟩
  · obtain ⟨hengine, hlinks, hkept, _, _, hreports, hlanes⟩ := State.engineWork_enters he hmove hx ht hvisit hr
    simp only [hresidue] at hlanes
    exact ⟨s.engineWork, exec_timeExit_of_due hx htime, hengine, hlinks, hkept, hreports, hlanes⟩
  · exact exec_sampleTick_defers he hmove hx ht hvisit hr
  · obtain ⟨hengine, hsynth, hlinks, hkept, hreports⟩ := State.engineWork_defers he hmove hx ht hvisit hr
    exact ⟨s.engineWork, exec_timeExit_of_due hx htime, hengine, hsynth, hlinks, hkept, hreports⟩
  · obtain ⟨hdue, _⟩ := State.taken_of_dueExit he hmove hx
    have hprep := State.prepare_of_noMove hmove
    obtain ⟨r, cause, ha⟩ : ∃ r cause, s.openTick.action = .finish sh run r cause := by
      rw [State.action_of_dueExit he hmove hx]
      cases ht : e.target with
      | finish => exact ⟨_, _, State.follow_finish ht⟩
      | state n =>
        have hlimit : 64 ≤ run.visit + 1 := hend.resolve_left (by simp [ht])
        exact ⟨_, _, by rw [State.follow_state ht, if_pos hlimit]⟩
    have hshot := exec_shotEnd_of_finish hdue hprep ha
    refine ⟨fun htime => (exec_timeExit_of_due hx htime).trans hshot.symm, fun t ht => ?_⟩
    rw [hshot] at ht
    cases ht
    exact exec_sampleTick_after_end hdue hprep ha

end Sys2Proof.Machine
end

section
/-! SUPPORT. The start of a shot, block by block (R48, R49, R67, R74, R86, R87, R101, R122, R156, R157). -/

namespace Sys2Proof.Machine

/-! ## The sample of a contact input (R88) -/

/-- The episode of an input after a sample that finds the level `l` (R88). -/
def Contact.sampled (c : Contact) (l : Level) (now : Clock) : Option Episode :=
  match c.episode with
  | none => if c.setting.enabled = true ∧ l ≠ c.accepted then some ⟨now, now⟩ else none
  | some e => if c.setting.enabled = true ∧ c.prevRaw ≠ some l then some ⟨e.start, now⟩ else some e

theorem Contact.sample_eq (c : Contact) (l : Level) (now : Clock) :
    c.sample l now = { c with pin := l, episode := c.sampled l now } := by
  cases h : c.episode with
  | none =>
    simp only [Contact.sample, Contact.begin, Contact.sampled, h]
    split_ifs <;> simp_all
  | some e =>
    simp only [Contact.sample, Contact.change, Contact.sampled, h]
    split_ifs <;> simp_all

/-- A sample is due at an enabled input with no episode whose raw level is not the accepted one (R88). -/
theorem State.rawDue_iff {s : State} {i : Fin 16} : s.rawDue i = true ↔ (s.contacts[i]).setting.enabled = true ∧
    (s.contacts[i]).episode = none ∧ (s.contacts[i]).pin ≠ (s.contacts[i]).accepted := by
  rw [State.rawDue, bne_iff_ne, Contact.begin]
  split_ifs with h
  · refine ⟨fun _ => h, fun _ heq => ?_⟩
    have hepisode := congrArg Contact.episode heq
    rw [h.2.1] at hepisode
    cases hepisode
  · exact ⟨fun hne => absurd rfl hne, fun hc => absurd hc h⟩

/-- The accepted level and the episode of an input before an episode ended at this microsecond's sample (R87). -/
def State.beforeEnd (s : State) (i : Fin 16) : Level × Option Episode :=
  match s.tick.ended.find? fun x => x.1 == i with
  | some (_, level, e) => (level, some e)
  | none => ((s.contacts[i]).accepted, (s.contacts[i]).episode)

theorem State.unjudged_eq (s : State) (i : Fin 16) :
    s.unjudged i = { s.contacts[i] with accepted := (s.beforeEnd i).1, episode := (s.beforeEnd i).2 } := by
  unfold State.unjudged State.beforeEnd
  cases h : s.tick.ended.find? fun x => x.1 == i with
  | none => rfl
  | some x => rfl

/-! ## The start of a shot (R48) -/

section
variable (s : State) (sh : Shot)

/-- The start of a shot with what waited for its tick. -/
def State.starting : State := (s.startShot sh).settleTick

theorem State.startShot_engine : (s.startShot sh).engine = .running sh (.begin s.now sh.req.start) := by
  simp [State.startShot]

theorem State.starting_engine : (s.starting sh).engine = .running sh (.begin s.now sh.req.start) :=
  State.settleTick_running (s.startShot_engine sh)

@[simp] theorem State.starting_keeps : (s.starting sh).pending = s.pending ∧ (s.starting sh).clock = s.clock ∧
    (s.starting sh).tables = s.tables ∧ (s.starting sh).queue = s.queue ∧ (s.starting sh).trig = s.trig ∧
    (s.starting sh).links = s.links := by
  simp [State.starting]

/-- The blocks that read the profile at the start tick (R86, R101, R122). -/
theorem State.starting_blocks : let p := s.profile sh.req.profile
    (∀ k : Fin 4, (s.starting sh).breakers[k] = Simulator.start p.breakers[k]) ∧
    (∀ i : Fin 16, (s.starting sh).contacts[i] = (s.unjudged i).start p.inputs[i]) ∧
    (∀ i : Fin 12, (s.starting sh).sup.lanes[i] = { s.sup.lanes[i] with missRun := 0 }) ∧
    (s.starting sh).sup.heat = s.sup.heat ∧ (s.starting sh).synth.codes = s.synth.codes := by
  simp [State.starting, State.startShot, State.loadProfile, State.setResidues, State.profile, State.unjudged]

/-- A lane is CUT at the start where a simulator that starts OPEN holds it (R101). -/
def Profile.startsCut (p : Profile) (i : Fin 12) : Bool :=
  (List.finRange 4).any fun k => (Simulator.start p.breakers[k]).holds i

/-- A lane as the start of a shot leaves it, with the residue of the entry of visit 0 (R67, R74). -/
theorem State.starting_lane (i : Fin 12) : (s.starting sh).synth.lanes[i] =
    let cut := (s.profile sh.req.profile).startsCut i
    let set := (s.entry sh.req.start).lanes[i]
    { SynthLane.start cut with
      residue := if cut = true then 0
        else entryResidue i set 0 (acValue set (effectiveRms i set.rms (s.profile sh.req.profile).steps[i] 0) 0) } := by
  simp [State.starting, State.startShot, State.loadProfile, State.setResidues, State.profile, State.entry, State.laneAc,
    State.laneRms, State.stepSize, State.valueLeft, SynthLane.start, Profile.startsCut]
  split <;> simp_all

theorem State.starting_half (h : HalfId) : (s.starting sh).captures.get h =
    if sh.half = some h then
      { s.captures.get h with
        phase := if (s.entry sh.req.start).captureMark = true then .triggerNoted 0 else .preTrigger }
    else s.captures.get h := by
  have hentry : ∀ t : State, t.tables = s.tables → t.entry sh.req.start = s.entry sh.req.start := fun t ht => by
    simp [State.entry, ht]
  simp only [State.starting, State.startShot, State.openVisit, State.settleTick_keeps, State.onHalf_get, State.onReport_captures,
    State.setResidues_keeps]
  rw [hentry _ (by simp)]
  by_cases hh : sh.half = some h
  · simp only [if_pos hh, State.loadProfile_keeps, State.onReport_captures, Half.begin, Half.noteTrigger]
    split_ifs <;> rfl
  · simp only [if_neg hh, State.loadProfile_keeps, State.onReport_captures]

/-- A report with the start time and the time quality at the start (R48, R135). -/
def Report.started (rep : Report) (now : Clock) (q : Quality) : Report :=
  { rep with header := { rep.header with startTime := some now, quality := some q } }

/-- The report of a shot as its start leaves it: visit 0 is open (R48, R49). -/
def State.startedReport (s : State) (sh : Shot) (rep : Report) : Report :=
  (rep.started s.now s.clock.quality).withVisit (.opened 0 sh.req.start (s.entry sh.req.start).label 0)

theorem State.starting_reports {rep : Report} (hrep : s.reports[sh.slot] = .building rep) :
    (s.starting sh).reports = s.reports.set sh.slot (.building (s.startedReport sh rep)) := by
  have hstart : (s.startShot sh).reports = s.reports.set sh.slot (.building (s.startedReport sh rep)) := by
    have hopen : ∀ u : State, u.reports = s.reports.set sh.slot (.building (rep.started s.now s.clock.quality)) →
        u.tables = s.tables → (u.openVisit sh 0 sh.req.start 0).reports =
          s.reports.set sh.slot (.building (s.startedReport sh rep)) := fun u hu ht => by
      have hentry : u.entry sh.req.start = s.entry sh.req.start := by simp [State.entry, ht]
      rw [State.openVisit_report (rep := rep.started s.now s.clock.quality) (by rw [hu]; exact Vector.getElem_set_self _), hu,
        hentry]
      exact Vector.set_set ..
    rw [State.startShot]
    refine hopen _ ?_ (by simp)
    rw [State.onReport_building hrep]
    simp [Report.onHeader, Report.started]
  have hevents : (s.startShot sh).tick.events = [] := by simp [State.startShot, State.setResidues, State.loadProfile]
  rw [State.starting, State.settleTick_reports (s.startShot_engine sh) (by rw [hstart]; exact Vector.getElem_set_self _), hstart,
    State.filed, hevents, Run.begin, Report.onVisit_of_id fun v => v.addFresh_nil _]
  exact Vector.set_set ..

end

section
variable {s : State} {sh : Shot} {c : Clock}

/-- SHOT_START at the start tick (R45, R48). -/
theorem exec_shotStart_of_due (he : s.engine = .armed sh (some c)) (hc : c ≠ s.now) (htick : s.tickDue = true)
    (hengine : s.tick.engine = false) : exec .shotStart s = .next (s.openTick.starting sh) := by
  have hdue := State.engineDue_iff.2 ⟨htick, hengine⟩
  have hprep : s.prepare = s.openTick :=
    State.prepare_of_noMove fun k => by simp [State.moveDue, he, Engine.isRunning]
  have hopen : s.openTick.engine = .armed sh (some c) := by simpa using he
  have ha : s.openTick.action = .start sh := by
    rw [State.action, hopen]
    exact if_neg (by simpa using hc)
  have hstart : s.dueAction.isStart = true := by rw [State.dueAction_eq hdue hprep, ha]; rfl
  have hwork : s.engineWork = s.openTick.starting sh := State.engineWork_eq hdue hprep ha
  rw [← hwork]
  exact congrArg _ (if_pos hstart)

end

section
variable {p : Profile} {i : Fin 12}

/-- A lane is CUT at the start exactly where an enabled simulator that starts OPEN binds it (R101, R110). -/
theorem Profile.startsCut_iff : p.startsCut i = true ↔
    ∃ k : Fin 4, ((p.breakers[k]).enabled && (p.breakers[k]).initial == .opened) = true ∧ (p.breakers[k]).binds i = true := by
  simp only [Profile.startsCut, Simulator.start, Simulator.holds, List.any_eq_true, List.mem_finRange, true_and]
  refine exists_congr fun k => ?_
  cases (p.breakers[k]).enabled <;> simp [and_comm]

/-- The value of a lane setting at accumulator 0 and no adjust step (R72, R73). -/
theorem acValue_start (set : LaneSetting) (step : Nat) :
    let top : Int := if i.val < 6 then 32000 else 30000
    let e := max 0 (min top (set.rms : Int))
    let k := (angleOffset set.angle).toNat / 1048576
    acValue set (effectiveRms i set.rms step 0) 0 =
      if set.freq = 0 then roundDiv (e * sine k) 32767
      else roundDiv (roundDiv (e * 46341) 32768 * sine k) 32767 := by
  intro top e k
  have htop : (Config.laneMax i : Int) = top := by
    simp only [Config.laneMax, Config.isCurrentLane, top, decide_eq_true_eq]
    split <;> rfl
  have hrms : effectiveRms i set.rms step 0 = e := by
    have hpos : 0 ≤ top := by simp only [top]; split <;> decide
    rw [effectiveRms, magnitudeSum, htop, clampInt]
    simp only [e]
    split_ifs <;> omega
  rw [acValue, hrms, peak, sineOf]
  split_ifs <;> simp [k]

end

/-! ## SHOT_START (R48, R49) -/

@[simp] theorem State.openTick_unjudged (s : State) (i : Fin 16) : s.openTick.unjudged i = s.unjudged i := by
  simp [State.unjudged]

/-- Outside RUNNING the opening of a tick writes no sample record (R155). -/
theorem State.openTick_captures {s : State} {sh : Shot} {latch : Option Clock} (he : s.engine = .armed sh latch) :
    s.openTick.captures = s.captures := by
  unfold State.openTick
  split
  · rfl
  · simp [State.writeCapture, he]

theorem exec_contactRawEdge (s : State) (i : Fin 16) (level : Level) : exec (.contactRawEdge i level) s =
    .next { s with
      contacts := s.contacts.set i
        { s.contacts[i] with pin := level, episode := (s.contacts[i]).sampled level s.now } } := by
  rw [← Contact.sample_eq]
  rfl

/-- The sample of an enabled input (R88). -/
theorem Contact.sampled_enabled {c : Contact} (h : c.setting.enabled = true) (l : Level) (now : Clock) :
    c.sampled l now = match c.episode with
      | none => if l = c.accepted then none else some ⟨now, now⟩
      | some e => some ⟨e.start, if c.prevRaw = some l then e.last else now⟩ := by
  rw [Contact.sampled]
  cases c.episode with
  | none => by_cases hl : l = c.accepted <;> simp [h, hl]
  | some e => by_cases hl : c.prevRaw = some l <;> simp [h, hl]

theorem SynthLane.start_cut_iff {b : Bool} : (SynthLane.start b).cut = .cut ↔ b = true := by cases b <;> simp [SynthLane.start]

theorem SynthLane.start_live {b : Bool} (h : (SynthLane.start b).cut ≠ .cut) : (SynthLane.start b).cut = .live := by
  cases b
  · rfl
  · exact absurd rfl h

theorem Contact.start_enabled {x : InputSetting} (c : Contact) (h : x.enabled = true) : c.start x = { c with setting := x } :=
  if_pos h

theorem Contact.start_disabled {x : InputSetting} (c : Contact) (h : x.enabled = false) :
    c.start x = { c with setting := x, episode := none, accepted := x.inactive } := if_neg (by simp [h])

/-- Settles O33: the start tick's work is the start of the shot, block by block. -/
theorem shotStartBeginsTheShot : Obligations.ShotStartBeginsTheShot := by
  intro s sh c rep he hc htick hengine hrep p opens
  have hrep' : s.openTick.reports[sh.slot] = .building rep := by simpa using hrep
  obtain ⟨hbreakers, hcontacts, hsup, hheat, hcodes⟩ := s.openTick.starting_blocks sh
  simp only [State.openTick_profile, State.openTick_unjudged] at hbreakers hcontacts
  simp only [State.openTick_sup, State.openTick_keeps] at hsup hheat hcodes
  have hlane := s.openTick.starting_lane sh
  simp only [State.openTick_profile, State.openTick_entry] at hlane
  generalize ht : s.openTick.starting sh = t at *
  have hnow : t.now = s.now := by rw [← ht]; simp [State.now]
  refine ⟨t, ht ▸ exec_shotStart_of_due he hc htick hengine, ?_, fun i => ?_, hbreakers, fun i => ?_, hsup, hheat,
    fun h => ?_, ?_, by simp [← ht], by simp [← ht], by simp [← ht], by simp [← ht], by simp [← ht], by simp [← ht], hcodes⟩
  · rw [← ht, State.starting_engine, State.openTick_now]
    rfl
  · rw [hlane i]
    refine ⟨rfl, rfl, rfl, rfl, SynthLane.start_cut_iff.trans Profile.startsCut_iff, SynthLane.start_live, ?_⟩
    dsimp only
    rw [entryResidue_eq, acValue_start]
    by_cases hcut : (s.profile sh.req.profile).startsCut i = true
    · rw [if_pos hcut, if_pos (.inl (SynthLane.start_cut_iff.2 hcut))]
    · simp only [if_neg hcut, mt SynthLane.start_cut_iff.1 hcut, false_or]
  · have hwas := s.unjudged_eq i
    intro was
    have hi : t.contacts[i] = ({ s.contacts[i] with accepted := was.1, episode := was.2 } : Contact).start p.inputs[i] := by
      rw [hcontacts i, hwas]
      rfl
    cases hon : (p.inputs[i]).enabled with
    | false =>
      rw [hi, Contact.start_disabled _ hon]
      exact ⟨rfl, rfl, fun _ => ⟨rfl, rfl⟩, fun h => by cases h⟩
    | true =>
      have hstart := Contact.start_enabled { s.contacts[i] with accepted := was.1, episode := was.2 } hon
      rw [hstart] at hi
      refine ⟨by rw [hi], by rw [hi], (by cases ·), fun _ => ⟨by rw [hi], by rw [hi], fun hnone => ?_, fun level => ?_⟩⟩
      · rw [State.rawDue_iff, hi]
        exact ⟨fun h => h.2.2, fun h => ⟨hon, hnone, h⟩⟩
      · refine ⟨_, exec_contactRawEdge t i level, ?_⟩
        have hsampled : (t.contacts[i]).sampled level t.now = match was.2 with
            | none => if level = was.1 then none else some ⟨s.now, s.now⟩
            | some e => some ⟨e.start, if (s.contacts[i]).prevRaw = some level then e.last else s.now⟩ := by
          rw [Contact.sampled_enabled (by rw [hi]; exact hon), hi, hnow]
        exact (congrArg Contact.episode (Vector.getElem_set_self _)).trans hsampled
  · rw [← ht, State.starting_half, State.openTick_entry, State.openTick_captures he]
  · rw [← ht, State.starting_reports _ _ hrep']
    simp [State.startedReport, Report.started, Report.withVisit, Visit.opened]

end Sys2Proof.Machine
end

section
/-! SUPPORT. A second mark: the table of R167, what an accepted mark writes, and the start of a SECOND shot within it (R47, R165, R167,
R169 to R171). -/

namespace Sys2Proof.Machine

/-! ## The table of R167 -/

/-- A time since the reference lies in the window of the n-th second (R167). -/
def NearSecond (d n : Nat) : Prop := n * 1000000 - 100 ≤ d ∧ d ≤ n * 1000000 + 100

theorem inMarkWindow_iff {d n : Nat} :
    (decide (n * Config.second ≤ d + Config.markWindow) && decide (d ≤ n * Config.second + Config.markWindow)) = true ↔
      NearSecond d n := by
  rw [Bool.and_eq_true, decide_eq_true_iff, decide_eq_true_iff]
  change n * 1000000 ≤ d + 100 ∧ _ ↔ _
  exact and_congr_left fun _ => Nat.sub_le_iff_le_add.symm

/-- The windows of two seconds do not meet (R167). -/
theorem NearSecond.unique {d m n : Nat} (hm : NearSecond d m) (hn : NearSecond d n) : m = n := by
  obtain ⟨hm₁, hm₂⟩ := hm
  obtain ⟨hn₁, hn₂⟩ := hn
  omega

theorem markSecond_eq_some {d n : Nat} : markSecond d = some n ↔ 1 ≤ n ∧ n ≤ 10 ∧ NearSecond d n := by
  rw [markSecond, List.find?_range'_eq_some, inMarkWindow_iff, List.mem_range'_1]
  constructor
  · rintro ⟨hwindow, ⟨hlow, hhigh⟩, _⟩
    exact ⟨hlow, by omega, hwindow⟩
  · rintro ⟨hlow, hhigh, hwindow⟩
    refine ⟨hwindow, ⟨hlow, by omega⟩, fun j _ hjn => ?_⟩
    rw [Bool.not_eq_true', ← Bool.not_eq_true, inMarkWindow_iff]
    exact fun hj => hjn.ne (hj.unique hwindow)

section
variable {d count : Nat}

theorem acceptance_acquiring_near (h : NearSecond d 1) : acceptance .acquiring count (some d) =
    some { quality := if count + 1 = 3 then .locked else .acquiring, count := count + 1, deviation := some ((d : Int) - 1000000) } :=
  if_pos (markSecond_eq_some.2 ⟨by omega, by omega, h⟩)

theorem acceptance_acquiring_far (h : ¬NearSecond d 1) : acceptance .acquiring count (some d) =
    some { quality := .acquiring, count := 0, deviation := some ((d : Int) - 1000000) } :=
  if_neg fun hm => h (markSecond_eq_some.1 hm).2.2

theorem acceptance_locked_near (h : NearSecond d 1) : acceptance .locked count (some d) =
    some { quality := .locked, count := count, deviation := some ((d : Int) - 1000000) } :=
  if_pos (markSecond_eq_some.2 ⟨by omega, by omega, h⟩)

theorem acceptance_locked_far (h : ¬NearSecond d 1) : acceptance .locked count (some d) = none :=
  if_neg fun hm => h (markSecond_eq_some.1 hm).2.2

theorem acceptance_holdover_near {n : Nat} (hlow : 2 ≤ n) (hhigh : n ≤ 10) (h : NearSecond d n) :
    acceptance .holdover count (some d) =
      some { quality := .locked, count := count, deviation := some ((d : Int) - n * 1000000) } := by
  simp only [acceptance, markSecond_eq_some.2 ⟨by omega, hhigh, h⟩, if_pos hlow]
  rfl

theorem acceptance_holdover_far (h : ∀ n, 2 ≤ n → n ≤ 10 → ¬NearSecond d n) : acceptance .holdover count (some d) = none := by
  simp only [acceptance]
  cases hm : markSecond d with
  | none => rfl
  | some n =>
    obtain ⟨_, hhigh, hnear⟩ := markSecond_eq_some.1 hm
    exact if_neg fun hlow => h n hlow hhigh hnear

end

/-! ## An accepted mark (R47, R169, R170) -/

section
variable {s : State}

/-- A change to a quality with time ends no shot (R171). -/
theorem State.setQuality_links {q : Quality} (h : q.lost = false) :
    ∃ links, s.setQuality q = { s with clock := { s.clock with quality := q }, links := links } := by
  unfold State.setQuality State.qualityChanged
  dsimp only
  split_ifs
  · exact ⟨s.links, rfl⟩
  · split
    · rw [if_neg fun hlost => by simp [h] at hlost]
      exact ⟨_, rfl⟩
    · exact ⟨_, rfl⟩

/-- The engine holds the grid in RUNNING and in SETTLING (R170). -/
theorem Engine.gridHeld (e : Engine) (anchor re : Nat) : (if e.holdsGrid = true then anchor else re) =
    match e with
    | .running _ _ => anchor
    | .settling _ _ _ => anchor
    | _ => re := by
  cases e <;> rfl

/-- The Test Clock after an accepted mark (R169, R170). -/
def State.markedClock (s : State) (a : Acceptance) : TestClock :=
  { s.clock with
    quality := a.quality, count := a.count, deviation := a.deviation, reference := some s.now,
    anchor := if s.engine.holdsGrid = true then s.clock.anchor else s.now.toNat % 50 }

/-- An accepted mark with time writes the Test Clock and then starts the SECOND shot that waits for it (R47, R169, R170). -/
theorem State.acceptMark_eq {a : Acceptance} (h : a.quality.lost = false) :
    ∃ links, s.acceptMark a = ({ s with clock := s.markedClock a, links := links } : State).startSecond := by
  have hanchor : s.reanchor = { s with
      clock := { s.clock with anchor := if s.engine.holdsGrid = true then s.clock.anchor else s.now.toNat % 50 } } := by
    unfold State.reanchor
    split_ifs <;> rfl
  obtain ⟨links, hlinks⟩ := State.setQuality_links (s := { s with clock := { s.clock with
    anchor := if s.engine.holdsGrid = true then s.clock.anchor else s.now.toNat % 50,
    reference := some s.now, count := a.count, deviation := a.deviation } }) h
  refine ⟨links, ?_⟩
  rw [State.acceptMark, hanchor]
  exact congrArg State.startSecond hlinks

/-- A SECOND shot that is ARMED with its start latch clear starts within the mark (R47, R48). -/
theorem State.startSecond_armed {sh : Shot} (he : s.engine = .armed sh none) (hc : sh.req.condition = .second) :
    s.startSecond.engine = .running sh (.begin s.now sh.req.start) := by
  have hstart : s.startSecond.engine = (s.openTick.starting sh).engine := by
    rw [State.startSecond, he]
    simp only [if_pos hc]
    rfl
  rw [hstart, State.starting_engine, State.openTick_now]

/-- At any other moment an accepted mark starts no shot. -/
theorem State.startSecond_other (h : ∀ sh, s.engine = .armed sh none → sh.req.condition ≠ .second) : s.startSecond = s := by
  unfold State.startSecond
  split
  · rename_i sh he
    exact if_neg (h sh he)
  · rfl

end

/-! ## MARK (R165) -/

/-- The state with this microsecond's sample of MARK found high (R165). -/
def State.markSeen (s : State) : State := { s with clock := { s.clock with markNow := true } }

section
variable {s : State}

theorem exec_mark_of_noEdge (h : s.clock.markPrev ≠ some false ∨ s.clock.markNow = true) : exec .mark s = .next s.markSeen := by
  refine congrArg _ (if_neg fun hedge => h.elim (fun hp => hp hedge.1) fun hn => ?_)
  rw [hedge.2] at hn
  cases hn

theorem exec_mark_of_edge (h : ¬(s.clock.markPrev ≠ some false ∨ s.clock.markNow = true)) :
    exec .mark s = .next s.markSeen.handleMark := by
  rw [not_or, not_not, Bool.not_eq_true] at h
  exact congrArg _ (if_pos h)

theorem State.handleMark_of_off (h : s.clock.discipline = false) : s.handleMark = s := by rw [State.handleMark, h]; rfl

theorem State.handleMark_ignored (h : acceptance s.clock.quality s.clock.count (s.clock.reference.map fun r => elapsed r s.now) = none) :
    s.handleMark = s := by
  rw [State.handleMark, h]
  exact ite_self _

theorem State.handleMark_accepted {a : Acceptance} (hd : ¬s.clock.discipline = false)
    (h : acceptance s.clock.quality s.clock.count (s.clock.reference.map fun r => elapsed r s.now) = some a) :
    s.handleMark = s.acceptMark a := by
  rw [State.handleMark, h]
  exact if_pos (by simpa using hd)

end

/-- Settles O56: the edge, the discipline and the table of R167 in turn; an accepted mark writes the clock and starts the SECOND shot. -/
theorem marksFollowTheTable : Obligations.MarksFollowTheTable := by
  intro s seen ignored accepted
  by_cases hedge : s.clock.markPrev ≠ some false ∨ s.clock.markNow = true
  · exact (if_pos hedge).mpr (exec_mark_of_noEdge hedge)
  refine (if_neg hedge).mpr ?_
  by_cases hoff : s.clock.discipline = false
  · exact (if_pos hoff).mpr ((exec_mark_of_edge hedge).trans (congrArg _ (State.handleMark_of_off hoff)))
  refine (if_neg hoff).mpr ?_
  have hignored : acceptance s.clock.quality s.clock.count (s.clock.reference.map fun r => elapsed r s.now) = none → ignored :=
    fun h => (exec_mark_of_edge hedge).trans (congrArg _ (State.handleMark_ignored h))
  have haccepted : ∀ a : Acceptance, a.quality.lost = false →
      acceptance s.clock.quality s.clock.count (s.clock.reference.map fun r => elapsed r s.now) = some a →
        accepted a.quality a.count a.deviation := fun a hq h => by
    obtain ⟨links, hmark⟩ := State.acceptMark_eq (s := s.markSeen) hq
    refine ⟨_, (exec_mark_of_edge hedge).trans (congrArg _ (State.handleMark_accepted hoff h)), ?_⟩
    rw [hmark]
    generalize hv : ({ s.markSeen with clock := s.markSeen.markedClock a, links := links } : State) = v
    have hvengine : v.engine = s.engine := by rw [← hv]; rfl
    have hvnow : v.now = s.now := by rw [← hv]; rfl
    refine ⟨?_, fun sh he hc => ⟨_, State.startSecond_armed (hvengine.trans he) hc, hvnow, rfl, rfl, rfl⟩, fun hother => ?_,
      by simp [← hv]; rfl, by simp [← hv]; rfl⟩
    · have hclock : v.startSecond.clock = s.markSeen.markedClock a := by simp [← hv]
      rw [hclock]
      exact congrArg (fun anchor => ({ s.markSeen.clock with
        quality := a.quality, count := a.count, deviation := a.deviation, reference := some s.now,
        anchor := anchor } : TestClock)) (s.engine.gridHeld _ _)
    · rw [State.startSecond_other fun sh he => hother sh (hvengine ▸ he), hvengine]
  refine ⟨fun hq => hignored (by rw [hq]; rfl), fun hq => haccepted ⟨.acquiring, 0, none⟩ rfl (by rw [hq]; rfl), fun r hr => ?_⟩
  rw [hr] at hignored haccepted
  refine ⟨fun hq => ?_, fun hq => ?_, fun hq => ?_⟩ <;> rw [hq] at hignored haccepted
  · refine ⟨fun hnear => haccepted _ ?_ (acceptance_acquiring_near hnear), fun hfar => haccepted _ rfl (acceptance_acquiring_far hfar)⟩
    dsimp only
    split_ifs <;> rfl
  · exact ⟨fun hnear => haccepted _ rfl (acceptance_locked_near hnear), fun hfar => hignored (acceptance_locked_far hfar)⟩
  · exact ⟨fun n hlow hhigh hnear => haccepted _ rfl (acceptance_holdover_near hlow hhigh hnear),
      fun hfar => hignored (acceptance_holdover_far hfar)⟩

end Sys2Proof.Machine
end

section
/-! SUPPORT. What an accepted contact event does to the four simulators (R103 to R106): each handles it alone, from its own state, the
standing commands and the clock. -/

namespace Sys2Proof.Machine

/-! ## One simulator (R103 to R106) -/

/-- A simulator that takes OPEN at `now` with its trip latch clear, `stands` telling which commands stand: a close command that stands
and is not latched begins a move at once (R106). -/
def Simulator.tookOpen (b : Simulator) (stands : Option (Fin 16) → Bool) (now : Clock) : Simulator :=
  if stands b.setting.close = true ∧ b.closeLatch = false then
    { b with
      position := .closing, timer := some (later now b.setting.closeTime, .closed), tripLatch := stands b.setting.trip,
      interrupting := true }
  else { b with position := .opened, timer := none, tripLatch := stands b.setting.trip, interrupting := true }

/-- A simulator that takes CLOSED at `now` with its close latch clear (R106). -/
def Simulator.tookClosed (b : Simulator) (stands : Option (Fin 16) → Bool) (now : Clock) : Simulator :=
  if stands b.setting.trip = true ∧ b.tripLatch = false then
    { b with
      position := .opening, timer := some (later now b.setting.openTime, .opened), closeLatch := stands b.setting.close,
      interrupting := false }
  else { b with position := .closed, timer := none, closeLatch := stands b.setting.close, interrupting := false }

/-- A simulator after an accepted event of input `i`, a move that it begins starting at `start` (R103 to R106). -/
def Simulator.handled (b : Simulator) (stands : Option (Fin 16) → Bool) (start now : Clock) (i : Fin 16) (d : Direction) :
    Simulator :=
  if b.setting.enabled = false then b
  else if d ≠ .operate then
    { b with
      tripLatch := b.tripLatch && !(b.setting.trip == some i), closeLatch := b.closeLatch && !(b.setting.close == some i) }
  else if b.setting.trip = some i then
    if (b.position = .closed ∨ b.position = .closing) ∧ b.tripLatch = false then
      if elapsed start now < b.setting.openTime then
        { b with position := .opening, timer := some (later start b.setting.openTime, .opened) }
      else b.tookOpen stands now
    else b
  else if b.setting.close = some i then
    if b.position = .opened ∧ b.closeLatch = false then
      if elapsed start now < b.setting.closeTime then
        { b with position := .closing, timer := some (later start b.setting.closeTime, .closed) }
      else b.tookClosed stands now
    else b
  else b

/-- An event leaves a simulator's settings. -/
theorem Simulator.handled_setting (b : Simulator) (stands : Option (Fin 16) → Bool) (start now : Clock) (i : Fin 16)
    (d : Direction) : (b.handled stands start now i d).setting = b.setting := by
  unfold Simulator.handled Simulator.tookOpen Simulator.tookClosed
  repeat' split
  all_goals rfl

section
variable {s : State} {k : Fin 4} {run : Run} {i : Fin 16} {event : Clock}

theorem State.setBreaker_breakers (b : Simulator) : (s.setBreaker k b).breakers = s.breakers.set k b := rfl

theorem State.writeElem_breakers (c : BreakerChange) : (s.writeElem k c).breakers = s.breakers := by simp

theorem State.beginOpening_breakers (due : Clock) : (s.beginOpening k due).breakers =
    s.breakers.set k { s.breakers[k] with position := .opening, timer := some (due, .opened) } := by
  rw [State.beginOpening, State.writeElem_breakers, State.setBreaker_breakers]

theorem State.beginClosing_breakers (due : Clock) : (s.beginClosing k due).breakers =
    s.breakers.set k { s.breakers[k] with position := .closing, timer := some (due, .closed) } := by
  rw [State.beginClosing, State.writeElem_breakers, State.setBreaker_breakers]

theorem State.beginOpening_stands (due : Clock) : (s.beginOpening k due).stands = s.stands := by
  funext x; cases x <;> simp [State.stands]

theorem State.beginClosing_stands (due : Clock) : (s.beginClosing k due).stands = s.stands := by
  funext x; cases x <;> simp [State.stands]

/-- The simulator that takes OPEN (R106). -/
theorem State.takeOpen_breakers {b : Simulator} (hb : s.breakers[k] = b) (hlatch : b.tripLatch = false) :
    (s.takeOpen k).breakers = s.breakers.set k (b.tookOpen s.stands s.now) := by
  unfold State.takeOpen Simulator.tookOpen
  rw [hb]
  by_cases h : s.stands b.setting.close = true ∧ b.closeLatch = false
  · rw [if_pos h, if_pos (by simp [h])]
    rw [State.beginClosing_breakers, State.writeElem_breakers, State.setBreaker_breakers, Vector.set_set,
      show (s.breakers.set k _)[k] = _ from Vector.getElem_set_self _]
    simp [hlatch]
  · rw [if_neg h, if_neg (by simpa using h), State.writeElem_breakers, State.setBreaker_breakers]
    simp [hlatch]

/-- The simulator that takes CLOSED (R106). -/
theorem State.takeClosed_breakers {b : Simulator} (hb : s.breakers[k] = b) (hlatch : b.closeLatch = false) :
    (s.takeClosed k).breakers = s.breakers.set k (b.tookClosed s.stands s.now) := by
  unfold State.takeClosed Simulator.tookClosed
  rw [hb]
  by_cases h : s.stands b.setting.trip = true ∧ b.tripLatch = false
  · rw [if_pos h, if_pos (by simp [h])]
    rw [State.beginOpening_breakers, State.writeElem_breakers, State.setBreaker_breakers, Vector.set_set,
      show (s.breakers.set k _)[k] = _ from Vector.getElem_set_self _]
    simp [hlatch]
  · rw [if_neg h, if_neg (by simpa using h), State.writeElem_breakers, State.setBreaker_breakers]
    simp [hlatch]

theorem State.setBreaker_same {b : Simulator} (hb : s.breakers[k] = b) : s.breakers.set k b = s.breakers := by
  subst hb
  exact Vector.set_getElem_self _

/-- The simulator that a trip operate is accepted at (R104). -/
theorem State.trip_breakers {b : Simulator} (hb : s.breakers[k] = b) :
    (s.trip k run event).breakers = s.breakers.set k
      (if (b.position = .closed ∨ b.position = .closing) ∧ b.tripLatch = false then
        if elapsed (moveStart run event s.now) s.now < b.setting.openTime then
          { b with position := .opening, timer := some (later (moveStart run event s.now) b.setting.openTime, .opened) }
        else b.tookOpen s.stands s.now
      else b) := by
  unfold State.trip
  rw [hb]
  by_cases h : (b.position = .closed ∨ b.position = .closing) ∧ b.tripLatch = false
  · have hopening := s.beginOpening_breakers (k := k) (later (moveStart run event s.now) b.setting.openTime)
    rw [if_pos h, if_pos (by simpa using h)]
    dsimp only
    by_cases ht : elapsed (moveStart run event s.now) s.now < b.setting.openTime
    · rw [if_pos ht, if_neg (Nat.not_le.2 ht), hopening, hb]
    · have hbk : (s.beginOpening k (later (moveStart run event s.now) b.setting.openTime)).breakers[k] =
          { b with position := .opening, timer := some (later (moveStart run event s.now) b.setting.openTime, .opened) } := by
        rw [hopening, hb]
        exact Vector.getElem_set_self _
      rw [if_neg ht, if_pos (Nat.not_lt.1 ht), State.takeOpen_breakers hbk h.2, hopening, Vector.set_set,
        State.beginOpening_stands]
      simp [Simulator.tookOpen, State.now]
  · rw [if_neg h, if_neg (by simpa using h), State.setBreaker_same hb]

/-- The simulator that a close operate is accepted at (R105). -/
theorem State.close_breakers {b : Simulator} (hb : s.breakers[k] = b) :
    (s.close k run event).breakers = s.breakers.set k
      (if b.position = .opened ∧ b.closeLatch = false then
        if elapsed (moveStart run event s.now) s.now < b.setting.closeTime then
          { b with position := .closing, timer := some (later (moveStart run event s.now) b.setting.closeTime, .closed) }
        else b.tookClosed s.stands s.now
      else b) := by
  unfold State.close
  rw [hb]
  dsimp only
  by_cases h : b.position = .opened ∧ b.closeLatch = false
  · have hclosing := s.beginClosing_breakers (k := k) (later (moveStart run event s.now) b.setting.closeTime)
    rw [if_pos h]
    simp only [h.1, h.2, Bool.false_eq_true, if_false]
    by_cases ht : elapsed (moveStart run event s.now) s.now < b.setting.closeTime
    · rw [if_pos ht, if_neg (Nat.not_le.2 ht), hclosing, hb]
      simp only [h.2]
    · have hbk : (s.beginClosing k (later (moveStart run event s.now) b.setting.closeTime)).breakers[k] =
          { b with position := .closing, timer := some (later (moveStart run event s.now) b.setting.closeTime, .closed) } := by
        rw [hclosing, hb]
        exact Vector.getElem_set_self _
      rw [if_neg ht, if_pos (Nat.not_lt.1 ht), State.takeClosed_breakers hbk h.2, hclosing, Vector.set_set,
        State.beginClosing_stands]
      simp [Simulator.tookClosed, State.now]
  · rw [if_neg h, State.setBreaker_same hb]
    cases hp : b.position with
    | opened => rw [if_pos (by simpa [hp] using h)]
    | _ => simp

/-- An event changes the simulator that handles it and no other (R103 to R105). -/
theorem State.breakerEvent_breakers {d : Direction} : (s.breakerEvent run i d event k).breakers =
    s.breakers.set k ((s.breakers[k]).handled s.stands (moveStart run event s.now) s.now i d) := by
  generalize hb : s.breakers[k] = b
  unfold State.breakerEvent Simulator.handled
  rw [hb]
  cases hon : b.setting.enabled with
  | false => simp [hon, State.setBreaker_same hb]
  | true =>
    cases d with
    | reset => simp [hon, State.setBreaker_breakers]
    | operate =>
      by_cases ht : b.setting.trip = some i
      · simp [hon, ht, State.trip_breakers hb]
      · by_cases hc : b.setting.close = some i
        · simp [hon, ht, hc, State.close_breakers hb]
        · simp [hon, ht, hc, State.setBreaker_same hb]

theorem State.breakerEvent_synth {d : Direction} : (s.breakerEvent run i d event k).synth = s.synth := by
  unfold State.breakerEvent State.trip State.close
  dsimp only
  repeat' split
  all_goals simp

theorem State.breakerEvent_stands {d : Direction} : (s.breakerEvent run i d event k).stands = s.stands := by
  funext x; cases x <;> simp [State.stands]

theorem State.breakerEvent_now {d : Direction} : (s.breakerEvent run i d event k).now = s.now := by simp [State.now]

/-- An event at a simulator changes no more of the engine than the breaker elements that wait (R113). -/
theorem State.breakerEvent_fresh {d : Direction} : s.FreshOnly (s.breakerEvent run i d event k) := by
  have htrip : s.FreshOnly (s.trip k run event) := by
    unfold State.trip
    dsimp only
    split_ifs
    · exact (s.beginOpening_fresh k _).trans (State.takeOpen_fresh _ k)
    · exact s.beginOpening_fresh k _
    · exact .refl s
  have hclose : s.FreshOnly (s.close k run event) := by
    unfold State.close
    dsimp only
    split
    · split_ifs
      · exact .refl s
      · exact (s.beginClosing_fresh k _).trans (State.takeClosed_fresh _ k)
      · exact s.beginClosing_fresh k _
    · exact s.writeElem_fresh k _
    · exact s.writeElem_fresh k _
    · exact .refl s
  unfold State.breakerEvent
  dsimp only
  split
  · exact .refl s
  · split
    · split_ifs
      · exact htrip
      · exact hclose
      · exact .refl s
    · exact .of_eq (State.setBreaker_engine s k _)

end

/-! ## The four simulators -/

/-- The four simulators have handled an event; their requests are still to be made (R110, R115). -/
def State.handleBreakers (s : State) (run : Run) (i : Fin 16) (d : Direction) (event : Clock) : State :=
  (List.finRange 4).foldl (fun t k => t.breakerEvent run i d event k) s

section
variable {run : Run} {i : Fin 16} {d : Direction} {event : Clock}

/-- Each simulator of a list handles the event from its own state before it. -/
theorem State.foldl_breakerEvent_breakers (ks : List (Fin 4)) (hks : ks.Nodup) (s : State) (j : Fin 4) :
    (ks.foldl (fun t k => t.breakerEvent run i d event k) s).breakers[j] =
      if j ∈ ks then (s.breakers[j]).handled s.stands (moveStart run event s.now) s.now i d else s.breakers[j] := by
  induction ks generalizing s with
  | nil => rfl
  | cons k ks ih =>
    obtain ⟨hk, hrest⟩ := List.nodup_cons.1 hks
    rw [List.foldl_cons, ih hrest, State.breakerEvent_stands, State.breakerEvent_now, State.breakerEvent_breakers]
    by_cases hj : j = k
    · subst hj
      rw [if_neg hk, if_pos List.mem_cons_self]
      exact Vector.getElem_set_self _
    · have hother : ∀ b, (s.breakers.set k b)[j] = s.breakers[j] := fun b =>
        Vector.getElem_set_ne _ _ fun h => hj (Fin.ext h.symm)
      rw [hother]
      simp only [List.mem_cons, hj, false_or]

variable (s : State)

theorem State.handleBreakers_breakers (k : Fin 4) : (s.handleBreakers run i d event).breakers[k] =
    (s.breakers[k]).handled s.stands (moveStart run event s.now) s.now i d := by
  rw [State.handleBreakers, State.foldl_breakerEvent_breakers _ (List.nodup_finRange 4), if_pos (List.mem_finRange k)]

theorem State.handleBreakers_synth : (s.handleBreakers run i d event).synth = s.synth :=
  foldl_keeps (fun s => s.synth) _ (fun _ _ => State.breakerEvent_synth) _ s

theorem State.handleBreakers_tick : (s.handleBreakers run i d event).tick = s.tick :=
  foldl_keeps (fun s => s.tick) _ (fun _ _ => by simp) _ s

theorem State.handleBreakers_now : (s.handleBreakers run i d event).now = s.now :=
  foldl_keeps (fun s => s.now) _ (fun _ _ => State.breakerEvent_now) _ s

theorem State.handleBreakers_fresh : s.FreshOnly (s.handleBreakers run i d event) :=
  List.foldlRecOn _ _ (.refl s) fun _ ht _ _ => ht.trans State.breakerEvent_fresh

/-- A simulator that reaches OPEN at once (R104). -/
theorem State.runsTo_opened {k : Fin 4} : s.runsTo run i d event k = some .opened ↔
    d = .operate ∧ (s.breakers[k]).setting.enabled = true ∧ (s.breakers[k]).setting.trip = some i ∧
      ((s.breakers[k]).position = .closed ∨ (s.breakers[k]).position = .closing) ∧ (s.breakers[k]).tripLatch = false ∧
      (s.breakers[k]).setting.openTime ≤ elapsed (moveStart run event s.now) s.now := by
  unfold State.runsTo
  generalize s.breakers[k] = b
  cases hon : b.setting.enabled <;> cases d <;> simp [hon]
  by_cases ht : b.setting.trip = some i <;> simp [ht]

/-- A simulator that reaches CLOSED at once (R105). -/
theorem State.runsTo_closed {k : Fin 4} : s.runsTo run i d event k = some .closed ↔
    d = .operate ∧ (s.breakers[k]).setting.enabled = true ∧ (s.breakers[k]).setting.trip ≠ some i ∧
      (s.breakers[k]).setting.close = some i ∧ (s.breakers[k]).position = .opened ∧ (s.breakers[k]).closeLatch = false ∧
      (s.breakers[k]).setting.closeTime ≤ elapsed (moveStart run event s.now) s.now := by
  unfold State.runsTo
  generalize s.breakers[k] = b
  cases hon : b.setting.enabled <;> cases d <;> simp [hon]
  by_cases ht : b.setting.trip = some i <;> simp [ht]

/-- A simulator that reaches OPEN at once then holds the lanes it binds (R110). -/
theorem State.handleBreakers_holds {k : Fin 4} {l : Fin 12} (h : s.runsTo run i d event k = some .opened)
    (hl : (s.breakers[k]).setting.binds l = true) : ((s.handleBreakers run i d event).breakers[k]).holds l = true := by
  obtain ⟨hd, hon, htrip, hposition, hlatch, hpast⟩ := s.runsTo_opened.1 h
  rw [State.handleBreakers_breakers]
  generalize s.breakers[k] = b at *
  have hopen : b.handled s.stands (moveStart run event s.now) s.now i d = b.tookOpen s.stands s.now := by
    rw [Simulator.handled, if_neg (by simp [hon]), if_neg (by simp [hd]), if_pos htrip, if_pos ⟨hposition, hlatch⟩,
      if_neg (Nat.not_lt.2 hpast)]
  rw [hopen, Simulator.tookOpen]
  split_ifs <;> simp [Simulator.holds, hon, hl]

end

end Sys2Proof.Machine
end

section
/-! SUPPORT. What the requests of the simulators that reach a position at one event make of a lane (R80, R110). -/

namespace Sys2Proof.Machine

/-- The cut requests of the simulators of a list that reach OPEN, as `p` tells (R110). -/
def State.requestCuts (s : State) (p : Fin 4 → Option Level) (ks : List (Fin 4)) : State :=
  ks.foldl (fun t k => if p k = some .opened then t.cutRequests k else t) s

/-- The re-energising requests of the simulators of a list that reach CLOSED, as `p` tells (R110). -/
def State.requestCloses (s : State) (p : Fin 4 → Option Level) (ks : List (Fin 4)) : State :=
  ks.foldl (fun t k => if p k = some .closed then t.reenergiseRequests k else t) s

/-- Some simulator of a list reaches position `x` and binds the lane. -/
def State.Reaches (s : State) (p : Fin 4 → Option Level) (x : Level) (ks : List (Fin 4)) (l : Fin 12) : Prop :=
  ∃ k ∈ ks, p k = some x ∧ (s.breakers[k]).setting.binds l = true

/-! ## Cut requests -/

section
variable {s : State} {p : Fin 4 → Option Level} {k : Fin 4} {ks : List (Fin 4)} {l : Fin 12}

theorem State.requestCuts_keeps (s : State) (p : Fin 4 → Option Level) (ks : List (Fin 4)) :
    (s.requestCuts p ks).breakers = s.breakers ∧ (s.requestCuts p ks).now = s.now ∧ (s.requestCuts p ks).engine = s.engine ∧
      (s.requestCuts p ks).tick.moves.asked = s.tick.moves.asked :=
  ⟨foldl_keeps (fun s => s.breakers) _ (fun _ _ => by split <;> rfl) _ _,
    foldl_keeps (fun s => s.now) _ (fun _ _ => by split <;> rfl) _ _,
    foldl_keeps (fun s => s.engine) _ (fun _ _ => by split <;> rfl) _ _,
    foldl_keeps (fun s => s.tick.moves.asked) _ (fun _ _ => by split <;> rfl) _ _⟩

/-- Which simulators have reached OPEN at this microsecond, once the cut requests are made. -/
theorem State.requestCuts_opened (m : Fin 4) (hm : p m ≠ some .opened) :
    has (s.requestCuts p ks).tick.moves.opened m = has s.tick.moves.opened m := by
  refine foldl_keeps (fun s => has s.tick.moves.opened m) _ (fun t k => ?_) ks s
  split_ifs with hk
  · have hmk : (m == k) = false := beq_false_of_ne fun h => hm (h ▸ hk)
    simp [State.cutRequests, State.noteOpened, hmk]
  · rfl

/-- No cutting begins at a lane that the simulator reaching OPEN does not bind. -/
theorem State.cutRequests_begun (h : (s.breakers[k]).setting.binds l = false) :
    has (s.cutRequests k).tick.moves.begun l = has s.tick.moves.begun l := by
  simp only [State.cutRequests, State.noteOpened, has_setOf, h, Bool.false_and, Bool.or_false]

/-- A lane that no simulator reaching OPEN binds stays as it is (R110). -/
theorem State.requestCuts_unbound (h : ¬s.Reaches p .opened ks l) :
    (s.requestCuts p ks).synth.lanes[l] = s.synth.lanes[l] ∧
      has (s.requestCuts p ks).tick.moves.begun l = has s.tick.moves.begun l := by
  induction ks generalizing s with
  | nil => exact ⟨rfl, rfl⟩
  | cons k ks ih =>
    rw [State.requestCuts, List.foldl_cons]
    split_ifs with hk
    · have hbinds : (s.breakers[k]).setting.binds l = false :=
        Bool.eq_false_iff.2 fun hb => h ⟨k, List.mem_cons_self, hk, hb⟩
      obtain ⟨hlane, hbegun⟩ := ih (s := s.cutRequests k) fun ⟨m, hm, hreach⟩ => h ⟨m, List.mem_cons_of_mem k hm, hreach⟩
      exact ⟨hlane.trans (by rw [State.cutRequests_lane, hbinds]; rfl),
        hbegun.trans (State.cutRequests_begun hbinds)⟩
    · exact ih fun ⟨m, hm, hreach⟩ => h ⟨m, List.mem_cons_of_mem k hm, hreach⟩

/-- A second cut request of one microsecond changes nothing more, at a LIVE lane where no re-energising request waits (R80). -/
theorem SynthLane.requestCut_again {x : SynthLane} {now : Clock} {stands : Bool} (h : x.cut = .live → x.reenergise = none)
    (k j : Fin 4) : (x.requestCut k now stands).requestCut j now stands = x.requestCut k now stands := by
  cases hc : x.cut with
  | live => simp [SynthLane.requestCut, hc, h hc]
  | cutting b n =>
    by_cases hr : x.reenergise = some now ∧ stands = false
    · simp [SynthLane.requestCut, hc, hr]
    · simp only [SynthLane.requestCut, hc, if_neg hr]
  | cut => simp [SynthLane.requestCut, hc]

/-- A lane that a cut request leaves as it is stays so. -/
theorem State.requestCuts_fixed (h : ∀ j, (s.synth.lanes[l]).requestCut j s.now (s.released l) = s.synth.lanes[l]) :
    (s.requestCuts p ks).synth.lanes[l] = s.synth.lanes[l] := by
  induction ks generalizing s with
  | nil => rfl
  | cons k ks ih =>
    rw [State.requestCuts, List.foldl_cons]
    split_ifs with hk
    · have hlane : (s.cutRequests k).synth.lanes[l] = s.synth.lanes[l] := by rw [State.cutRequests_lane, h, ite_self]
      exact (ih (s := s.cutRequests k) (by rw [hlane]; exact h)).trans hlane
    · exact ih h

/-- Of the simulators that reach OPEN and bind a lane, the lowest makes the request that counts (R80, notes/assumptions/44.md). -/
theorem State.requestCuts_lane {x : SynthLane} (hx : s.synth.lanes[l] = x) (hlive : x.cut = .live → x.reenergise = none)
    (hks : ks.Pairwise (· < ·)) (h : s.Reaches p .opened ks l) :
    ∃ k ∈ ks, p k = some .opened ∧ (s.breakers[k]).setting.binds l = true ∧
      (∀ m ∈ ks, m < k → p m = some .opened → ¬(s.breakers[m]).setting.binds l = true) ∧
      (s.requestCuts p ks).synth.lanes[l] = x.requestCut k s.now (s.released l) := by
  induction ks generalizing s with
  | nil => obtain ⟨k, hk, _⟩ := h; cases hk
  | cons k ks ih =>
    obtain ⟨hlow, hrest⟩ := List.pairwise_cons.1 hks
    by_cases hk : p k = some .opened ∧ (s.breakers[k]).setting.binds l = true
    · refine ⟨k, List.mem_cons_self, hk.1, hk.2, fun m hm hmk => ?_, ?_⟩
      · rcases List.mem_cons.1 hm with rfl | hm
        · exact absurd hmk (lt_irrefl _)
        · exact absurd hmk (lt_asymm (hlow m hm))
      · have hlane : (s.cutRequests k).synth.lanes[l] = x.requestCut k s.now (s.released l) := by
          rw [State.cutRequests_lane, if_pos hk.2, hx]
        rw [State.requestCuts, List.foldl_cons, if_pos hk.1]
        refine (State.requestCuts_fixed fun j => ?_).trans hlane
        rw [hlane]
        exact SynthLane.requestCut_again hlive k j
    · have hnext : s.Reaches p .opened ks l := by
        obtain ⟨m, hm, hreach⟩ := h
        rcases List.mem_cons.1 hm with rfl | hm
        · exact absurd hreach hk
        · exact ⟨m, hm, hreach⟩
      have hfirst : ∀ m ∈ k :: ks, p m = some .opened → (s.breakers[m]).setting.binds l = true → m ∈ ks := fun m hm ho hb =>
        (List.mem_cons.1 hm).resolve_left fun hmk => hk (hmk ▸ ⟨ho, hb⟩)
      rw [State.requestCuts, List.foldl_cons]
      split_ifs with ho
      · have hbinds : (s.breakers[k]).setting.binds l = false := Bool.eq_false_iff.2 fun hb => hk ⟨ho, hb⟩
        obtain ⟨j, hj, hjo, hjb, hlowest, hlane⟩ :=
          ih (s := s.cutRequests k) (by rw [State.cutRequests_lane, hbinds]; exact hx) hrest hnext
        exact ⟨j, List.mem_cons_of_mem k hj, hjo, hjb, fun m hm hmj hmo hmb => hlowest m (hfirst m hm hmo hmb) hmj hmo hmb, hlane⟩
      · obtain ⟨j, hj, hjo, hjb, hlowest, hlane⟩ := ih hx hrest hnext
        exact ⟨j, List.mem_cons_of_mem k hj, hjo, hjb, fun m hm hmj hmo hmb => hlowest m (hfirst m hm hmo hmb) hmj hmo hmb, hlane⟩

end

/-! ## Re-energising requests -/

/-- The re-energising requests of this microsecond are to be made at a CUTTING lane, once the simulators of a list have reached CLOSED:
one that counts for it finds it held by no other (R110, notes/assumptions/45.md). -/
def State.Due (s : State) (p : Fin 4 → Option Level) (ks : List (Fin 4)) (l : Fin 12) : Prop :=
  ∃ m : Fin 4, s.heldByOther m l = false ∧ (has s.tick.moves.asked[l] m = true ∨
    (m ∈ ks ∧ p m = some .closed ∧ (s.breakers[m]).setting.binds l = true ∧
      (has s.tick.moves.begun l = false ∨ has s.tick.moves.opened m = true)))

theorem SynthLane.requestReenergise_again (x : SynthLane) (now : Clock) :
    (x.requestReenergise now).requestReenergise now = x.requestReenergise now := by
  unfold SynthLane.requestReenergise
  cases hc : x.cut <;> simp [hc]

theorem SynthLane.requestReenergise_live {x : SynthLane} (now : Clock) (h : x.cut = .live) : x.requestReenergise now = x := by
  rw [SynthLane.requestReenergise, h]

theorem SynthLane.requestReenergise_notLive {x : SynthLane} (now : Clock) (h : x.cut ≠ .live) :
    x.requestReenergise now = { x with reenergise := some (x.reenergise.getD now) } := by
  unfold SynthLane.requestReenergise
  cases hc : x.cut with
  | live => exact absurd hc h
  | _ => rfl

section
variable {s : State} {p : Fin 4 → Option Level} {k : Fin 4} {ks : List (Fin 4)} {l : Fin 12} {x : SynthLane}

theorem State.requestCloses_keeps (s : State) (p : Fin 4 → Option Level) (ks : List (Fin 4)) :
    (s.requestCloses p ks).breakers = s.breakers ∧ (s.requestCloses p ks).engine = s.engine :=
  ⟨foldl_keeps (fun s => s.breakers) _ (fun _ _ => by split <;> rfl) _ _,
    foldl_keeps (fun s => s.engine) _ (fun _ _ => by split <;> rfl) _ _⟩

/-- A simulator reaching CLOSED makes a request at a lane or leaves it. -/
theorem State.reenergiseRequests_or (s : State) (k : Fin 4) (l : Fin 12) :
    (s.reenergiseRequests k).synth.lanes[l] = (s.synth.lanes[l]).requestReenergise s.now ∨
      (s.reenergiseRequests k).synth.lanes[l] = s.synth.lanes[l] := by
  rw [State.reenergiseRequests_lane]
  split_ifs
  · exact .inl rfl
  · exact .inr rfl

/-- No request is kept at a LIVE lane (R80, notes/assumptions/14.md). -/
theorem State.requestCloses_live (hx : s.synth.lanes[l] = x) (h : x.cut = .live) : (s.requestCloses p ks).synth.lanes[l] = x := by
  induction ks generalizing s with
  | nil => exact hx
  | cons k ks ih =>
    rw [State.requestCloses, List.foldl_cons]
    refine ih ?_
    split_ifs
    · rcases s.reenergiseRequests_or k l with hlane | hlane <;> rw [hlane, hx]
      exact SynthLane.requestReenergise_live _ h
    · exact hx

/-- A CUT lane receives the request of a simulator that reaches CLOSED when no other holds it (R110). -/
theorem State.reenergiseRequests_cutLane (hx : s.synth.lanes[l] = x) (h : x.cut = .cut) :
    (s.reenergiseRequests k).synth.lanes[l] =
      if (s.breakers[k]).setting.binds l = true ∧ s.heldByOther k l = false then x.requestReenergise s.now else x := by
  have hasks : (s.noteClosed k).asksAt k l = !s.heldByOther k l := by
    rw [State.asksAt, show (s.noteClosed k).synth.lanes[l] = x from hx, h]
    rfl
  rw [State.reenergiseRequests_lane, hasks, hx]
  simp only [Bool.not_eq_true']

/-- A request made stays: a second one of this microsecond changes nothing (R80). -/
theorem State.requestCloses_made (hx : s.synth.lanes[l] = x.requestReenergise s.now) :
    (s.requestCloses p ks).synth.lanes[l] = x.requestReenergise s.now := by
  induction ks generalizing s with
  | nil => exact hx
  | cons k ks ih =>
    rw [State.requestCloses, List.foldl_cons]
    split_ifs
    · refine ih (s := s.reenergiseRequests k) ?_
      rcases s.reenergiseRequests_or k l with hlane | hlane
      · rw [hlane, hx]
        exact SynthLane.requestReenergise_again _ _
      · exact hlane.trans hx
    · exact ih hx

/-- A lane that no simulator reaching CLOSED binds stays as it is. -/
theorem State.requestCloses_unbound (h : ¬s.Reaches p .closed ks l) : (s.requestCloses p ks).synth.lanes[l] = s.synth.lanes[l] := by
  induction ks generalizing s with
  | nil => rfl
  | cons k ks ih =>
    have hnext : ¬s.Reaches p .closed ks l := fun ⟨m, hm, hreach⟩ => h ⟨m, List.mem_cons_of_mem k hm, hreach⟩
    rw [State.requestCloses, List.foldl_cons]
    split_ifs with hk
    · refine (ih (s := s.reenergiseRequests k) hnext).trans ?_
      rw [State.reenergiseRequests_lane, if_neg fun hb => h ⟨k, List.mem_cons_self, hk, hb.1⟩]
    · exact ih hnext

theorem State.requestCloses_cut (hx : s.synth.lanes[l] = x) (h : x.cut = .cut)
    (hask : ∃ k ∈ ks, p k = some .closed ∧ (s.breakers[k]).setting.binds l = true ∧ s.heldByOther k l = false) :
    (s.requestCloses p ks).synth.lanes[l] = x.requestReenergise s.now := by
  induction ks generalizing s with
  | nil => obtain ⟨k, hk, _⟩ := hask; cases hk
  | cons k ks ih =>
    obtain ⟨m, hm, hclosed, hbinds, hfree⟩ := hask
    rw [State.requestCloses, List.foldl_cons]
    rcases List.mem_cons.1 hm with rfl | hm
    · rw [if_pos hclosed]
      exact State.requestCloses_made (s := s.reenergiseRequests m)
        ((State.reenergiseRequests_cutLane hx h).trans (if_pos ⟨hbinds, hfree⟩))
    · split_ifs
      · rcases s.reenergiseRequests_or k l with hlane | hlane
        · exact State.requestCloses_made (s := s.reenergiseRequests k) (hlane.trans (by rw [hx]; rfl))
        · exact ih (s := s.reenergiseRequests k) (hlane.trans hx) ⟨m, hm, hclosed, hbinds, hfree⟩
      · exact ih hx ⟨m, hm, hclosed, hbinds, hfree⟩

theorem State.requestCloses_cut_held (hx : s.synth.lanes[l] = x) (h : x.cut = .cut)
    (hheld : ∀ k ∈ ks, p k = some .closed → (s.breakers[k]).setting.binds l = true → s.heldByOther k l ≠ false) :
    (s.requestCloses p ks).synth.lanes[l] = x := by
  induction ks generalizing s with
  | nil => exact hx
  | cons k ks ih =>
    have hnext := fun m hm => hheld m (List.mem_cons_of_mem k hm)
    rw [State.requestCloses, List.foldl_cons]
    split_ifs with hk
    · refine ih (s := s.reenergiseRequests k) ?_ hnext
      rw [State.reenergiseRequests_cutLane hx h, if_neg fun hb => hheld k List.mem_cons_self hk hb.1 hb.2]
    · exact ih hx hnext

theorem State.counts_iff (h : (s.synth.lanes[l]).cut ≠ .live) : s.counts k l = true ↔
    (s.breakers[k]).setting.binds l = true ∧ (has s.tick.moves.begun l = false ∨ has s.tick.moves.opened k = true) := by
  rw [State.counts, bne_iff_ne.2 h, Bool.and_true, Bool.and_eq_true, Bool.or_eq_true, Bool.not_eq_true']

/-- Whether the requests of this microsecond are to be made is settled by the list as a whole, in any order (R107, R115). -/
theorem State.reenergiseRequests_due (h : (s.synth.lanes[l]).cut ≠ .live) (hk : p k = some .closed) :
    (s.reenergiseRequests k).Due p ks l ↔ s.Due p (k :: ks) l := by
  refine exists_congr fun m => and_congr Iff.rfl ?_
  have hasked : has (s.reenergiseRequests k).tick.moves.asked[l] m =
      (has s.tick.moves.asked[l] m || (m == k && s.counts k l)) := s.noteClosed_asked k m l
  rw [hasked, Bool.or_eq_true, Bool.and_eq_true, beq_iff_eq, State.counts_iff h, List.mem_cons]
  constructor
  · rintro ((ha | ⟨rfl, hcounts⟩) | ⟨hm, hreach⟩)
    · exact .inl ha
    · exact .inr ⟨.inl rfl, hk, hcounts⟩
    · exact .inr ⟨.inr hm, hreach⟩
  · rintro (ha | ⟨rfl | hm, hreach⟩)
    · exact .inl (.inl ha)
    · exact .inl (.inr ⟨rfl, hreach.2⟩)
    · exact .inr ⟨hm, hreach⟩

theorem State.due_skip (hk : p k ≠ some .closed) : s.Due p (k :: ks) l ↔ s.Due p ks l := by
  refine exists_congr fun m => and_congr Iff.rfl (or_congr Iff.rfl ?_)
  rw [List.mem_cons]
  exact ⟨fun ⟨hm, hreach⟩ => ⟨hm.resolve_left fun hmk => hk (hmk ▸ hreach.1), hreach⟩, fun ⟨hm, hreach⟩ => ⟨.inr hm, hreach⟩⟩

/-- A CUTTING lane receives the request of a simulator that reaches CLOSED once one is to be made (R110, notes/assumptions/45.md). -/
theorem State.reenergiseRequests_cutting {b : Fin 4} {n : Nat} (hx : s.synth.lanes[l] = x) (h : x.cut = .cutting b n) :
    (s.reenergiseRequests k).synth.lanes[l] =
      if (s.breakers[k]).setting.binds l = true ∧ (s.reenergiseRequests k).released l = true then x.requestReenergise s.now
      else x := by
  have hasks : (s.noteClosed k).asksAt k l = (s.reenergiseRequests k).released l := by
    rw [State.asksAt, show (s.noteClosed k).synth.lanes[l] = x from hx, h]
    rfl
  rw [State.reenergiseRequests_lane, hasks, hx]

theorem State.Due.of_released (h : s.released l = true) : s.Due p ks l := by
  obtain ⟨m, hasked, hfree⟩ := State.released_iff.1 h
  exact ⟨m, hfree, .inl hasked⟩

theorem State.requestCloses_cutting {b : Fin 4} {n : Nat} (hx : s.synth.lanes[l] = x) (h : x.cut = .cutting b n)
    (hdue : s.Due p ks l) (hreach : s.Reaches p .closed ks l) :
    (s.requestCloses p ks).synth.lanes[l] = x.requestReenergise s.now := by
  induction ks generalizing s with
  | nil => obtain ⟨k, hk, _⟩ := hreach; cases hk
  | cons k ks ih =>
    have hnotLive : (s.synth.lanes[l]).cut ≠ .live := by rw [hx, h]; exact CutState.noConfusion
    have hrest : p k = some .closed ∧ (s.breakers[k]).setting.binds l = true ∨ s.Reaches p .closed ks l := by
      obtain ⟨m, hm, hmreach⟩ := hreach
      rcases List.mem_cons.1 hm with rfl | hm
      · exact .inl hmreach
      · exact .inr ⟨m, hm, hmreach⟩
    rw [State.requestCloses, List.foldl_cons]
    split_ifs with hk
    · have hlane := State.reenergiseRequests_cutting (k := k) hx h
      have hnext := (State.reenergiseRequests_due hnotLive hk).2 hdue
      by_cases hmade : (s.breakers[k]).setting.binds l = true ∧ (s.reenergiseRequests k).released l = true
      · exact State.requestCloses_made (s := s.reenergiseRequests k) (hlane.trans (if_pos hmade))
      · refine ih (s := s.reenergiseRequests k) (hlane.trans (if_neg hmade)) hnext (hrest.elim (fun hbinds => ?_) id)
        obtain ⟨m, hfree, hasked | ⟨hm, hclosed, hbound, _⟩⟩ := hnext
        · exact absurd ⟨hbinds.2, State.released_iff.2 ⟨m, hasked, hfree⟩⟩ hmade
        · exact ⟨m, hm, hclosed, hbound⟩
    · exact ih hx ((State.due_skip hk).1 hdue) (hrest.resolve_left fun hclosed => hk hclosed.1)

theorem State.requestCloses_cutting_not {b : Fin 4} {n : Nat} (hx : s.synth.lanes[l] = x) (h : x.cut = .cutting b n)
    (hdue : ¬s.Due p ks l) : (s.requestCloses p ks).synth.lanes[l] = x := by
  induction ks generalizing s with
  | nil => exact hx
  | cons k ks ih =>
    have hnotLive : (s.synth.lanes[l]).cut ≠ .live := by rw [hx, h]; exact CutState.noConfusion
    rw [State.requestCloses, List.foldl_cons]
    split_ifs with hk
    · have hnext : ¬(s.reenergiseRequests k).Due p ks l := mt (State.reenergiseRequests_due hnotLive hk).1 hdue
      refine ih (s := s.reenergiseRequests k) ?_ hnext
      exact (State.reenergiseRequests_cutting hx h).trans (if_neg fun hmade => hnext (.of_released hmade.2))
    · exact ih hx (mt (State.due_skip hk).2 hdue)

end

/-! ## Both, at one event -/

section
variable {s : State} {p : Fin 4 → Option Level} {ks : List (Fin 4)} {l : Fin 12}

/-- The simulators of a list that reach OPEN hold the lanes they bind, as their move leaves them (R106, R110). -/
def State.OpenersHold (s : State) (p : Fin 4 → Option Level) (l : Fin 12) : Prop :=
  ∀ k, p k = some .opened → (s.breakers[k]).setting.binds l = true → (s.breakers[k]).holds l = true

/-- Beside a simulator that reaches OPEN and binds the lane, no other finds it held by none. -/
theorem State.OpenersHold.eq {k m : Fin 4} (h : s.OpenersHold p l) (hk : p k = some .opened)
    (hbinds : (s.breakers[k]).setting.binds l = true) (hm : s.heldByOther m l = false) : m = k := by
  by_contra hne
  have hfree := State.heldByOther_eq_false.1 hm k fun hkm => hne hkm.symm
  rw [h k hk hbinds] at hfree
  cases hfree

/-- Where a simulator reaches OPEN and binds the lane, only requests of this microsecond made before can be due. -/
theorem State.OpenersHold.due_iff (h : s.OpenersHold p l) (hopen : s.Reaches p .opened ks l) :
    s.Due p ks l ↔ s.released l = true := by
  refine ⟨fun ⟨m, hfree, hm⟩ => ?_, .of_released⟩
  obtain ⟨k, _, hk, hbinds⟩ := hopen
  obtain rfl := h.eq hk hbinds hfree
  rcases hm with hasked | ⟨_, hclosed, _⟩
  · exact State.released_iff.2 ⟨m, hasked, hfree⟩
  · rw [hk] at hclosed
    cases hclosed

theorem State.requestCuts_heldByOther (k : Fin 4) : (s.requestCuts p ks).heldByOther k l = s.heldByOther k l := by
  rw [State.heldByOther, (s.requestCuts_keeps p ks).1]
  rfl

theorem State.requestCuts_released : (s.requestCuts p ks).released l = s.released l := by
  obtain ⟨hbreakers, _, _, hasked⟩ := s.requestCuts_keeps p ks
  simp only [State.released, State.heldByOther, hbreakers, hasked]

theorem State.requestCuts_reaches {x : Level} : (s.requestCuts p ks).Reaches p x ks l ↔ s.Reaches p x ks l := by
  rw [State.Reaches, (s.requestCuts_keeps p ks).1]
  rfl

/-- The cut requests do not bear on whether the re-energising ones are to be made. -/
theorem State.requestCuts_due (h : s.OpenersHold p l) : (s.requestCuts p ks).Due p ks l ↔ s.Due p ks l := by
  obtain ⟨hbreakers, _, _, hasked⟩ := s.requestCuts_keeps p ks
  by_cases hopen : s.Reaches p .opened ks l
  · have hafter : (s.requestCuts p ks).OpenersHold p l := by
      rw [State.OpenersHold, hbreakers]
      exact h
    rw [hafter.due_iff (State.requestCuts_reaches.2 hopen), h.due_iff hopen, State.requestCuts_released]
  · obtain ⟨_, hbegun⟩ := State.requestCuts_unbound hopen
    refine exists_congr fun m => ?_
    rw [State.requestCuts_heldByOther, hasked, hbegun, hbreakers]
    refine and_congr Iff.rfl (or_congr Iff.rfl (and_congr Iff.rfl (and_congr_right fun hclosed => ?_)))
    rw [State.requestCuts_opened m fun ho => by rw [hclosed] at ho; cases ho]

/-- The requests of the simulators of a list that reach a position at one event, the cut requests first (R110). -/
def State.answered (s : State) (p : Fin 4 → Option Level) (ks : List (Fin 4)) : State := (s.requestCuts p ks).requestCloses p ks

theorem State.answered_keeps (s : State) (p : Fin 4 → Option Level) (ks : List (Fin 4)) :
    (s.answered p ks).breakers = s.breakers ∧ (s.answered p ks).engine = s.engine :=
  ⟨((s.requestCuts p ks).requestCloses_keeps p ks).1.trans (s.requestCuts_keeps p ks).1,
    ((s.requestCuts p ks).requestCloses_keeps p ks).2.trans (s.requestCuts_keeps p ks).2.2.1⟩

variable {x : SynthLane}

/-- What a lane that the cut requests leave CUTTING becomes: it is asked to be re-energised when a simulator that binds it reaches
CLOSED and the requests are to be made (R110, notes/assumptions/45.md). -/
theorem State.answered_cutting {y : SynthLane} {b : Fin 4} {n : Nat} (h : s.OpenersHold p l)
    (hy : (s.requestCuts p ks).synth.lanes[l] = y) (hcut : y.cut = .cutting b n) :
    (s.Due p ks l → s.Reaches p .closed ks l → (s.answered p ks).synth.lanes[l] = y.requestReenergise s.now) ∧
      (¬(s.Due p ks l ∧ s.Reaches p .closed ks l) → (s.answered p ks).synth.lanes[l] = y) := by
  refine ⟨fun hdue hclosed => ?_, fun hnot => ?_⟩
  · have hmade := State.requestCloses_cutting hy hcut ((State.requestCuts_due h).2 hdue) (State.requestCuts_reaches.2 hclosed)
    rw [(s.requestCuts_keeps p ks).2.1] at hmade
    exact hmade
  · by_cases hdue : s.Due p ks l
    · have hunbound : ¬s.Reaches p .closed ks l := fun hclosed => hnot ⟨hdue, hclosed⟩
      exact (State.requestCloses_unbound (mt State.requestCuts_reaches.1 hunbound)).trans hy
    · exact State.requestCloses_cutting_not hy hcut (mt (State.requestCuts_due h).1 hdue)

/-- A LIVE lane of which the lowest simulator that reaches OPEN and binds it is `k` (R80, notes/assumptions/44.md). -/
theorem State.answered_live {k : Fin 4} (h : s.OpenersHold p l) (hx : s.synth.lanes[l] = x) (hlive : x.cut = .live)
    (hnone : x.reenergise = none) (hks : ks.Pairwise (· < ·)) (hk : k ∈ ks) (hopen : p k = some .opened)
    (hbinds : (s.breakers[k]).setting.binds l = true)
    (hlow : ∀ m ∈ ks, m < k → p m = some .opened → ¬(s.breakers[m]).setting.binds l = true) :
    (¬(s.Due p ks l ∧ s.Reaches p .closed ks l) → (s.answered p ks).synth.lanes[l] = { x with cut := .cutting k 0 }) ∧
      (s.Due p ks l → s.Reaches p .closed ks l →
        (s.answered p ks).synth.lanes[l] = { x with cut := .cutting k 0, reenergise := some s.now }) := by
  obtain ⟨j, hj, hjopen, hjbinds, hjlow, hlane⟩ := State.requestCuts_lane hx (fun _ => hnone) hks ⟨k, hk, hopen, hbinds⟩
  obtain rfl : j = k := by
    rcases lt_trichotomy j k with hlt | heq | hgt
    · exact absurd hjbinds (hlow j hj hlt hjopen)
    · exact heq
    · exact absurd hbinds (hjlow k hk hgt hopen)
  rw [SynthLane.requestCut, hlive] at hlane
  obtain ⟨hmade, hnot⟩ := State.answered_cutting h hlane rfl
  refine ⟨hnot, fun hdue hclosed => (hmade hdue hclosed).trans ?_⟩
  simp [SynthLane.requestReenergise, hnone]

/-- A CUT lane that a simulator reaching OPEN binds: a request that waits is withdrawn, and none is made (R80, R110). -/
theorem State.answered_cut (h : s.OpenersHold p l) (hx : s.synth.lanes[l] = x) (hcut : x.cut = .cut) (hks : ks.Pairwise (· < ·))
    (hopen : s.Reaches p .opened ks l) : (s.answered p ks).synth.lanes[l] = { x with reenergise := none } := by
  obtain ⟨k, _, hk, hbinds, _, hlane⟩ := State.requestCuts_lane hx (fun hlive => by rw [hcut] at hlive; cases hlive) hks hopen
  have hwithdrawn : x.requestCut k s.now (s.released l) = { x with reenergise := none } := by simp [SynthLane.requestCut, hcut]
  refine State.requestCloses_cut_held (hlane.trans hwithdrawn) hcut fun m _ hm _ hfree => ?_
  rw [State.requestCuts_heldByOther] at hfree
  obtain rfl := h.eq hk hbinds hfree
  rw [hk] at hm
  cases hm

/-- A CUTTING lane: a request of this microsecond that is no longer to be made is withdrawn by a cut request (notes/assumptions/13.md,
notes/assumptions/45.md). -/
theorem State.answered_cutting_opened {b : Fin 4} {n : Nat} (h : s.OpenersHold p l) (hx : s.synth.lanes[l] = x)
    (hcut : x.cut = .cutting b n) (hks : ks.Pairwise (· < ·)) (hdue : ¬s.Due p ks l) (hopen : s.Reaches p .opened ks l)
    (hr : x.reenergise = some s.now) : (s.answered p ks).synth.lanes[l] = { x with reenergise := none } := by
  obtain ⟨k, _, _, _, _, hlane⟩ := State.requestCuts_lane hx (fun hlive => by rw [hcut] at hlive; cases hlive) hks hopen
  have hreleased : s.released l = false := Bool.eq_false_iff.2 fun hreleased => hdue (.of_released hreleased)
  have hwithdrawn : x.requestCut k s.now (s.released l) = { x with reenergise := none } := by
    simp [SynthLane.requestCut, hcut, hr, hreleased]
  exact (State.answered_cutting h (hlane.trans hwithdrawn) hcut).2 fun hmade => hdue hmade.1

/-- The cut requests leave a CUTTING lane whose request stands. -/
theorem State.requestCuts_cutting {b : Fin 4} {n : Nat} (hx : s.synth.lanes[l] = x) (hcut : x.cut = .cutting b n)
    (hks : ks.Pairwise (· < ·)) (hstands : s.Reaches p .opened ks l → x.reenergise = some s.now → s.released l = true) :
    (s.requestCuts p ks).synth.lanes[l] = x := by
  by_cases hopen : s.Reaches p .opened ks l
  · obtain ⟨k, _, _, _, _, hlane⟩ := State.requestCuts_lane hx (fun hlive => by rw [hcut] at hlive; cases hlive) hks hopen
    rw [hlane, SynthLane.requestCut, hcut]
    exact if_neg fun ⟨hr, hnot⟩ => by rw [hstands hopen hr] at hnot; cases hnot
  · exact (State.requestCuts_unbound hopen).1.trans hx

/-- A CUTTING lane while the requests of this microsecond are to be made (notes/assumptions/45.md). -/
theorem State.answered_cutting_due {b : Fin 4} {n : Nat} (h : s.OpenersHold p l) (hx : s.synth.lanes[l] = x)
    (hcut : x.cut = .cutting b n) (hks : ks.Pairwise (· < ·)) (hdue : s.Due p ks l) :
    (s.Reaches p .closed ks l → (s.answered p ks).synth.lanes[l] = { x with reenergise := some (x.reenergise.getD s.now) }) ∧
      (¬s.Reaches p .closed ks l → (s.answered p ks).synth.lanes[l] = x) := by
  have hcuts := State.requestCuts_cutting hx hcut hks fun hopen _ => (h.due_iff hopen).1 hdue
  obtain ⟨hmade, hnot⟩ := State.answered_cutting h hcuts hcut
  have hnotLive : x.cut ≠ .live := by rw [hcut]; exact CutState.noConfusion
  exact ⟨fun hclosed => (hmade hdue hclosed).trans (SynthLane.requestReenergise_notLive _ hnotLive),
    fun hclosed => hnot fun hboth => hclosed hboth.2⟩

/-- A CUTTING lane with no request of this microsecond to be made or withdrawn. -/
theorem State.answered_cutting_idle {b : Fin 4} {n : Nat} (h : s.OpenersHold p l) (hx : s.synth.lanes[l] = x)
    (hcut : x.cut = .cutting b n) (hks : ks.Pairwise (· < ·)) (hdue : ¬s.Due p ks l)
    (hstands : ¬(s.Reaches p .opened ks l ∧ x.reenergise = some s.now)) : (s.answered p ks).synth.lanes[l] = x := by
  have hcuts := State.requestCuts_cutting hx hcut hks fun hopen hr => absurd ⟨hopen, hr⟩ hstands
  exact (State.answered_cutting h hcuts hcut).2 fun hboth => hdue hboth.1

/-- A LIVE lane that no simulator reaching OPEN binds (R80, notes/assumptions/14.md). -/
theorem State.answered_unopened_live (hx : s.synth.lanes[l] = x) (hlive : x.cut = .live) (hopen : ¬s.Reaches p .opened ks l) :
    (s.answered p ks).synth.lanes[l] = x :=
  State.requestCloses_live ((State.requestCuts_unbound hopen).1.trans hx) hlive

/-- A CUT lane that no simulator reaching OPEN binds: one reaching CLOSED, beside which no other holds it, asks for it (R110). -/
theorem State.answered_unopened_cut (hx : s.synth.lanes[l] = x) (hcut : x.cut = .cut) (hopen : ¬s.Reaches p .opened ks l) :
    ((∃ k ∈ ks, p k = some .closed ∧ (s.breakers[k]).setting.binds l = true ∧ s.heldByOther k l = false) →
      (s.answered p ks).synth.lanes[l] = { x with reenergise := some (x.reenergise.getD s.now) }) ∧
    ((∀ k ∈ ks, p k = some .closed → (s.breakers[k]).setting.binds l = true → s.heldByOther k l ≠ false) →
      (s.answered p ks).synth.lanes[l] = x) := by
  obtain ⟨hbreakers, hnow, _⟩ := s.requestCuts_keeps p ks
  have hcuts := (State.requestCuts_unbound hopen).1.trans hx
  have hnotLive : x.cut ≠ .live := by rw [hcut]; exact CutState.noConfusion
  refine ⟨fun ⟨k, hk, hclosed, hbinds, hfree⟩ => ?_, fun hheld => ?_⟩
  · rw [← hnow, ← SynthLane.requestReenergise_notLive _ hnotLive]
    exact State.requestCloses_cut hcuts hcut ⟨k, hk, hclosed, by rwa [hbreakers], by rwa [State.requestCuts_heldByOther]⟩
  · refine State.requestCloses_cut_held hcuts hcut fun k hk hclosed hbinds => ?_
    rw [State.requestCuts_heldByOther]
    rw [hbreakers] at hbinds
    exact hheld k hk hclosed hbinds

end

end Sys2Proof.Machine
end

section
/-! SUPPORT. The end of an episode (R88, R89, R91): the edge latches, the simulators and their requests, and the rest of the part. -/

namespace Sys2Proof.Machine

/-! ## An episode that ends (R88, R89) -/

section
variable {s : State} {i : Fin 16} {e : Episode}

theorem exec_episodeEnd_of_none (h : (s.contacts[i]).ends s.now = none) : exec (.episodeEnd i) s = .next s := by
  change Host.Outcome.next (match (s.contacts[i]).ends s.now with | some e => s.endEpisode i e | none => s) = _
  rw [h]

theorem exec_episodeEnd_of_some (h : (s.contacts[i]).ends s.now = some e) :
    exec (.episodeEnd i) s = .next (s.endEpisode i e) := by
  change Host.Outcome.next (match (s.contacts[i]).ends s.now with | some e => s.endEpisode i e | none => s) = _
  rw [h]

theorem Contact.ends_eq_none {c : Contact} {now : Clock}
    (h : ∀ e, c.episode = some e → c.setting.enabled = false ∨ elapsed e.last now < c.setting.debounce) : c.ends now = none := by
  unfold Contact.ends
  cases he : c.episode with
  | none => rfl
  | some e =>
    refine if_neg fun ⟨hon, hpast⟩ => ?_
    rcases h e he with hoff | hearly
    · rw [hon] at hoff
      cases hoff
    · omega

theorem Contact.ends_eq_some {c : Contact} {now : Clock} (he : c.episode = some e) (hon : c.setting.enabled = true)
    (hpast : c.setting.debounce ≤ elapsed e.last now) : c.ends now = some e := by
  rw [Contact.ends, he]
  exact if_pos ⟨hon, hpast⟩

/-- The state in which an episode's end has been noted and the raw level accepted (R88). -/
def State.accepting (s : State) (i : Fin 16) (e : Episode) : State :=
  (s.noteEnded i (s.contacts[i]).accepted e).setContact i { s.contacts[i] with episode := none, accepted := (s.contacts[i]).pin }

theorem State.endEpisode_of_ne (h : (s.contacts[i]).pin ≠ (s.contacts[i]).accepted) :
    s.endEpisode i e =
      (s.accepting i e).handOver i ((s.contacts[i]).setting.direction (s.contacts[i]).pin) e.start := if_neg h

theorem State.endEpisode_of_eq (h : (s.contacts[i]).pin = (s.contacts[i]).accepted) :
    s.endEpisode i e = { s with
      contacts := s.contacts.set i { s.contacts[i] with episode := none }
      tick := { s.tick with ended := s.tick.ended ++ [(i, (s.contacts[i]).accepted, e)] } } := by
  exact (if_pos h).trans (congrArg (fun level => (s.noteEnded i (s.contacts[i]).accepted e).setContact i
    { s.contacts[i] with episode := none, accepted := level }) h)

theorem InputSetting.direction_operate {x : InputSetting} {l : Level} : x.direction l = .operate ↔ l = x.active := by
  unfold InputSetting.direction
  split_ifs with h <;> simp [h]

end

/-! ## An accepted event (R53, R91) -/

section
variable {s : State} {i : Fin 16} {d : Direction} {event : Clock}

/-- With no shot RUNNING or SETTLING an accepted event touches no other block (R91). -/
theorem State.handOver_of_armed {sh : Shot} {start : Option Clock} (h : s.engine = .armed sh start) : s.handOver i d event = s := by
  have hlatch : s.latchEdges i d event = s := by simp only [State.latchEdges, h]
  have hbreakers : s.informBreakers i d event = s := by simp only [State.informBreakers, h]
  have hcapture : s.informCapture i d = s := by simp only [State.informCapture, h]
  have hfile : s.fileEvent i d event = s := by
    rw [State.fileEvent, if_neg (by simp [h, Engine.isRunning])]
    simp only [State.recordEvent, h]
  rw [State.handOver, hlatch, hbreakers, hcapture, hfile]

/-- What waits for the coming shot stays: the ended episodes of this microsecond (R87). -/
theorem State.handOver_ended : (s.handOver i d event).tick.ended = s.tick.ended := by
  have hfile (t : State) : (t.fileEvent i d event).tick.ended = t.tick.ended := by
    unfold State.fileEvent
    split
    · rfl
    · simp
  rw [State.handOver, hfile]
  simp

/-- The edge latches of the visit after an accepted event (R53). -/
def State.edgesAfter (s : State) (run : Run) (i : Fin 16) (d : Direction) (event : Clock) : BitVec 4 :=
  if d = .operate ∧ run.deferral = none ∧ elapsed event s.now ≤ s.since run.startTime run.entry then
    run.edges ||| edgeSlots (s.entry run.inForce).exits i
  else run.edges

/-- The state whose edge latches an accepted event has set, in RUNNING (R53). -/
def State.latched (s : State) (sh : Shot) (run : Run) (i : Fin 16) (d : Direction) (event : Clock) : State :=
  { s with engine := .running sh { run with edges := s.edgesAfter run i d event } }

theorem State.latchEdges_of_running {sh : Shot} {run : Run} (h : s.engine = .running sh run) :
    s.latchEdges i d event = s.latched sh run i d event := by
  have hsame : ({ s with engine := .running sh run } : State) = s := by rw [← h]
  unfold State.latchEdges State.latched State.edgesAfter
  rw [h]
  cases d with
  | operate =>
    by_cases hset : run.deferral = none ∧ elapsed event s.now ≤ s.since run.startTime run.entry
    · simp [hset]
    · simp only [hset, if_false, and_false, hsame]
  | reset => simp [hsame]

/-- The slots of a list that name an input (R53). -/
theorem edgeSlots_iff {es : List Exit} {n : Nat} (hn : n < 4) : (edgeSlots es i).getLsbD n = true ↔
    ∃ mask target, es[n]? = some { kind := .inputEdge mask, target := target } ∧ has mask i = true := by
  have hbit : (edgeSlots es i).getLsbD n = has (edgeSlots es i) ⟨n, hn⟩ := BitVec.getLsbD_eq_getElem hn
  rw [hbit, edgeSlots, has_setOf]
  split
  · rename_i mask target hx
    exact ⟨fun hm => ⟨mask, target, hx, hm⟩, fun ⟨m, g, hx', hm⟩ => by rw [hx] at hx'; cases hx'; exact hm⟩
  · rename_i hx
    exact ⟨fun h => absurd h Bool.false_ne_true, fun ⟨m, g, hx', _⟩ => absurd hx' (hx m g)⟩

theorem State.edgesAfter_iff {run : Run} {n : Nat} (hn : n < 4) : (s.edgesAfter run i d event).getLsbD n = true ↔
    run.edges.getLsbD n = true ∨ (d = .operate ∧ run.deferral = none ∧ elapsed event s.now ≤ s.since run.startTime run.entry ∧
      ∃ mask target, (s.entry run.inForce).exits[n]? = some { kind := .inputEdge mask, target := target } ∧
        has mask i = true) := by
  unfold State.edgesAfter
  split_ifs with h
  · rw [BitVec.getLsbD_or, Bool.or_eq_true, edgeSlots_iff hn]
    simp [h]
  · simp only [← and_assoc] at h ⊢
    simp [h]

/-- The simulators handle the event and then make their requests (R91, R110, R115). -/
theorem State.informBreakers_of_running {sh : Shot} {run : Run} (h : s.engine = .running sh run) :
    s.informBreakers i d event = (s.handleBreakers run i d event).answered (s.runsTo run i d event) (List.finRange 4) := by
  rw [State.informBreakers, h]
  rfl

/-- The simulators and the lanes after an accepted event, in RUNNING. -/
theorem State.handOver_of_running {sh : Shot} {run : Run} (h : s.engine = .running sh run) :
    let w := s.latched sh run i d event
    let latched : Run := { run with edges := s.edgesAfter run i d event }
    let u := w.handleBreakers latched i d event
    (s.handOver i d event).breakers = u.breakers ∧
      (s.handOver i d event).synth = (u.answered (w.runsTo latched i d event) (List.finRange 4)).synth ∧
      ∃ fresh, (s.handOver i d event).engine =
        .running sh { latched with fresh := fresh } := by
  intro w latched u
  have hw : (s.latchEdges i d event).informBreakers i d event = u.answered (w.runsTo latched i d event) (List.finRange 4) := by
    rw [State.latchEdges_of_running h]
    exact State.informBreakers_of_running rfl
  obtain ⟨hbreakers, hengine⟩ := u.answered_keeps (w.runsTo latched i d event) (List.finRange 4)
  obtain ⟨fresh, hfresh⟩ := w.handleBreakers_fresh (run := latched) (i := i) (d := d) (event := event) sh _ rfl
  rw [State.handOver, hw]
  exact ⟨by simpa using hbreakers, by simp, fresh, by simpa using hengine.trans hfresh⟩

/-- A simulator after an accepted event, in RUNNING (R103 to R106). -/
theorem State.handOver_breaker {sh : Shot} {run : Run} (h : s.engine = .running sh run) (k : Fin 4) :
    (s.handOver i d event).breakers[k] =
      (s.breakers[k]).handled (s.handOver i d event).stands (moveStart run event s.now) s.now i d := by
  have hstands : (s.handOver i d event).stands = s.stands := by
    funext x
    cases x <;> simp [State.stands]
  rw [(State.handOver_of_running h).1, hstands]
  exact State.handleBreakers_breakers _ k

end

/-! ## The requests of the simulators that an event moves (R110) -/

section
variable {s : State} {run : Run} {i : Fin 16} {d : Direction} {event : Clock} {l : Fin 12}

theorem State.handleBreakers_setting (k : Fin 4) :
    ((s.handleBreakers run i d event).breakers[k]).setting = (s.breakers[k]).setting := by
  rw [State.handleBreakers_breakers]
  exact Simulator.handled_setting ..

theorem State.handleBreakers_openersHold : (s.handleBreakers run i d event).OpenersHold (s.runsTo run i d event) l :=
  fun k hk hbinds => s.handleBreakers_holds hk (by rwa [State.handleBreakers_setting] at hbinds)

theorem State.handleBreakers_reaches {x : Level} :
    (s.handleBreakers run i d event).Reaches (s.runsTo run i d event) x (List.finRange 4) l ↔
      ∃ k, s.runsTo run i d event k = some x ∧ (s.breakers[k]).setting.binds l = true := by
  refine exists_congr fun k => ?_
  rw [State.handleBreakers_setting]
  exact and_iff_right (List.mem_finRange k)

theorem State.handleBreakers_due :
    (s.handleBreakers run i d event).Due (s.runsTo run i d event) (List.finRange 4) l ↔
      ∃ m : Fin 4, (∀ j : Fin 4, j ≠ m → ((s.handleBreakers run i d event).breakers[j]).holds l = false) ∧
        (has s.tick.moves.asked[l] m = true ∨
          (s.runsTo run i d event m = some .closed ∧ (s.breakers[m]).setting.binds l = true ∧
            (has s.tick.moves.begun l = false ∨ has s.tick.moves.opened m = true))) := by
  refine exists_congr fun m => ?_
  rw [State.heldByOther_eq_false, State.handleBreakers_setting, State.handleBreakers_tick]
  exact and_congr Iff.rfl (or_congr Iff.rfl (and_iff_right (List.mem_finRange m)))

end

/-- Settles O45: samples and ended episodes; in RUNNING the latches, then each simulator by itself, then their requests lane by lane. -/
theorem contactSamplesAndEpisodes : Obligations.ContactSamplesAndEpisodes := by
  intro s i c
  refine ⟨fun level => exec_contactRawEdge s i level, fun h => exec_episodeEnd_of_none (Contact.ends_eq_none h),
    fun e he hon hpast => ?_⟩
  have hexec := exec_episodeEnd_of_some (Contact.ends_eq_some he hon hpast)
  refine ⟨fun heq => hexec.trans (congrArg _ (State.endEpisode_of_eq heq)),
    fun hne => ⟨_, hexec.trans (congrArg _ (State.endEpisode_of_ne hne)), ?_⟩⟩
  have hoperate : c.setting.direction c.pin = .operate ↔ c.pin = c.setting.active := InputSetting.direction_operate
  generalize hd : c.setting.direction c.pin = d at hoperate
  obtain ⟨_, hclock, htables, hqueue, _, hcontacts, hsup, hlinks⟩ := (s.accepting i e).handOver_keeps i d e.start
  refine ⟨hcontacts, htables, hqueue, hlinks, hsup, hclock, State.handOver_ended, ?_, fun sh run hr => ?_⟩
  · rintro (h | ⟨sh, start, h⟩)
    · rw [State.handOver_of_idle (s := s.accepting i e) h]
      rfl
    · rw [State.handOver_of_armed (s := s.accepting i e) h]
      rfl
  obtain ⟨hbreakers, hsynth, fresh, hengine⟩ := State.handOver_of_running (s := s.accepting i e) (i := i) (d := d) (event := e.start) hr
  have hbreaker := State.handOver_breaker (s := s.accepting i e) (i := i) (d := d) (event := e.start) hr
  generalize (s.accepting i e).handOver i d e.start = t at *
  refine ⟨⟨_, fresh, hengine, fun n hn => (State.edgesAfter_iff hn).trans (or_congr Iff.rfl (and_congr hoperate Iff.rfl))⟩,
    fun l => ?_, fun k => ?_⟩
  · intro x past binds opens closes alone moved due opened closed asked
    let w := (s.accepting i e).latched sh run i d e.start
    let r : Run := { run with edges := (s.accepting i e).edgesAfter run i d e.start }
    let u := w.handleBreakers r i d e.start
    let p := w.runsTo r i d e.start
    have hopens : ∀ k, p k = some .opened ↔ opens k := fun k => w.runsTo_opened.trans (and_congr hoperate Iff.rfl)
    have hcloses : ∀ k, p k = some .closed ↔ closes k := fun k => w.runsTo_closed.trans (and_congr hoperate Iff.rfl)
    have hsetting : ∀ k : Fin 4, (u.breakers[k]).setting.binds l = true ↔ binds k := fun k => by
      rw [show (u.breakers[k]).setting = _ from State.handleBreakers_setting k]
      exact Iff.rfl
    have hhold : u.OpenersHold p l := State.handleBreakers_openersHold
    have hopen : u.Reaches p .opened (List.finRange 4) l ↔ opened :=
      State.handleBreakers_reaches.trans (exists_congr fun k => and_congr (hopens k) Iff.rfl)
    have hclosed : u.Reaches p .closed (List.finRange 4) l ↔ closed :=
      State.handleBreakers_reaches.trans (exists_congr fun k => and_congr (hcloses k) Iff.rfl)
    have halone : ∀ k, u.heldByOther k l = false ↔ alone k := fun k => by
      rw [State.heldByOther_eq_false, show u.breakers = t.breakers from hbreakers.symm]
    have hdue : u.Due p (List.finRange 4) l ↔ due := by
      refine State.handleBreakers_due.trans (exists_congr fun m => and_congr ?_ (or_congr Iff.rfl (and_congr (hcloses m) Iff.rfl)))
      rw [← State.heldByOther_eq_false]
      exact halone m
    have hx : u.synth.lanes[l] = x := congrArg (fun y => y.lanes[l]) w.handleBreakers_synth
    have hnow : u.now = s.now := w.handleBreakers_now
    have hasked : ({ x with reenergise := some (x.reenergise.getD u.now) } : SynthLane) = asked := by rw [hnow]
    have hks : (List.finRange 4).Pairwise (· < ·) := List.pairwise_lt_finRange 4
    rw [hsynth, ← hnow]
    refine ⟨fun k hk hbinds hlow => ⟨fun hlive hnone => ?_, fun hcut => ?_⟩, fun b n hcut => ?_, fun hno => ?_⟩
    · obtain ⟨hnot, hmade⟩ := State.answered_live hhold hx hlive hnone hks (List.mem_finRange k) ((hopens k).2 hk)
        ((hsetting k).2 hbinds) fun m _ hmk hm hb => hlow m hmk ((hopens m).1 hm) ((hsetting m).1 hb)
      exact ⟨fun h => hnot (mt (And.imp hdue.1 hclosed.1) h), fun h₁ h₂ => hmade (hdue.2 h₁) (hclosed.2 h₂)⟩
    · exact State.answered_cut hhold hx hcut hks (hopen.2 ⟨k, hk, hbinds⟩)
    · have hisDue := fun h => State.answered_cutting_due hhold hx hcut hks (hdue.2 h)
      exact ⟨fun h hclose => ((hisDue h).1 (hclosed.2 hclose)).trans hasked,
        fun h hclose => (hisDue h).2 (mt hclosed.1 hclose),
        fun h ho => State.answered_cutting_opened hhold hx hcut hks (mt hdue.1 h) (hopen.2 ho),
        fun h ho => State.answered_cutting_idle hhold hx hcut hks (mt hdue.1 h) (mt (And.imp_left hopen.1) ho)⟩
    · have hunopened := mt hopen.1 hno
      refine ⟨fun hlive => State.answered_unopened_live hx hlive hunopened, fun hcut => ?_, fun hcut hheld => ?_⟩
      · rintro ⟨k, hk, hbinds, hfree⟩
        exact ((State.answered_unopened_cut hx hcut hunopened).1
          ⟨k, List.mem_finRange k, (hcloses k).2 hk, (hsetting k).2 hbinds, (halone k).2 hfree⟩).trans hasked
      · exact (State.answered_unopened_cut hx hcut hunopened).2 fun k _ hk hbinds hfree =>
          hheld k ((hcloses k).1 hk) ((hsetting k).1 hbinds) ((halone k).1 hfree)
  · intro b start stands
    exact (hbreaker k).trans (if_congr Iff.rfl rfl (if_congr (not_congr hoperate) rfl rfl))

end Sys2Proof.Machine
end

section
/-! SUPPORT. Rounding half away from zero, the decay of a residue and the bounds of a wave (R71 to R78). -/

namespace Sys2Proof.Machine

/-! ## Rounding half away from zero -/

/-- Rounding goes by the magnitude, and the sign is kept. -/
theorem natAbs_roundDiv (n : Int) (d : Nat) : (roundDiv n d).natAbs = (2 * n.natAbs + d) / (2 * d) := by
  unfold roundDiv
  split
  · rename_i h
    obtain ⟨m, rfl⟩ := Int.eq_ofNat_of_zero_le h
    exact (Int.natAbs_natCast _).symm ▸ rfl
  · rename_i h
    obtain ⟨m, hm⟩ := Int.eq_ofNat_of_zero_le (show 0 ≤ -n by omega)
    obtain rfl : n = -(m : Int) := by omega
    simp only [Int.neg_neg, Int.natAbs_neg]
    exact Int.natAbs_natCast _

theorem roundDiv_nonneg {n : Int} (h : 0 ≤ n) (d : Nat) : 0 ≤ roundDiv n d := by
  rw [roundDiv, if_pos h]
  exact Int.ediv_nonneg (by omega) (by omega)

theorem roundDiv_nonpos {n : Int} (h : n ≤ 0) (d : Nat) : roundDiv n d ≤ 0 := by
  unfold roundDiv
  split
  · obtain rfl : n = 0 := by omega
    rcases Nat.eq_zero_or_pos d with rfl | hd
    · simp
    · rw [Int.ediv_eq_zero_of_lt (by omega) (by omega)]
  · exact Int.neg_nonpos_of_nonneg (Int.ediv_nonneg (by omega) (by omega))

theorem natAbs_roundDiv_le {n : Int} {d b : Nat} (hd : 0 < d) (h : n.natAbs ≤ b * d) : (roundDiv n d).natAbs ≤ b := by
  rw [natAbs_roundDiv, ← Nat.lt_succ_iff, Nat.div_lt_iff_lt_mul (by omega)]
  calc 2 * n.natAbs + d ≤ 2 * (b * d) + d := by omega
    _ < b.succ * (2 * d) := by rw [Nat.succ_mul b (2 * d), Nat.mul_left_comm b 2 d]; omega

theorem roundDiv_eq_zero {n : Int} {d : Nat} (hd : 0 < d) : roundDiv n d = 0 ↔ 2 * n.natAbs < d := by
  rw [← Int.natAbs_eq_zero, natAbs_roundDiv, Nat.div_eq_zero_iff]
  omega

/-- A multiple of the divisor needs no rounding. -/
theorem roundDiv_mul {d : Nat} (hd : 0 < d) (x : Int) : roundDiv (d * x) d = x := by
  have habs : (roundDiv (d * x) d).natAbs = x.natAbs := by
    rw [natAbs_roundDiv, Int.natAbs_mul, Int.natAbs_natCast, Nat.add_comm, ← Nat.mul_assoc, Nat.add_mul_div_left _ _ (by omega),
      Nat.div_eq_of_lt (by omega), Nat.zero_add]
  rcases le_total 0 x with h | h
  · have := roundDiv_nonneg (n := d * x) (by positivity) d
    omega
  · have := roundDiv_nonpos (n := d * x) (Int.mul_nonpos_of_nonneg_of_nonpos (by omega) h) d
    omega

/-! ## The decay of a residue (R75) -/

/-- The decay coefficient of every time constant of 1 ms or more (R75). -/
theorem decayCoefficient_range {tau : Nat} (h : 1 ≤ tau) : 0 ≤ decayCoefficient tau ∧ decayCoefficient tau ≤ 3277 := by
  have habs : (decayCoefficient tau).natAbs ≤ 3277 := natAbs_roundDiv_le (by omega) (by omega)
  have hnonneg := roundDiv_nonneg (n := 3276800) (by decide) (tau * 1000)
  rw [← decayCoefficient] at hnonneg
  omega

section
variable {d c : Int}

theorem decay_of_small (h : (d * c).natAbs < 32768) : decay d c = 0 :=
  if_pos ((roundDiv_eq_zero (by decide)).2 (by omega))

theorem decay_of_large (h : 32768 ≤ (d * c).natAbs) : decay d c = d - roundDiv (d * c) 65536 :=
  if_neg fun h0 => by have := (roundDiv_eq_zero (by decide)).1 h0; omega

/-- The decrement is no larger than the residue and has its sign, for a coefficient of at most 1. -/
theorem roundDiv_decrement (hc : 0 ≤ c) (hle : c ≤ 65536) :
    (0 ≤ d → 0 ≤ roundDiv (d * c) 65536 ∧ roundDiv (d * c) 65536 ≤ d) ∧
      (d ≤ 0 → d ≤ roundDiv (d * c) 65536 ∧ roundDiv (d * c) 65536 ≤ 0) := by
  have habs : (roundDiv (d * c) 65536).natAbs ≤ d.natAbs :=
    natAbs_roundDiv_le (by decide) (by rw [Int.natAbs_mul]; exact Nat.mul_le_mul_left _ (by omega))
  refine ⟨fun h => ?_, fun h => ?_⟩
  · have := roundDiv_nonneg (Int.mul_nonneg h hc) 65536
    omega
  · have := roundDiv_nonpos (Int.mul_nonpos_of_nonpos_of_nonneg h hc) 65536
    omega

theorem decay_of_pos (hc : 0 ≤ c) (hle : c ≤ 65536) (h : 0 < d) : 0 ≤ decay d c ∧ decay d c < d := by
  have hdec := (roundDiv_decrement hc hle).1 h.le
  unfold decay
  split <;> omega

theorem decay_of_neg (hc : 0 ≤ c) (hle : c ≤ 65536) (h : d < 0) : d < decay d c ∧ decay d c ≤ 0 := by
  have hdec := (roundDiv_decrement hc hle).2 h.le
  unfold decay
  split <;> omega

@[simp] theorem decay_zero : decay 0 c = 0 := decay_of_small (by simp)

/-- A residue that is not 0 comes nearer to 0 at every tick (R75). -/
theorem natAbs_decay_lt (hc : 0 ≤ c) (hle : c ≤ 65536) (h : d ≠ 0) : (decay d c).natAbs < d.natAbs := by
  rcases lt_or_gt_of_ne h with h | h
  · have := decay_of_neg hc hle h
    omega
  · have := decay_of_pos hc hle h
    omega

theorem natAbs_decay_le (hc : 0 ≤ c) (hle : c ≤ 65536) : (decay d c).natAbs ≤ d.natAbs := by
  by_cases h : d = 0
  · subst h; simp
  · exact (natAbs_decay_lt hc hle h).le

end

/-- A residue reaches 0 after a finite number of ticks (R75). -/
theorem exists_decay_iterate_eq_zero {c : Int} (hc : 0 ≤ c) (hle : c ≤ 65536) (d : Int) :
    ∃ n : Nat, (fun x => decay x c)^[n] d = 0 := by
  induction hd : d.natAbs using Nat.strong_induction_on generalizing d with
  | _ k ih =>
    by_cases h : d = 0
    · exact ⟨0, h⟩
    · obtain ⟨n, hn⟩ := ih _ (hd ▸ natAbs_decay_lt hc hle h) (decay d c) rfl
      exact ⟨n + 1, hn⟩

/-- Settles O43: the decrement has the residue's sign and is no larger than it, so the magnitude falls until it is 0. -/
theorem residuesDecayToZero : Obligations.ResiduesDecayToZero := by
  intro tau d hlow htau c
  have hc : c = decayCoefficient tau := rfl
  obtain ⟨hnonneg, hle⟩ := decayCoefficient_range hlow
  rw [← hc] at hnonneg hle
  refine ⟨fun x hx => ?_, decay_of_small, decay_of_large, decay_of_pos hnonneg (by omega), decay_of_neg hnonneg (by omega),
    exists_decay_iterate_eq_zero hnonneg (by omega) d⟩
  rw [decayed, hx, if_neg (by omega), hc]

end Sys2Proof.Machine
end

section
/-! SUPPORT. The sine table and the value of a lane (R71 to R74, R77, R78): a wave without a residue stays within its full scale. -/

namespace Sys2Proof.Machine

/-! ## The sine table (R71) -/

theorem sineQuarter_le (k : Nat) : sineQuarter k ≤ 32767 := by
  have hrows : ∀ row ∈ sineRows, ∀ x ∈ row, x ≤ 32767 := by decide +kernel
  have hempty : ∀ x ∈ ([] : List Nat), x ≤ 32767 := by simp
  have hrow : ∀ x ∈ sineRows.getD (k / 64) [], x ≤ 32767 := by
    rw [List.getD_eq_getElem?_getD]
    cases h : sineRows[k / 64]? with
    | none => exact hempty
    | some row => exact hrows row (List.mem_of_getElem? h)
  rw [sineQuarter, List.getD_eq_getElem?_getD]
  cases h : (sineRows.getD (k / 64) [])[k % 64]? with
  | none => simp
  | some x => exact hrow x (List.mem_of_getElem? h)

theorem natAbs_sine_le (k : Nat) : (sine k).natAbs ≤ 32767 := by
  have h₁ := sineQuarter_le k
  have h₂ := sineQuarter_le (2048 - k)
  have h₃ := sineQuarter_le (k - 2048)
  have h₄ := sineQuarter_le (4096 - k)
  unfold sine
  repeat' split
  all_goals omega

theorem sine_first {k : Nat} (h : k ≤ 1024) : sine k = sineQuarter k := if_pos h

theorem sine_second {k : Nat} (hlow : 1024 ≤ k) (hhigh : k ≤ 2048) : sine k = sineQuarter (2048 - k) := by
  rcases hlow.eq_or_lt with rfl | hlow
  · rfl
  · rw [sine, if_neg (by omega), if_pos hhigh]

theorem sine_third {k : Nat} (hlow : 2048 ≤ k) (hhigh : k ≤ 3072) : sine k = -sineQuarter (k - 2048) := by
  rcases hlow.eq_or_lt with rfl | hlow
  · decide +kernel
  · rw [sine, if_neg (by omega), if_neg (by omega), if_pos hhigh]

theorem sine_fourth {k : Nat} (hlow : 3072 ≤ k) : sine k = -sineQuarter (4096 - k) := by
  rcases hlow.eq_or_lt with rfl | hlow
  · rfl
  · rw [sine, if_neg (by omega), if_neg (by omega), if_neg (by omega)]

/-- The second half wave is the first one reflected, with its sign changed (R71). -/
theorem sine_reflect {k : Nat} (h : k ≤ 4096) : sine (4096 - k) = -sine k := by
  have hhalf : ∀ n ≤ 2048, sine (4096 - n) = -sine n := by
    intro n hn
    rcases le_total n 1024 with hq | hq
    · rw [sine_fourth (by omega), sine_first hq, Nat.sub_sub_self (by omega)]
    · rw [sine_third (by omega) (by omega), sine_second hq hn, show 4096 - n - 2048 = 2048 - n by omega]
  rcases le_total k 2048 with hk | hk
  · exact hhalf k hk
  · have := hhalf (4096 - k) (by omega)
    rw [Nat.sub_sub_self h] at this
    omega

/-! ## The value of a lane (R72, R73) -/

/-- The maximum rms and the full scale of a lane, by its kind (the lane table of the manual). -/
theorem laneMax_eq (i : Fin 12) : (Config.laneMax i : Int) = if i.val < 6 then 32000 else 30000 := by
  simp only [Config.laneMax, Config.isCurrentLane, decide_eq_true_eq]
  split <;> rfl

theorem fullScale_eq (i : Fin 12) : Config.fullScale i = if i.val < 6 then 45255 else 42426 := by
  simp only [Config.fullScale, Config.isCurrentLane, decide_eq_true_eq]

theorem fullScale_pos (i : Fin 12) : 0 < Config.fullScale i := by
  rw [fullScale_eq]
  split <;> decide

theorem clampInt_eq {lo hi : Int} (h : lo ≤ hi) (x : Int) : clampInt lo hi x = max lo (min hi x) := by
  unfold clampInt
  split_ifs <;> omega

theorem effectiveRms_eq (i : Fin 12) (rms step : Nat) (count : Int) :
    effectiveRms i rms step count = max 0 (min (if i.val < 6 then 32000 else 30000) (rms + count * step)) := by
  rw [effectiveRms, magnitudeSum, clampInt_eq (by omega), laneMax_eq]

theorem sineOf_bound (p : Phase) : (sineOf p).natAbs ≤ 32767 := natAbs_sine_le _

/-- A value of at most `b` times the table's largest entry stays within `b` (R73). -/
theorem natAbs_wave_le {e : Int} {b : Nat} (h : e.natAbs ≤ b) (p : Phase) : (roundDiv (e * sineOf p) 32767).natAbs ≤ b :=
  natAbs_roundDiv_le (by decide) (by rw [Int.natAbs_mul]; exact Nat.mul_le_mul h (sineOf_bound p))

/-- The peak of the largest rms is the full scale (R72, R73, R78). -/
theorem natAbs_peak_le (i : Fin 12) (rms step : Nat) (count : Int) :
    (effectiveRms i rms step count).natAbs ≤ Config.fullScale i ∧
      (peak (effectiveRms i rms step count)).natAbs ≤ Config.fullScale i := by
  rw [peak, natAbs_roundDiv, fullScale_eq, effectiveRms_eq]
  split <;> omega

theorem acValue_bound (i : Fin 12) (x : LaneSetting) (rms step : Nat) (count : Int) (accum : Phase) :
    (acValue x (effectiveRms i rms step count) accum).natAbs ≤ Config.fullScale i := by
  obtain ⟨hrms, hpeak⟩ := natAbs_peak_le i rms step count
  unfold acValue
  split
  · exact natAbs_wave_le hrms _
  · exact natAbs_wave_le hpeak _

/-! ## Codes and clips (R78) -/

/-- The clamp on a code acts exactly on a value beyond the full scale (R78). -/
theorem clips_iff (i : Fin 12) (v : Int) : clips i v = true ↔ Config.fullScale i < v.natAbs := by
  have habs := natAbs_roundDiv (v * 32767) (Config.fullScale i)
  have hpos : 0 ≤ v → 0 ≤ roundDiv (v * 32767) (Config.fullScale i) := fun h => roundDiv_nonneg (by omega) _
  have hneg : v ≤ 0 → roundDiv (v * 32767) (Config.fullScale i) ≤ 0 := fun h => roundDiv_nonpos (by omega) _
  have hscale := fullScale_eq i
  rw [clips, rawCode, Config.maxCode, ← Bool.decide_or, decide_eq_true_iff]
  generalize roundDiv (v * 32767) (Config.fullScale i) = q at *
  generalize Config.fullScale i = fs at *
  split at hscale <;> subst hscale <;> omega

/-! ## The residue of an entry (R74) -/

/-- Within twice the full scale an entry's residue makes up for the whole step of the value (R74). -/
theorem entryResidue_makesUp {i : Fin 12} {x : LaneSetting} {old new : Int} (htau : x.tau ≠ 0)
    (h : (old - new).natAbs ≤ 2 * Config.fullScale i) : new + roundDiv (entryResidue i x old new) 65536 = old := by
  have hresidue : entryResidue i x old new = (65536 : Nat) * (old - new) := by
    rw [entryResidue, if_neg htau, clampInt_eq (by omega)]
    omega
  rw [hresidue, roundDiv_mul (by decide)]
  omega

/-- Settles O44: the largest peak is the full scale, so that no value of a wave alone reaches the clamp. -/
theorem wavesStayWithinFullScale : Obligations.WavesStayWithinFullScale := by
  refine ⟨⟨by decide +kernel, by decide +kernel, by decide +kernel, by decide +kernel, fun k => natAbs_sine_le _,
    fun k _ => sine_reflect (by omega)⟩, fun i x rms step count accum => ?_, fun i x old new => entryResidue_makesUp⟩
  have hbound := acValue_bound i x rms step count accum
  rw [← fullScale_eq]
  exact ⟨hbound, Bool.eq_false_iff.2 fun h => absurd ((clips_iff i _).1 h) (by omega)⟩

end Sys2Proof.Machine
end

section
/-! SUPPORT. STEP and ADJUST, case by case (R54, R81, R82). -/

namespace Sys2Proof.Machine

section
variable {l : Link} {s : State} {sh : Shot} {run : Run}

theorem not_isPanelStep_iff {es : List Exit} : (!es.any Exit.isPanelStep) = true ↔ ∀ e ∈ es, e.kind ≠ .panelStep := by
  simp [Exit.isPanelStep]

/-- A STEP on the Panel link needs a RUNNING shot outside DEFERRING with a PANEL_STEP exit in the state in force (R54). -/
theorem panelStep_of_running (he : s.engine = .running sh run) : panelStep .panel s =
    if run.deferral ≠ none ∨ ∀ e ∈ (s.entry run.inForce).exits, e.kind ≠ .panelStep then .error .noStepExit
    else .ok ({ s with engine := .running sh { run with stepLatch := true } }, .stepped run.visit run.inForce) := by
  simp only [panelStep, he, not_isPanelStep_iff, ne_eq, not_true_eq_false, if_false]

theorem panelStep_of_resting (he : s.engine.isRunning = false) : panelStep .panel s = .error .noShot := by
  unfold panelStep
  cases h : s.engine with
  | running sh run => rw [h] at he; cases he
  | _ => rfl

/-- The count, the saturation and the effective rms that an ADJUST gives (R72, R82). -/
theorem State.adjustLane_eq (s : State) (sh : Shot) (run : Run) (i : Fin 12) (delta : Int) :
    let x := s.synth.lanes[i]
    let count := max (-4095) (min 4095 (x.adjust + delta))
    let sum : Int := ((s.entry run.inForce).lanes[i]).rms + count * (s.profile sh.req.profile).steps[i]
    let e := max 0 (min (if i.val < 6 then 32000 else 30000) sum)
    s.adjustLane sh run i delta =
      ({ s with synth := { s.synth with lanes := s.synth.lanes.set i { x with adjust := count } } },
       .adjusted i count (decide (count ≠ x.adjust + delta)) e.toNat (decide (e ≠ sum)) run.visit) := by
  intro x count sum e
  have hcount : adjustCount x.adjust delta = count := clampInt_eq (by decide) _
  have he : clampInt 0 (Config.laneMax i) (magnitudeSum ((s.entry run.inForce).lanes[i]).rms (s.stepSize sh i) count) = e :=
    effectiveRms_eq i _ _ _
  simp only [State.adjustLane]
  rw [hcount, he]
  rfl

/-- An ADJUST on the Panel link past the lane and the delta (R81). -/
theorem adjust_of_running {lane delta : Byte} {i : Fin 12} (hi : index? 12 lane.toNat = some i)
    (hdelta : ¬(100 < delta.toInt ∨ delta.toInt < -100)) (he : s.engine = .running sh run) : adjust .panel lane delta s =
    if sh.req.adjust = false then .error .notPermitted
    else if has sh.req.laneUse i = false then .error .notInMask
    else if (s.profile sh.req.profile).steps[i] = 0 then .error .notAdjustable
    else .ok (s.adjustLane sh run i delta.toInt) := by
  rw [adjust, if_neg (not_not.2 rfl), hi, Config.maxDelta]
  dsimp only
  rw [if_neg hdelta, he]
  simp only [Bool.not_eq_true', State.stepSize]
  rfl

theorem adjust_of_resting {lane delta : Byte} {i : Fin 12} (hi : index? 12 lane.toNat = some i)
    (hdelta : ¬(100 < delta.toInt ∨ delta.toInt < -100)) (he : s.engine.isRunning = false) :
    adjust .panel lane delta s = .error .noShot := by
  rw [adjust, if_neg (not_not.2 rfl), hi, Config.maxDelta]
  dsimp only
  rw [if_neg hdelta]
  cases h : s.engine with
  | running sh run => rw [h] at he; cases he
  | _ => rfl

end

theorem exec_panelStep (l : Link) (tag : Byte) (s : State) :
    exec (.panelStep l tag) s = .next (respond l .step tag s (panelStep l s)) := rfl

theorem exec_adjust (l : Link) (tag lane delta : Byte) (s : State) :
    exec (.adjust l tag lane delta) s = .next (respond l .adjust tag s (adjust l lane delta s)) := rfl

/-- Settles O31: each outcome of the checks of STEP and ADJUST in their order. -/
theorem panelStepAndAdjust : Obligations.PanelStepAndAdjust := by
  refine ⟨fun l tag s => ?_, fun l tag lane delta s => ?_⟩
  · dsimp only
    rw [exec_panelStep]
    by_cases hl : l = .panel
    · subst hl
      rw [if_neg (not_not.2 rfl)]
      cases he : s.engine with
      | running sh run =>
        rw [panelStep_of_running he]
        dsimp only
        split_ifs <;> rfl
      | _ => rw [panelStep_of_resting (by rw [he]; rfl)]; rfl
    · rw [if_pos hl, panelStep, if_pos hl, respond_error]
  · dsimp only
    rw [exec_adjust]
    by_cases hl : l = .panel
    · subst hl
      rw [if_neg (not_not.2 rfl)]
      by_cases hlane : lane.toNat < 12
      · have hi := index?_of_lt hlane
        rw [dif_pos hlane]
        by_cases hdelta : 100 < delta.toInt ∨ delta.toInt < -100
        · rw [if_pos hdelta, adjust, if_neg (not_not.2 rfl), hi, Config.maxDelta]
          dsimp only
          rw [if_pos hdelta, respond_error]
          rfl
        · rw [if_neg hdelta]
          cases he : s.engine with
          | running sh run =>
            rw [adjust_of_running hi hdelta he, State.adjustLane_eq]
            dsimp only
            split_ifs
            · rfl
            · rfl
            · rfl
            all_goals rw [← he]; rfl
          | _ => rw [adjust_of_resting hi hdelta (by rw [he]; rfl)]; rfl
      · rw [dif_neg hlane, adjust, if_neg (not_not.2 rfl), index?_of_le (Nat.not_lt.1 hlane)]
        rfl
    · rw [if_pos hl, adjust, if_pos hl, respond_error]

end Sys2Proof.Machine
end

section
/-! SUPPORT. What SAMPLE_TICK makes of each lane while the shot plays on (R68 to R73, R75 to R80, R111). -/

namespace Sys2Proof.Machine

/-! ## One lane at a tick -/

section
variable (s : State) (sh : Shot) (run : Run) (i : Fin 12)

/-- The value of a lane in the state in force after this tick's decay, the cut state apart (R73, R75, R77). -/
def State.playedValue : Int :=
  if s.sup.inhibit = true then 0
  else s.laneAc sh run.inForce i + roundDiv (decayed ((s.entry run.inForce).lanes[i]) (s.synth.lanes[i]).residue) 65536

/-- A lane is CUT from this tick on: it is already, or the test of a CUTTING lane makes it so (R80, R111). -/
def State.goneAt : Bool :=
  match (s.synth.lanes[i]).cut with
  | .live => false
  | .cutting b n => crossesZero (s.synth.lanes[i]).prev (s.playedValue sh run i) || decide ((s.breakers[b]).setting.cutLimit ≤ n + 1)
  | .cut => true

/-- A lane after a tick that has set no residue of it (R67, R75, R111). -/
def State.playedLane : SynthLane :=
  let x := s.synth.lanes[i]
  let gone := s.goneAt sh run i
  { x with
    accum := x.accum + phaseIncrement ((s.entry run.inForce).lanes[i]).freq
    residue := if gone then 0 else decayed ((s.entry run.inForce).lanes[i]) x.residue
    cut := if gone then .cut else match x.cut with
      | .cutting b n => .cutting b (n + 1)
      | c => c
    prev := if gone then 0 else s.playedValue sh run i }

theorem State.laneTick_played (hset : has s.tick.residueSet i = false) :
    s.laneTick sh run i =
      { lane := s.playedLane sh run i, code := laneCode i (s.playedLane sh run i).prev,
        commanded := commandedValue i (s.playedLane sh run i).prev,
        heatIn := if s.goneAt sh run i = true ∨ s.sup.inhibit = true then 0 else (s.laneRms sh run.inForce i).toNat,
        clip := clips i (s.playedLane sh run i).prev } := by
  cases hcut : (s.synth.lanes[i]).cut with
  | live =>
    simp only [State.laneTick, State.playedLane, State.goneAt, State.playedValue, State.cutByValue, State.cutByLimit,
      State.laneValue, State.laneResidue, SynthLane.tested, hcut, hset]
    simp
  | cut =>
    simp only [State.laneTick, State.playedLane, State.goneAt, State.cutByValue, State.cutByLimit, State.laneValue,
      State.laneResidue, SynthLane.tested, hcut]
    simp
  | cutting b n =>
    have hvalue : s.laneValue sh run i = s.playedValue sh run i := by
      simp only [State.laneValue, State.playedValue, State.laneResidue, hcut, hset]
      simp
    have hresidue : s.laneResidue run i = decayed ((s.entry run.inForce).lanes[i]) (s.synth.lanes[i]).residue := by
      simp only [State.laneResidue, hcut, hset]
      simp
    have hgone : (s.cutByValue sh run i || s.cutByLimit i) = s.goneAt sh run i := by
      simp only [State.cutByValue, State.cutByLimit, State.goneAt, hcut, hvalue]
    simp only [State.laneTick, State.playedLane, hgone, hvalue, hresidue]
    simp only [SynthLane.makeCut, SynthLane.tested, hcut]
    cases s.goneAt sh run i <;> simp

end

/-! ## The forms in which the manual gives them -/

/-- The value of a lane in a state, written out (R69 to R73). -/
theorem State.laneAc_eq (s : State) (sh : Shot) (n : Fin 64) (i : Fin 12) :
    let x := s.synth.lanes[i]
    let set := (s.entry n).lanes[i]
    let e := s.laneRms sh n i
    let k := (x.accum + angleOffset set.angle).toNat / 1048576
    s.laneAc sh n i = if set.freq = 0 then roundDiv (e * sine k) 32767
      else roundDiv (roundDiv (e * 46341) 32768 * sine k) 32767 := by
  simp only [State.laneAc, acValue, peak, sineOf]
  split <;> rfl

theorem laneCode_eq (i : Fin 12) (v : Int) :
    laneCode i v = max (-32767) (min 32767 (roundDiv (v * 32767) (Config.fullScale i))) := clampInt_eq (by decide) _

theorem crossesZero_eq (prev v : Int) :
    crossesZero prev v = decide (v = 0 ∨ (0 < prev ∧ v < 0) ∨ (prev < 0 ∧ 0 < v)) := by
  simp only [crossesZero, Bool.decide_or, Bool.decide_and, Bool.or_assoc]

/-! ## The frame of a tick -/

section
variable (s : State) (sh : Shot) (run : Run) {i : Fin 12}

/-- What a lane gives at a tick is what goes out (R79). -/
theorem State.playLanes_out (i : Fin 12) :
    (s.playLanes sh run).synth.codes[i] = ((s.reenergiseDue sh run).laneTick sh run i).code ∧
      (s.playLanes sh run).synth.commanded[i] = ((s.reenergiseDue sh run).laneTick sh run i).commanded ∧
      ∀ j : Fin 6, currentLane j = i →
        (s.playLanes sh run).synth.heatIn[j] = ((s.reenergiseDue sh run).laneTick sh run i).heatIn := by
  refine ⟨by simp [State.playLanes], by simp [State.playLanes], fun j hj => ?_⟩
  subst hj
  simp [State.playLanes]

/-- A tick acts on a lane without a re-energising request as if no lane had one (R112). -/
theorem State.reenergiseDue_played (h : (s.synth.lanes[i]).reenergise = none) :
    (s.reenergiseDue sh run).playedLane sh run i = s.playedLane sh run i ∧
      (s.reenergiseDue sh run).goneAt sh run i = s.goneAt sh run i ∧
      (s.reenergiseDue sh run).laneRms sh run.inForce i = s.laneRms sh run.inForce i := by
  obtain ⟨hlane, -⟩ := s.reenergiseDue_lane sh run h
  have hrms : (s.reenergiseDue sh run).laneRms sh run.inForce i = s.laneRms sh run.inForce i := by
    simp only [State.laneRms, State.stepSize, State.profile, State.entry, State.reenergiseDue_keeps, hlane]
  have hvalue : (s.reenergiseDue sh run).playedValue sh run i = s.playedValue sh run i := by
    simp only [State.playedValue, State.laneAc, hrms, State.entry, State.reenergiseDue_keeps, hlane]
  have hgone : (s.reenergiseDue sh run).goneAt sh run i = s.goneAt sh run i := by
    simp only [State.goneAt, hvalue, State.reenergiseDue_keeps, hlane]
  refine ⟨?_, hgone, hrms⟩
  simp only [State.playedLane, hgone, hvalue, State.entry, State.reenergiseDue_keeps, hlane]

/-- A lane without a re-energising request at a tick that has set no residue of it. -/
theorem State.playLanes_played (h : (s.synth.lanes[i]).reenergise = none) (hset : has s.tick.residueSet i = false) :
    (s.playLanes sh run).synth.lanes[i] = s.playedLane sh run i ∧
      (s.playLanes sh run).synth.codes[i] = laneCode i (s.playedLane sh run i).prev ∧
      (s.playLanes sh run).synth.commanded[i] = commandedValue i (s.playedLane sh run i).prev ∧
      ∀ j : Fin 6, currentLane j = i → (s.playLanes sh run).synth.heatIn[j] =
        if s.goneAt sh run i = true ∨ s.sup.inhibit = true then 0 else (s.laneRms sh run.inForce i).toNat := by
  obtain ⟨hplayed, hgone, hrms⟩ := s.reenergiseDue_played sh run h
  obtain ⟨hcode, hcommanded, hheat⟩ := s.playLanes_out sh run i
  have hset' : has (s.reenergiseDue sh run).tick.residueSet i = false := (s.reenergiseDue_lane sh run h).2.trans hset
  have hsup : (s.reenergiseDue sh run).sup = s.sup := by simp
  have htick := (s.reenergiseDue sh run).laneTick_played sh run i hset'
  rw [hplayed, hgone, hrms, hsup] at htick
  rw [s.playLanes_lane sh run i, hcode, hcommanded, htick]
  exact ⟨rfl, rfl, rfl, fun j hj => (hheat j hj).trans (congrArg LaneTick.heatIn htick)⟩

end

/-! ## A tick at which the shot plays on -/

/-- What a lane plays goes by the tables, the Synthesizer, the simulators, INHIBIT and the state in force. -/
theorem State.played_congr {s t : State} {run run' : Run} (sh : Shot) (i : Fin 12) (htables : t.tables = s.tables)
    (hsynth : t.synth = s.synth) (hbreakers : t.breakers = s.breakers) (hinhibit : t.sup.inhibit = s.sup.inhibit)
    (hin : run'.inForce = run.inForce) : t.playedLane sh run' i = s.playedLane sh run i ∧
      t.goneAt sh run' i = s.goneAt sh run i ∧ t.laneRms sh run'.inForce i = s.laneRms sh run.inForce i := by
  have hrms : t.laneRms sh run'.inForce i = s.laneRms sh run.inForce i := by
    simp only [State.laneRms, State.stepSize, State.profile, State.entry, htables, hsynth, hin]
  have hvalue : t.playedValue sh run' i = s.playedValue sh run i := by
    simp only [State.playedValue, State.laneAc, hin ▸ hrms, State.entry, htables, hsynth, hinhibit, hin]
  have hgone : t.goneAt sh run' i = s.goneAt sh run i := by
    simp only [State.goneAt, hvalue, hsynth, hbreakers]
  refine ⟨?_, hgone, hrms⟩
  simp only [State.playedLane, hgone, hvalue, State.entry, htables, hsynth, hin]

theorem State.openTick_residueSet (s : State) : s.openTick.tick.residueSet = s.tick.residueSet := by
  unfold State.openTick
  split <;> simp

end Sys2Proof.Machine
end

section
/-! SUPPORT. The supervision of a tick in every engine state (R118, R122 to R125): what the comparison makes of each lane, the accounts
after the heat update, and the ends the two request. -/

namespace Sys2Proof.Machine

/-! ## The comparison of one lane (R122, R123) -/

/-- What the comparison of a tick makes of lane `i` (R122, R123). -/
def State.judgedLane (s : State) (i : Fin 12) : SupLane :=
  if s.toCompare i = true then
    { s.sup.lanes[i] with
      missRun := s.missRunNext i
      condition := if s.deviates i = true then (s.sup.lanes[i]).condition.onDeviation else (s.sup.lanes[i]).condition }
  else s.sup.lanes[i]

/-- A lane's deviation fault raises LANE_FAULT: the lane is READY until then (R118, R123). -/
def State.raisesAt (s : State) (i : Fin 12) : Bool := s.deviates i && decide ((s.sup.lanes[i]).condition = .ready)

/-- Two states whose comparisons of lane `i` read the same. -/
def State.SameJudgement (s t : State) (i : Fin 12) : Prop :=
  t.engine.shot? = s.engine.shot? ∧ t.synth.commanded[i] = s.synth.commanded[i] ∧ t.sup.lanes[i] = s.sup.lanes[i] ∧
    has t.tick.compared i = has s.tick.compared i ∧ t.tick.frame = s.tick.frame ∧ t.tick.previous = s.tick.previous

/-- Only a READY lane changes its condition at a deviation fault (R118). -/
theorem Condition.onDeviation_eq (c : Condition) : c.onDeviation = if c = .ready then .deviation else c := by cases c <;> rfl

section
variable {s t : State} {i : Fin 12}

theorem State.SameJudgement.toCompare (h : s.SameJudgement t i) : t.toCompare i = s.toCompare i := by
  obtain ⟨hshot, -, hlane, hcompared, -, hprevious⟩ := h
  simp only [State.toCompare, State.comparedTick, State.supervised, hshot, hlane, hcompared, hprevious]

theorem State.SameJudgement.missRunNext (h : s.SameJudgement t i) : t.missRunNext i = s.missRunNext i := by
  obtain ⟨-, hcommanded, hlane, -, hframe, -⟩ := h
  have hmatches : t.matches i = s.matches i := by simp only [State.matches, hframe, hcommanded, hlane]
  simp only [State.missRunNext, hmatches, hlane]

theorem State.SameJudgement.deviates (h : s.SameJudgement t i) : t.deviates i = s.deviates i := by
  obtain ⟨-, -, hlane, -⟩ := id h
  simp only [State.deviates, h.toCompare, h.missRunNext, hlane]

theorem State.SameJudgement.judgedLane (h : s.SameJudgement t i) : t.judgedLane i = s.judgedLane i := by
  obtain ⟨-, -, hlane, -⟩ := id h
  simp only [State.judgedLane, h.toCompare, h.missRunNext, h.deviates, hlane]

theorem State.SameJudgement.raisesAt (h : s.SameJudgement t i) : t.raisesAt i = s.raisesAt i := by
  obtain ⟨-, -, hlane, -⟩ := id h
  simp only [State.raisesAt, h.deviates, hlane]

theorem State.toCompare_of_deviates (h : s.deviates i = true) : s.toCompare i = true := by
  simp only [State.deviates, Bool.and_eq_true] at h
  exact h.1.1

theorem State.judgedLane_of_deviates (h : s.deviates i = true) :
    s.judgedLane i = { s.sup.lanes[i] with
      missRun := (s.sup.lanes[i]).settings.missLimit
      condition := if (s.sup.lanes[i]).condition = .ready then .deviation else (s.sup.lanes[i]).condition } := by
  have hnext : s.missRunNext i = (s.sup.lanes[i]).settings.missLimit := by
    simp only [State.deviates, Bool.and_eq_true, beq_iff_eq] at h
    exact h.2
  rw [State.judgedLane, if_pos (State.toCompare_of_deviates h), if_pos h, hnext, Condition.onDeviation_eq]

theorem State.compareLane_of_compared (h : s.toCompare i = false) : s.compareLane i = s := by
  rw [State.compareLane, h]
  rfl

/-- What a comparison of a lane writes: the lane, its mark, and LANE_FAULT where it raises it. -/
theorem State.compareLane_eq (h : s.toCompare i = true) : s.compareLane i =
    let t : State := { s with
      sup := { s.sup with lanes := s.sup.lanes.set i (s.judgedLane i) }
      tick := { s.tick with compared := including s.tick.compared i } }
    if s.raisesAt i = true then t.raiseLaneFault else t := by
  simp only [State.compareLane, h, State.raisesAt, State.judgedLane, State.setCondition, State.setSup, Condition.onDeviation_eq,
    Fin.getElem_fin, Vector.getElem_set_self, Vector.set_set]
  cases s.deviates i with
  | false => simp
  | true => by_cases hc : (s.sup.lanes[i.val]).condition = .ready <;> simp [hc]

end

/-! ## The comparison of every lane -/

section
variable {s : State} {i j : Fin 12}

/-- LANE_FAULT stands on the Supervision link (R118, R179). -/
def State.laneFaultSet (s : State) : Bool := (s.link .supervision).notices.laneFault

@[simp] theorem State.raiseLaneFault_set (s : State) : s.raiseLaneFault.laneFaultSet = true := by
  simp [State.laneFaultSet, State.raiseLaneFault]

theorem State.compareLane_lane (s : State) (i j : Fin 12) :
    (s.compareLane j).sup.lanes[i] = if i = j then s.judgedLane j else s.sup.lanes[i] := by
  cases h : s.toCompare j with
  | false =>
    rw [State.compareLane_of_compared h, State.judgedLane, h]
    split
    · rename_i hij; subst hij; rfl
    · rfl
  | true =>
    have hset : (s.sup.lanes.set j (s.judgedLane j))[i] = if i = j then s.judgedLane j else s.sup.lanes[i] := by
      simp only [Fin.getElem_fin, Vector.getElem_set, Fin.ext_iff, eq_comm]
    rw [State.compareLane_eq h, ← hset]
    cases s.raisesAt j <;> rfl

theorem State.compareLane_judgement (hij : i ≠ j) : s.SameJudgement (s.compareLane j) i := by
  have hlane := s.compareLane_lane i j
  rw [if_neg hij] at hlane
  refine ⟨by simp, by simp, hlane, ?_, ?_, ?_⟩ <;> cases h : s.toCompare j
  case refine_1.false | refine_2.false | refine_3.false => rw [State.compareLane_of_compared h]
  all_goals rw [State.compareLane_eq h]; cases s.raisesAt j <;> simp [hij]

theorem State.compareLane_laneFault (s : State) (j : Fin 12) :
    (s.compareLane j).laneFaultSet = (s.laneFaultSet || s.raisesAt j) := by
  cases h : s.toCompare j with
  | false =>
    have hraises : s.raisesAt j = false := by simp [State.raisesAt, State.deviates, h]
    rw [State.compareLane_of_compared h, hraises, Bool.or_false]
  | true =>
    rw [State.compareLane_eq h]
    cases s.raisesAt j
    · exact (Bool.or_false _).symm
    · simp

theorem State.foldl_compareLane (ks : List (Fin 12)) (hks : ks.Nodup) (s : State) :
    (∀ i : Fin 12, (ks.foldl State.compareLane s).sup.lanes[i] = if i ∈ ks then s.judgedLane i else s.sup.lanes[i]) ∧
      (ks.foldl State.compareLane s).laneFaultSet = (s.laneFaultSet || ks.any s.raisesAt) := by
  induction ks generalizing s with
  | nil => simp
  | cons k ks ih =>
    obtain ⟨hk, hks⟩ := List.nodup_cons.1 hks
    obtain ⟨hlanes, hfault⟩ := ih hks (s.compareLane k)
    have hsame : ∀ i ∈ ks, s.SameJudgement (s.compareLane k) i := fun i hi =>
      State.compareLane_judgement fun h => hk (h ▸ hi)
    refine ⟨fun i => ?_, ?_⟩
    · rw [List.foldl_cons, hlanes, s.compareLane_lane]
      by_cases hi : i ∈ ks
      · rw [if_pos hi, if_pos (List.mem_cons_of_mem _ hi), (hsame i hi).judgedLane]
      · rw [if_neg hi]
        by_cases hik : i = k
        · subst hik; simp
        · rw [if_neg hik, if_neg (by simp [hi, hik])]
    · have hany : ks.any (s.compareLane k).raisesAt = ks.any s.raisesAt := by
        rw [Bool.eq_iff_iff, List.any_eq_true, List.any_eq_true]
        exact exists_congr fun i => and_congr_right fun hi => by rw [(hsame i hi).raisesAt]
      rw [List.foldl_cons, hfault, s.compareLane_laneFault, hany, List.any_cons, Bool.or_assoc]

/-- Every lane after the comparison of a tick (R122, R123). -/
theorem State.compareLanes_lane (s : State) (i : Fin 12) : s.compareLanes.sup.lanes[i] = s.judgedLane i :=
  ((State.foldl_compareLane _ (List.nodup_finRange 12) s).1 i).trans (if_pos (List.mem_finRange i))

theorem State.compareLanes_laneFault (s : State) :
    s.compareLanes.laneFaultSet = true ↔ s.laneFaultSet = true ∨ ∃ i, s.raisesAt i = true := by
  have h : s.compareLanes.laneFaultSet = (s.laneFaultSet || (List.finRange 12).any s.raisesAt) :=
    (State.foldl_compareLane _ (List.nodup_finRange 12) s).2
  rw [h, Bool.or_eq_true, List.any_eq_true]
  simp

/-- A tick is compared once (R122). -/
theorem State.toCompare_of_done {s : State} (h : s.tick.compared = BitVec.allOnes 12) (i : Fin 12) : s.toCompare i = false := by
  rw [State.toCompare, h, has_allOnes]
  simp

end

/-! ## The heat accounts (R124, R125) -/

/-- An account rises by the square of the heat input and falls by the square of the rating, and not below 0 (R124). -/
theorem heatNext_eq (account input rating : Nat) :
    (heatNext account input rating : Int) = max 0 ((account : Int) + (input : Int) ^ 2 - (rating : Int) ^ 2) := by
  unfold heatNext
  split
  · rename_i h
    have hsquare : rating * rating ≤ input * input := Nat.mul_self_le_mul_self h.le
    push_cast [hsquare]
    rw [sq, sq]
    omega
  · rename_i h
    have hsquare : input * input ≤ rating * rating := Nat.mul_self_le_mul_self (Nat.not_lt.1 h)
    rw [sq, sq]
    omega

/-- Two states whose heat updates read the same. -/
def State.SameHeat (s t : State) : Prop :=
  t.sup.heat = s.sup.heat ∧ t.synth.heatIn = s.synth.heatIn ∧
    (∀ i : Fin 12, (t.sup.lanes[i]).settings = (s.sup.lanes[i]).settings) ∧ t.tick.heat = s.tick.heat

section
variable {s t u : State}

theorem State.SameHeat.trans (h : s.SameHeat t) (g : t.SameHeat u) : s.SameHeat u := by
  obtain ⟨hheat, hin, hsettings, hdone⟩ := h
  obtain ⟨hheat', hin', hsettings', hdone'⟩ := g
  exact ⟨hheat'.trans hheat, hin'.trans hin, fun i => (hsettings' i).trans (hsettings i), hdone'.trans hdone⟩

theorem State.SameHeat.of_eq (hsup : t.sup = s.sup) (hin : t.synth.heatIn = s.synth.heatIn) (hdone : t.tick.heat = s.tick.heat) :
    s.SameHeat t := ⟨by rw [hsup], hin, fun i => by rw [hsup], hdone⟩

theorem State.SameHeat.heatAfter (h : s.SameHeat t) (i : Fin 6) : t.heatAfter i = s.heatAfter i := by
  obtain ⟨hheat, hin, hsettings, -⟩ := h
  simp only [State.heatAfter, hheat, hin, hsettings (currentLane i)]

theorem State.judgedLane_settings (s : State) (i : Fin 12) : (s.judgedLane i).settings = (s.sup.lanes[i]).settings := by
  unfold State.judgedLane
  split <;> rfl

theorem foldl_compareLane_heat (ks : List (Fin 12)) (s : State) :
    (ks.foldl State.compareLane s).sup.heat = s.sup.heat ∧ (ks.foldl State.compareLane s).tick.heat = s.tick.heat := by
  have hlane : ∀ (s : State) (i : Fin 12), (s.compareLane i).sup.heat = s.sup.heat ∧ (s.compareLane i).tick.heat = s.tick.heat := by
    intro s i
    cases h : s.toCompare i with
    | false => rw [State.compareLane_of_compared h]; exact ⟨rfl, rfl⟩
    | true =>
      rw [State.compareLane_eq h]
      cases s.raisesAt i <;> exact ⟨rfl, rfl⟩
  exact ⟨foldl_keeps (fun s => s.sup.heat) _ (fun s i => (hlane s i).1) ks s,
    foldl_keeps (fun s => s.tick.heat) _ (fun s i => (hlane s i).2) ks s⟩

/-- The comparison leaves what the heat update reads (R122, R124). -/
theorem State.compareLanes_sameHeat (s : State) : s.SameHeat s.compareLanes := by
  obtain ⟨hheat, hdone⟩ := foldl_compareLane_heat (List.finRange 12) s
  exact ⟨hheat, by simp, fun i => by rw [s.compareLanes_lane, s.judgedLane_settings], hdone⟩

end

/-! ## The supervision of a tick as a whole -/

section
variable (s : State)

theorem State.compareAll_supervision :
    s.compareAll.sup = s.compareLanes.sup ∧ s.compareAll.tick = s.compareLanes.tick := by
  unfold State.compareAll
  split <;> simp

theorem State.heatAll_supervision :
    s.heatAll.sup.lanes = s.sup.lanes ∧ s.heatAll.sup.inhibit = s.sup.inhibit ∧
      (s.tick.heat = true → s.heatAll.sup.heat = s.sup.heat) ∧
      (s.tick.heat = false → ∀ i : Fin 6, s.heatAll.sup.heat[i] = s.heatAfter i) := by
  have haccounts : ∀ i : Fin 6, s.heatAccounts.sup.heat[i] = s.heatAfter i := fun i => by simp [State.heatAccounts]
  unfold State.heatAll
  split
  · rename_i h
    simp [h]
  · rename_i h
    split
    · simp only [State.requestEnd_keeps]
      exact ⟨rfl, rfl, fun hdone => absurd hdone h, fun _ => haccounts⟩
    · exact ⟨rfl, rfl, fun hdone => absurd hdone h, fun _ => haccounts⟩

theorem State.compareAll_inhibit : s.compareAll.sup.inhibit = s.sup.inhibit := by
  rw [s.compareAll_supervision.1]
  simp

theorem State.compareAll_lane (i : Fin 12) : s.compareAll.sup.lanes[i] = s.judgedLane i := by
  rw [s.compareAll_supervision.1, s.compareLanes_lane]

theorem State.compareAll_sameHeat : s.SameHeat s.compareAll := by
  obtain ⟨hsup, htick⟩ := s.compareAll_supervision
  refine s.compareLanes_sameHeat.trans (.of_eq hsup (by simp) ?_)
  rw [htick]

end

/-! ## The ends that the supervision requests (R58, R123, R125) -/

/-- The pending end after an end is requested in RUNNING, if one is (R58). -/
def pendingAfter (p : Option EndReason) : Option EndReason → Option EndReason
  | none => p
  | some r => some (p.getD r)

/-- The end that the heat update of a tick requests (R125). -/
def State.heatEnd (s : State) : Option EndReason :=
  if s.tick.heat = true then none else s.heatAccounts.overheated.map fun i => .heat (currentLane i)

section
variable {s : State} {sh : Shot} {run : Run}

theorem State.compareAll_of_running (he : s.engine = .running sh run) : s.compareAll = { s.compareLanes with
    engine := .running sh { run with pendingEnd := pendingAfter run.pendingEnd (s.deviating.map .deviation) } } := by
  have hlanes : s.compareLanes.engine = .running sh run := by simpa using he
  unfold State.compareAll
  cases s.deviating with
  | none => exact (State.setEngine_self hlanes).symm
  | some i => exact State.requestEnd_of_running _ hlanes

theorem State.heatAll_of_running (he : s.engine = .running sh run) : s.heatAll =
    { (if s.tick.heat = true then s else s.heatAccounts) with
      engine := .running sh { run with pendingEnd := pendingAfter run.pendingEnd s.heatEnd } } := by
  have hheat : s.heatAccounts.engine = .running sh run := he
  unfold State.heatAll State.heatEnd
  split
  · exact (State.setEngine_self he).symm
  · cases s.heatAccounts.overheated with
    | none => exact (State.setEngine_self hheat).symm
    | some i => exact State.requestEnd_of_running _ hheat

/-- The supervision of a tick in RUNNING: of the engine it changes no more than the pending end. -/
theorem State.supervise_of_running (he : s.engine = .running sh run) :
    s.compareAll.heatAll.engine = .running sh { run with
      pendingEnd := pendingAfter (pendingAfter run.pendingEnd (s.deviating.map .deviation)) s.compareAll.heatEnd } ∧
      s.Supervises s.compareAll.heatAll := by
  have hcompare := State.compareAll_of_running he
  have hall := State.heatAll_of_running (s := s.compareAll) (sh := sh) (by rw [hcompare])
  refine ⟨by rw [hall], ?_⟩
  rw [hall, State.Supervises]
  split <;> simp [hcompare, State.heatAccounts]

end

theorem exec_sampleTick_of_due {s : State} (h : s.tickDue = true) :
    exec .sampleTick s = .next s.engineWork.compareAll.heatAll.closeTick.grantMoment :=
  congrArg _ (if_pos h)

/-- SAMPLE_TICK at a tick after whose engine work the shot is RUNNING: its supervision, and then the frame of the tick. -/
theorem exec_sampleTick_of_running {s : State} {sh : Shot} {run : Run} (hdue : s.tickDue = true)
    (he : s.engineWork.engine = .running sh run) : exec .sampleTick s = .next s.engineWork.compareAll.heatAll.closeTick := by
  rw [exec_sampleTick_of_due hdue, State.grantMoment_of_busy]
  simp [(State.supervise_of_running he).1]

end Sys2Proof.Machine
end

section
/-! SUPPORT. SAMPLE_TICK while the shot plays on, lane by lane (R68 to R73, R75 to R80, R111). -/

namespace Sys2Proof.Machine

section
variable {s : State} {sh : Shot} {run : Run}

/-- The engine's work at a tick at which the shot plays on: what waited is written, and no block changes (R51, R93, R113). -/
theorem State.engineWork_of_stay (he : s.engine = .running sh run) (hdue : s.tickDue = true) (hengine : s.tick.engine = false)
    (hstay : s.dueAction = .stay) (hmove : ∀ k, s.moveDue k = false) :
    s.engineWork.engine = .running sh { run with fresh := [] } ∧ s.engineWork.synth = s.synth ∧ s.KeepsUnits s.engineWork ∧
      s.engineWork.sup.inhibit = s.sup.inhibit ∧ s.engineWork.tick.residueSet = s.tick.residueSet := by
  have hwork := State.engineDue_iff.2 ⟨hdue, hengine⟩
  have hprep := State.prepare_of_noMove hmove
  have ha : s.openTick.action = .stay := (State.dueAction_eq hwork hprep).symm.trans hstay
  have heq : s.engineWork = s.openTick.settleTick := State.engineWork_eq hwork hprep ha
  have hopen : s.openTick.engine = .running sh run := by simpa using he
  rw [heq]
  refine ⟨State.settleTick_running hopen, by simp, by simp [State.KeepsUnits], by simp, ?_⟩
  rw [State.settleTick_tick]
  exact s.openTick_residueSet

/-- SAMPLE_TICK at such a tick plays each lane from the state that the tick found. -/
theorem exec_sampleTick_plays (he : s.engine = .running sh run) (hdue : s.tickDue = true) (hengine : s.tick.engine = false)
    (hstay : s.dueAction = .stay) (hmove : ∀ k, s.moveDue k = false) (hset : s.tick.residueSet = 0) :
    ∃ t, exec .sampleTick s = .next t ∧ s.KeepsUnits t ∧ t.tick.synth = true ∧
      ∀ i : Fin 12, (s.synth.lanes[i]).reenergise = none →
        t.synth.lanes[i] = s.playedLane sh run i ∧ t.synth.codes[i] = laneCode i (s.playedLane sh run i).prev ∧
        t.synth.commanded[i] = commandedValue i (s.playedLane sh run i).prev ∧
        ∀ j : Fin 6, currentLane j = i → t.synth.heatIn[j] =
          if s.goneAt sh run i = true ∨ s.sup.inhibit = true then 0 else (s.laneRms sh run.inForce i).toNat := by
  obtain ⟨hwengine, hwsynth, ⟨hwtables, hwqueue, hwbreakers, hwcontacts, hwclock⟩, hwinhibit, hwset⟩ :=
    State.engineWork_of_stay he hdue hengine hstay hmove
  obtain ⟨huengine, -, hutables, huqueue, husynth, -, hubreakers, -, huinhibit, huset⟩ :=
    State.supervise_of_running hwengine
  refine ⟨_, exec_sampleTick_of_running hdue hwengine, ?_, rfl, fun i hi => ?_⟩
  · simp [State.KeepsUnits, hutables, huqueue, hwtables, hwqueue, hwbreakers, hwcontacts]
  · generalize s.engineWork.compareAll.heatAll = u at *
    generalize hrun : ({ run with fresh := [], pendingEnd := _ } : Run) = run' at huengine
    have hin : run'.inForce = run.inForce := by rw [← hrun]
    have hsynth : u.synth = s.synth := husynth.trans hwsynth
    have hinhibit : u.sup.inhibit = s.sup.inhibit := huinhibit.trans hwinhibit
    obtain ⟨hplayed, hgone, hrms⟩ := State.played_congr sh i (hutables.trans hwtables) hsynth (hubreakers.trans hwbreakers) hinhibit hin
    have hclose : u.closeTick.synth = (u.playLanes sh run').synth := by
      show u.synthesise.synth = _
      rw [State.synthesise, huengine]
    have hnone : has u.tick.residueSet i = false := by
      rw [huset, hwset, hset]
      exact has_zero i
    rw [hclose, ← hplayed, ← hgone, ← hrms, ← hinhibit]
    exact u.playLanes_played sh run' (by rw [hsynth]; exact hi) hnone

end

/-- Settles O40: the frame of the tick, in the manual's forms. -/
theorem sampleTickPlaysTheLanes : Obligations.SampleTickPlaysTheLanes := by
  intro s sh run he hdue hengine hset hstay hmove
  obtain ⟨t, hexec, ⟨htables, hqueue, hbreakers, hcontacts, hclock⟩, hdone, hlanes⟩ :=
    exec_sampleTick_plays he hdue hengine hstay hmove hset
  refine ⟨t, hexec, fun i hi => ?_, htables, hqueue, hbreakers, hcontacts, hclock, hdone⟩
  obtain ⟨hlane, hcode, hcommanded, hheat⟩ := hlanes i hi
  intro x set top fs e k ac d live gone v
  have hscale : Config.fullScale i = fs := fullScale_eq i
  have hrms : s.laneRms sh run.inForce i = e := effectiveRms_eq i _ _ _
  have hac : s.laneAc sh run.inForce i = ac := by rw [s.laneAc_eq, hrms]
  have hlive : s.playedValue sh run i = live := by rw [State.playedValue, hac]; rfl
  have hgone : s.goneAt sh run i = gone := by
    simp only [State.goneAt, hlive, crossesZero_eq, gone]
    cases x.cut <;> simp only [Bool.decide_or, Bool.or_assoc] <;> rfl
  have hv : (s.playedLane sh run i).prev = v := by simp only [State.playedLane, hgone, hlive, v]
  rw [hv] at hcode hcommanded
  refine ⟨?_, ?_, ?_, fun j hj => ?_⟩
  · simp only [hlane, State.playedLane, hgone, hlive, SynthLane.mk.injEq]
    exact ⟨rfl, rfl, rfl, rfl, rfl, hi⟩
  · rw [hcode, laneCode_eq, hscale]
  · rw [hcommanded, commandedValue, rawCode, hscale, Config.maxCode]
  · rw [hheat j hj, hgone, hrms]

end Sys2Proof.Machine
end

section
/-! SUPPORT. SAMPLE_TICK in every engine state: what the engine's work at a tick leaves of what the comparison, the heat update and the
frame read (R68, R77, R79, R122, R124). -/

namespace Sys2Proof.Machine

/-! ## What went out at the previous tick (R79) -/

/-- The codes, commanded values and heat inputs of the previous tick stand. -/
def State.SameOut (s t : State) : Prop :=
  t.synth.codes = s.synth.codes ∧ t.synth.commanded = s.synth.commanded ∧ t.synth.heatIn = s.synth.heatIn

section
variable {s t u : State}

theorem State.SameOut.refl : s.SameOut s := ⟨rfl, rfl, rfl⟩

theorem State.SameOut.trans (h : s.SameOut t) (g : t.SameOut u) : s.SameOut u :=
  ⟨g.1.trans h.1, g.2.1.trans h.2.1, g.2.2.trans h.2.2⟩

theorem State.SameOut.of_synth (h : t.synth = s.synth) : s.SameOut t := ⟨by rw [h], by rw [h], by rw [h]⟩

/-- What each turn leaves of the outputs the whole leaves of them. -/
theorem State.SameOut.foldl {α : Type} {g : State → α → State} (h : ∀ (s : State) x, s.SameOut (g s x)) (xs : List α) (s : State) :
    s.SameOut (xs.foldl g s) := by
  induction xs generalizing s with
  | nil => exact .refl
  | cons x xs ih => exact (h s x).trans (ih (g s x))

theorem State.completeMove_sameOut (s : State) (k : Fin 4) : s.SameOut (s.completeMove k) := by
  have hopen : s.SameOut (s.reachOpen k) :=
    (State.SameOut.of_synth (t := s.takeOpen k) (by simp)).trans ⟨rfl, rfl, rfl⟩
  have hclosed : s.SameOut (s.reachClosed k) :=
    (State.SameOut.of_synth (t := s.takeClosed k) (by simp)).trans ⟨rfl, rfl, rfl⟩
  unfold State.completeMove
  split
  · split
    · split
      · exact hopen
      · exact hclosed
    · exact .refl
  · exact .refl

theorem State.completeMoves_sameOut (s : State) : s.SameOut s.completeMoves :=
  .foldl (fun t k => (t.completeMove_sameOut k).trans ((t.completeMove k).completeMove_sameOut k)) _ s

end

/-! ## What the supervision of a tick reads -/

/-- Two states whose supervision of the tick reads the same. -/
structure State.SameReads (s t : State) : Prop where
  shot : t.engine.shot? = s.engine.shot?
  sup : t.sup = s.sup
  out : s.SameOut t
  compared : t.tick.compared = s.tick.compared
  frame : t.tick.frame = s.tick.frame
  previous : t.tick.previous = s.tick.previous
  heat : t.tick.heat = s.tick.heat

section
variable {s t u : State}

theorem State.SameReads.refl : s.SameReads s := ⟨rfl, rfl, .refl, rfl, rfl, rfl, rfl⟩

theorem State.SameReads.trans (h : s.SameReads t) (g : t.SameReads u) : s.SameReads u where
  shot := g.shot.trans h.shot
  sup := g.sup.trans h.sup
  out := h.out.trans g.out
  compared := g.compared.trans h.compared
  frame := g.frame.trans h.frame
  previous := g.previous.trans h.previous
  heat := g.heat.trans h.heat

theorem State.SameReads.judgement (h : s.SameReads t) (i : Fin 12) : s.SameJudgement t i := by
  obtain ⟨-, hcommanded, -⟩ := h.out
  exact ⟨h.shot, by rw [hcommanded], by rw [h.sup], by rw [h.compared], h.frame, h.previous⟩

theorem State.SameReads.sameHeat (h : s.SameReads t) : s.SameHeat t := by
  obtain ⟨-, -, hin⟩ := h.out
  exact .of_eq h.sup hin h.heat

theorem State.completeMoves_reads (s : State) : s.SameReads s.completeMoves where
  shot := by simp
  sup := by simp
  out := s.completeMoves_sameOut
  compared := by simp
  frame := by simp
  previous := by simp
  heat := by simp

/-- The tick made ready reads as the tick opened. -/
theorem State.prepare_reads (s : State) : s.openTick.SameReads s.prepare := by
  unfold State.prepare
  split
  · exact .refl
  · exact s.openTick.completeMoves_reads

theorem State.settleTick_reads (s : State) : s.SameReads s.settleTick where
  shot := by simp
  sup := by simp
  out := .of_synth (by simp)
  compared := by rw [s.settleTick_tick]
  frame := by rw [s.settleTick_tick]
  previous := by rw [s.settleTick_tick]
  heat := by rw [s.settleTick_tick]

/-- An entry leaves what the supervision reads. -/
theorem State.enter_reads {sh : Shot} (run run' : Run) (h : s.engine.shot? = some sh) (cause : ExitCause) (n : Nat) (target : Fin 64) :
    s.SameReads ((s.leaveVisit sh run cause n).enterState sh run' target) where
  shot := by simp [h, State.enterState]
  sup := by simp
  out := by simp [State.SameOut, State.enterState, State.setResidues]
  compared := by simp [State.enterState, State.setResidues]
  frame := by simp [State.enterState, State.setResidues]
  previous := by simp [State.enterState, State.setResidues]
  heat := by simp [State.enterState, State.setResidues]

/-- The opening of a tick leaves what the heat update reads. -/
theorem State.openTick_sameHeat (s : State) : s.SameHeat s.openTick := ⟨by simp, by simp, fun i => by simp, by simp⟩

/-- The start of a shot leaves what the heat update reads: it loads no supervision setting (R48, R124). -/
theorem State.startShot_sameHeat (s : State) (sh : Shot) : s.SameHeat (s.startShot sh) := by
  refine ⟨?_, ?_, fun i => ?_, ?_⟩ <;> simp [State.startShot, State.loadProfile, State.setResidues]

theorem State.startShot_inhibit (s : State) (sh : Shot) : (s.startShot sh).sup.inhibit = s.sup.inhibit := by
  simp [State.startShot, State.loadProfile]

/-! ## The supervision at an end tick (R122 to R125) -/

theorem State.superviseEnd_lanes (s : State) : s.superviseEnd.sup.lanes = s.compareLanes.sup.lanes := by
  unfold State.superviseEnd
  split <;> rfl

theorem State.superviseEnd_compared (s : State) : s.superviseEnd.tick.compared = BitVec.allOnes 12 := by
  unfold State.superviseEnd
  split <;> rfl

theorem State.superviseEnd_inhibit (s : State) : s.superviseEnd.sup.inhibit = s.sup.inhibit := by
  have h : s.compareLanes.sup.inhibit = s.sup.inhibit := by simp
  unfold State.superviseEnd
  split <;> exact h

theorem State.superviseEnd_heat (h : s.tick.heat = false) :
    s.superviseEnd.tick.heat = true ∧ ∀ i : Fin 6, s.superviseEnd.sup.heat[i] = s.heatAfter i := by
  rw [State.superviseEnd, if_neg (by simp [h])]
  refine ⟨rfl, fun i => ?_⟩
  rw [← s.compareLanes_sameHeat.heatAfter i]
  simp [State.heatAccounts]

/-- What an end leaves of the supervision done at its tick. -/
theorem State.finish_supervision (s : State) (sh : Shot) (run : Run) (r : EndReason) (cause : ExitCause) :
    (s.perform (.finish sh run r cause)).sup = s.superviseEnd.sup ∧
      (s.perform (.finish sh run r cause)).tick = s.superviseEnd.tick := by
  simp [State.perform]

/-! ## The engine's work (R51, R122, R124) -/

/-- What the engine does at a tick other than a start leaves of each lane what the comparison is to make of it; at an end it is made. -/
theorem State.perform_judgedLane {a : Action} (ha : s.Ready a) (hstart : a.isStart = false) (i : Fin 12) :
    (s.perform a).judgedLane i = s.judgedLane i := by
  cases a with
  | rest => rfl
  | stay => rfl
  | start sh => cases hstart
  | defer sh run d =>
    obtain ⟨he, -⟩ := ha
    exact State.SameJudgement.judgedLane ⟨by simp [he, State.perform], rfl, rfl, rfl, rfl, rfl⟩
  | enter sh run target cause deferral =>
    obtain ⟨he, -⟩ := ha
    exact ((State.enter_reads run run (by rw [he]; rfl) cause deferral target).judgement i).judgedLane
  | finish sh run r cause =>
    obtain ⟨hsup, htick⟩ := s.finish_supervision sh run r cause
    have hdone : (s.perform (.finish sh run r cause)).toCompare i = false :=
      State.toCompare_of_done (by rw [htick, s.superviseEnd_compared]) i
    rw [State.judgedLane, if_neg (by simp [hdone]), hsup, s.superviseEnd_lanes, s.compareLanes_lane]

/-- The engine's work at a tick leaves what the heat update is to make of the accounts, or makes it at an end. -/
theorem State.perform_heat (a : Action) (h : s.tick.heat = false) : s.SameHeat (s.perform a) ∨
    (s.perform a).tick.heat = true ∧ ∀ i : Fin 6, (s.perform a).sup.heat[i] = s.heatAfter i := by
  cases a with
  | rest => exact .inl (.of_eq rfl rfl rfl)
  | stay => exact .inl (.of_eq rfl rfl rfl)
  | defer sh run d => exact .inl (.of_eq rfl rfl rfl)
  | start sh => exact .inl (s.startShot_sameHeat sh)
  | enter sh run target cause deferral =>
    refine .inl (.of_eq ?_ ?_ ?_) <;> simp [State.perform, State.enterState, State.setResidues]
  | finish sh run r cause =>
    obtain ⟨hsup, htick⟩ := s.finish_supervision sh run r cause
    rw [hsup, htick]
    exact .inr (State.superviseEnd_heat h)

theorem State.perform_inhibit (s : State) (a : Action) : (s.perform a).sup.inhibit = s.sup.inhibit := by
  cases a with
  | rest | stay | defer => rfl
  | start sh => exact s.startShot_inhibit sh
  | enter => simp [State.perform]
  | finish sh run r cause =>
    obtain ⟨hsup, -⟩ := s.finish_supervision sh run r cause
    rw [hsup, s.superviseEnd_inhibit]

/-- The engine's work at a tick, in its two forms: done now with the tick's opening, or done already. -/
theorem State.engineWork_cases (hdue : s.tickDue = true) :
    (s.engineDue = true ∧ s.dueAction = s.prepare.action ∧
      s.engineWork = (s.prepare.perform s.prepare.action).settleTick) ∨
      (s.tick.engine = true ∧ s.engineWork = s.completeMoves) := by
  cases h : s.engineDue with
  | true => exact .inl ⟨rfl, if_pos h, if_pos h⟩
  | false =>
    refine .inr ⟨?_, ?_⟩
    · simpa [State.engineDue, hdue] using h
    · rw [State.engineWork, if_neg (by simp [h]), if_pos hdue]

/-- After the engine's work at a tick other than a start tick each lane is to be judged as the tick's opening found it (R122). -/
theorem State.engineWork_judgedLane (hstages : s.StagesInOrder) (hdue : s.tickDue = true) (hstart : s.dueAction.isStart = false)
    (i : Fin 12) : s.engineWork.judgedLane i = s.openTick.judgedLane i := by
  obtain ⟨-, haction, heq⟩ | ⟨hdone, heq⟩ := State.engineWork_cases hdue
  · rw [haction] at hstart
    rw [heq, ((s.prepare.perform s.prepare.action).settleTick_reads.judgement i).judgedLane,
      State.perform_judgedLane s.prepare.action_ready hstart, (s.prepare_reads.judgement i).judgedLane]
  · have hopened : s.openTick = s := by rw [State.openTick, if_pos (hstages hdone)]
    rw [heq, hopened, (s.completeMoves_reads.judgement i).judgedLane]

/-- After the engine's work at a tick the accounts are to be updated as the tick found them, or they are updated (R124). -/
theorem State.engineWork_heat (hdue : s.tickDue = true) (h : s.tick.heat = false) : s.SameHeat s.engineWork ∨
    s.engineWork.tick.heat = true ∧ ∀ i : Fin 6, s.engineWork.sup.heat[i] = s.heatAfter i := by
  obtain ⟨-, -, heq⟩ | ⟨-, heq⟩ := State.engineWork_cases hdue
  · have hprep : s.SameHeat s.prepare := s.openTick_sameHeat.trans s.prepare_reads.sameHeat
    obtain ⟨-, -, -, hheat⟩ := id hprep
    have hsettle := (s.prepare.perform s.prepare.action).settleTick_reads
    rw [heq]
    obtain hsame | ⟨hdone, haccounts⟩ := State.perform_heat s.prepare.action (hheat.trans h)
    · exact .inl ((hprep.trans hsame).trans hsettle.sameHeat)
    · refine .inr ⟨hsettle.heat.trans hdone, fun i => ?_⟩
      rw [hsettle.sup, haccounts, hprep.heatAfter]
  · rw [heq]
    exact .inl s.completeMoves_reads.sameHeat

theorem State.engineWork_inhibit (hdue : s.tickDue = true) : s.engineWork.sup.inhibit = s.sup.inhibit := by
  obtain ⟨-, -, heq⟩ | ⟨-, heq⟩ := State.engineWork_cases hdue
  · rw [heq, (s.prepare.perform s.prepare.action).settleTick_reads.sup, s.prepare.perform_inhibit, s.prepare_reads.sup]
    simp
  · rw [heq, s.completeMoves_reads.sup]

end

/-! ## The whole tick -/

section
variable {s : State}

/-- The lanes under supervision after a tick (R122). -/
theorem State.tick_supLane (s : State) (i : Fin 12) :
    (s.compareAll.heatAll.closeTick.grantMoment).sup.lanes[i] = s.judgedLane i := by
  obtain ⟨hlanes, -⟩ := s.compareAll.heatAll_supervision
  simp only [State.grantMoment_keeps, State.closeTick_keeps, hlanes, s.compareAll_lane]

/-- The heat accounts after a tick (R124). -/
theorem State.tick_heat (hdue : s.tickDue = true) (h : s.tick.heat = false) (i : Fin 6) :
    (s.engineWork.compareAll.heatAll.closeTick.grantMoment).sup.heat[i] = s.heatAfter i := by
  obtain ⟨-, -, hdone, hopen⟩ := s.engineWork.compareAll.heatAll_supervision
  have hcompare := s.engineWork.compareAll_sameHeat
  obtain ⟨hheat, -, -, hmark⟩ := id hcompare
  simp only [State.grantMoment_keeps, State.closeTick_keeps]
  obtain hsame | ⟨hdone', haccounts⟩ := State.engineWork_heat hdue h
  · obtain ⟨-, -, -, hmark'⟩ := id hsame
    rw [hopen (hmark.trans (hmark'.trans h)), (hsame.trans hcompare).heatAfter]
  · simp only [hdone (hmark.trans hdone'), hheat, haccounts]

/-- A frame in which every output is 0 (R77, R79). -/
def State.Silent (s : State) : Prop :=
  (∀ i : Fin 12, s.synth.codes[i] = 0 ∧ s.synth.commanded[i] = 0) ∧ ∀ i : Fin 6, s.synth.heatIn[i] = 0

theorem State.restLanes_silent (s : State) : s.restLanes.Silent := by simp [State.Silent, State.restLanes]

/-- Under INHIBIT a lane gives value 0 (R77). -/
theorem State.laneTick_of_inhibit (h : s.sup.inhibit = true) (sh : Shot) (run : Run) (i : Fin 12) :
    (s.laneTick sh run i).code = 0 ∧ (s.laneTick sh run i).commanded = 0 ∧ (s.laneTick sh run i).heatIn = 0 := by
  have hvalue : s.laneValue sh run i = 0 := by simp [State.laneValue, h]
  have hraw : rawCode i 0 = 0 := (roundDiv_eq_zero (fullScale_pos i)).2 (by simpa using fullScale_pos i)
  have hcode : laneCode i 0 = 0 := by rw [laneCode, hraw]; rfl
  have hcommanded : commandedValue i 0 = 0 := by rw [commandedValue, hraw]; rfl
  simp [State.laneTick, hvalue, h, hcode, hcommanded]

theorem State.playLanes_of_inhibit (h : s.sup.inhibit = true) (sh : Shot) (run : Run) : (s.playLanes sh run).Silent := by
  have hlanes := State.laneTick_of_inhibit (s := s.reenergiseDue sh run) (by simpa using h) sh run
  refine ⟨fun i => ?_, fun i => ?_⟩
  · obtain ⟨hcode, hcommanded, -⟩ := s.playLanes_out sh run i
    exact ⟨hcode.trans (hlanes i).1, hcommanded.trans (hlanes i).2.1⟩
  · obtain ⟨-, -, hheat⟩ := s.playLanes_out sh run (currentLane i)
    exact (hheat i rfl).trans (hlanes (currentLane i)).2.2

/-- The frame of a tick outside RUNNING, or under INHIBIT, is silent (R68, R77, R79). -/
theorem State.synthesise_silent (h : s.engine.isRunning = false ∨ s.sup.inhibit = true) : s.synthesise.Silent := by
  unfold State.synthesise
  split
  · rename_i sh run he
    obtain h | h := h
    · rw [he] at h; cases h
    · exact s.playLanes_of_inhibit h sh run
  · exact s.restLanes_silent

/-- The tick leaves a running shot running: its grant finds the engine busy. -/
theorem State.grantMoment_isRunning (h : s.grantMoment.engine.isRunning = false) : s.engine.isRunning = false := by
  cases he : s.engine with
  | running sh run =>
    rw [State.grantMoment_of_busy (by simp [he]), he] at h
    exact h
  | _ => rfl

theorem State.tick_silent (h : s.closeTick.grantMoment.engine.isRunning = false ∨ s.sup.inhibit = true) :
    s.closeTick.grantMoment.Silent := by
  have hclose : s.engine.isRunning = false ∨ s.sup.inhibit = true :=
    h.imp_left fun h => by simpa using State.grantMoment_isRunning h
  have hsilent := State.synthesise_silent hclose
  simp only [State.Silent, State.grantMoment_keeps]
  exact hsilent

end

/-- Settles O41: the supervision of the tick as the engine's work leaves it, and the silent frame. -/
theorem sampleTickHeatsAndSilences : Obligations.SampleTickHeatsAndSilences := by
  intro s hstages hdue
  refine ⟨_, exec_sampleTick_of_due hdue, by simp [State.closeTick], fun hstart i => ?_, fun hheat i => ?_, fun hquiet => ?_⟩
  · intro o x compared
    have hcompared : compared ↔ o.toCompare i = true := by
      cases hs : s.engine.shot? <;> simp [compared, o, x, State.toCompare, State.comparedTick, State.supervised, hs, and_comm,
        and_left_comm]
    have hmisses : saturateSucc Config.maxCount x.missRun = min 255 (x.missRun + 1) := by
      rw [saturateSucc, Nat.min_comm]
      rfl
    rw [s.engineWork.tick_supLane i, State.engineWork_judgedLane hstages hdue hstart i]
    refine ⟨o.judgedLane_settings i, fun hc => ?_, fun hc => ?_⟩
    · have hrun : (o.judgedLane i).missRun = o.missRunNext i := by rw [State.judgedLane, if_pos (hcompared.1 hc)]
      change (∀ f, _ → (_ → (o.judgedLane i).missRun = _) ∧ (_ → (o.judgedLane i).missRun = _)) ∧ (_ → (o.judgedLane i).missRun = _)
      rw [hrun]
      refine ⟨fun f hf => ⟨fun hle => ?_, fun hlt => ?_⟩, fun hf => ?_⟩
      · rw [State.missRunNext, if_pos (by simpa [State.matches, hf, x] using hle)]
      · rw [State.missRunNext, if_neg (by simpa [State.matches, hf, x] using hlt), ← hmisses]
      · rw [State.missRunNext, if_neg (by simp [State.matches, hf]), ← hmisses]
    · change (o.judgedLane i).missRun = x.missRun
      rw [State.judgedLane, if_neg fun h => hc (hcompared.2 h)]
  · rw [State.tick_heat hdue hheat, State.heatAfter, heatNext_eq]
  · refine State.tick_silent (hquiet.imp_right fun h => ?_)
    obtain ⟨-, hinhibit, -⟩ := s.engineWork.compareAll.heatAll_supervision
    rw [hinhibit, s.engineWork.compareAll_inhibit, State.engineWork_inhibit hdue, h]

end Sys2Proof.Machine
end

section
/-! SUPPORT. The events of a lane at a tick (R76, R80, R111, R112, R118, R122, R123, R125). -/

namespace Sys2Proof.Machine

/-! ## An event of a lane, once the engine's work is done -/

section
variable {s w : State} {sh : Shot} {run : Run} {i : Fin 12}

theorem State.laneEvent_of_due {due : State → Shot → Run → Bool} {act : State → Shot → Run → State} (hdue : s.tickDue = true)
    (he : s.engineWork.engine = .running sh run) (h : due s.engineWork sh run = true) :
    s.laneEvent due act = act s.engineWork sh run := by
  rw [State.laneEvent, if_pos hdue, he]
  exact if_pos h

/-- A lane without a request that names this tick is tested (R112). -/
theorem State.isTested_of (h : (w.synth.lanes[i]).reenergise = none ∨ (w.synth.lanes[i]).reenergise = some w.now) :
    w.isTested i = true := by
  obtain h | h := h <;> simp only [State.isTested, SynthLane.reenergiseDue, h] <;> simp

theorem exec_cutTakesEffect (hdue : s.tickDue = true) (he : s.engineWork.engine = .running sh run)
    (htested : s.engineWork.isTested i = true) (hcut : s.engineWork.cutByValue sh run i = true) :
    exec (.cutTakesEffect i) s = .next (s.engineWork.cutLane i) :=
  congrArg _ (State.laneEvent_of_due hdue he (by rw [htested, hcut]; rfl))

theorem exec_cutLimit (hdue : s.tickDue = true) (he : s.engineWork.engine = .running sh run)
    (htested : s.engineWork.isTested i = true) (hcut : s.engineWork.cutByLimit i = true) :
    exec (.cutLimit i) s = .next (s.engineWork.cutLane i) :=
  congrArg _ (State.laneEvent_of_due hdue he (by rw [htested, hcut]; rfl))

theorem exec_reenergise (hdue : s.tickDue = true) (he : s.engineWork.engine = .running sh run)
    (h : (s.engineWork.synth.lanes[i]).reenergiseDue s.engineWork.now = true) :
    exec (.reenergise i) s = .next (s.engineWork.reenergiseLane sh run i) :=
  congrArg _ (State.laneEvent_of_due hdue he h)

theorem SynthLane.reenergiseDue_of {x : SynthLane} {c now : Clock} (h : x.reenergise = some c) (hc : c ≠ now) :
    x.reenergiseDue now = true := by simp [SynthLane.reenergiseDue, h, hc]

/-- A CUT lane re-energised: the tick counts as an entry for its residue (R76, R112). -/
theorem State.reenergiseLane_cut (h : (w.synth.lanes[i]).cut = .cut) : w.reenergiseLane sh run i =
    { w.setLane i { w.synth.lanes[i] with
        cut := .live, reenergise := none,
        residue := entryResidue i ((w.entry run.inForce).lanes[i]) 0 (w.laneAc sh run.inForce i) } with
      tick := { w.tick with residueSet := including w.tick.residueSet i } } := by
  rw [State.reenergiseLane]
  simp only [h, SynthLane.live]
  rfl

/-- A CUTTING lane re-energised becomes LIVE as it stands (R80, R112). -/
theorem State.reenergiseLane_cutting {b : Fin 4} {n : Nat} (h : (w.synth.lanes[i]).cut = .cutting b n) :
    w.reenergiseLane sh run i = w.setLane i { w.synth.lanes[i] with cut := .live, reenergise := none } := by
  rw [State.reenergiseLane]
  simp only [h, SynthLane.live]
  simp

end

/-! ## LANE_FAULT at the end of a shot (R118) -/

section
variable {s t : State}

theorem State.laneFaultSet_of_links (h : t.links = s.links) : t.laneFaultSet = s.laneFaultSet := by
  rw [State.laneFaultSet, State.laneFaultSet, State.link, State.link, h]

/-- Notices of a link that keep LANE_FAULT. -/
theorem State.laneFaultSet_setNotices (s : State) (l : Link) {n : Notices} (hn : n.laneFault = (s.link l).notices.laneFault) :
    (s.setLink l { s.link l with notices := n }).laneFaultSet = s.laneFaultSet := by
  by_cases hl : l = .supervision
  · subst hl
    simp [State.laneFaultSet, hn]
  · rw [State.laneFaultSet, State.link_setLink_ne s (Ne.symm hl), State.laneFaultSet]

theorem State.tearDown_laneFault (s : State) (sh : Shot) : (s.tearDown sh).laneFaultSet = s.laneFaultSet :=
  (State.laneFaultSet_of_links (s.tearDown_links sh)).trans (s.laneFaultSet_setNotices _ rfl)

theorem State.settle_laneFault (s : State) (sh : Shot) (c : Option Clock) : (s.settle sh c).laneFaultSet = s.laneFaultSet := by
  unfold State.settle
  split
  · exact State.tearDown_laneFault _ sh
  · rfl

theorem State.endRunning_laneFault (s : State) (sh : Shot) (run : Run) (r : EndReason) (cause : ExitCause) :
    (s.endRunning sh run r cause).laneFaultSet = s.laneFaultSet := by
  rw [State.endRunning, State.settle_laneFault]
  exact State.laneFaultSet_of_links (by simp)

theorem State.endArmed_laneFault (s : State) (sh : Shot) (r : EndReason) : (s.endArmed sh r).laneFaultSet = s.laneFaultSet := by
  rw [State.endArmed, State.settle_laneFault]
  exact State.laneFaultSet_of_links (by simp)

theorem State.grantMoment_laneFault (h : s.laneFaultSet = true) : s.grantMoment.laneFaultSet = true := by
  refine State.grantMoment_induct (P := fun t => t.laneFaultSet = true) h (fun t r k ht _ _ => ?_) fun t sh _ ht _ => ?_
  · exact ((State.laneFaultSet_of_links (t.grantInto_links r k)).trans (t.laneFaultSet_setNotices _ rfl)).trans ht
  · rw [t.endArmed_laneFault, ht]

theorem State.superviseEnd_laneFault (s : State) : s.superviseEnd.laneFaultSet = s.compareLanes.laneFaultSet := by
  unfold State.superviseEnd
  split <;> rfl

/-- A lane that becomes FAULTED at an end tick raises LANE_FAULT, and the end of the shot leaves it raised (R118, R123). -/
theorem State.finish_laneFault (sh : Shot) (run : Run) (r : EndReason) (cause : ExitCause) {i : Fin 12}
    (h : s.raisesAt i = true) : (s.perform (.finish sh run r cause)).settleTick.laneFaultSet = true := by
  have hlinks : (s.perform (.finish sh run r cause)).settleTick.links =
      (s.superviseEnd.endRunning sh run r cause).grantMoment.links := by simp [State.perform]
  rw [State.laneFaultSet_of_links hlinks]
  refine State.grantMoment_laneFault ?_
  rw [State.endRunning_laneFault, State.superviseEnd_laneFault]
  exact s.compareLanes_laneFault.2 (.inr ⟨i, h⟩)

end

/-! ## The deviation fault (R122, R123) -/

section
variable {s : State} {sh : Shot} {i : Fin 12}

/-- A lane is still to be compared at the tick (R122). -/
theorem State.toCompare_iff (hshot : s.engine.shot? = some sh) : s.toCompare i = true ↔ s.tick.previous.isSome = true ∧
    has sh.req.laneUse i = true ∧ (s.sup.lanes[i]).settings.enabled = true ∧ has s.tick.compared i = false := by
  simp [State.toCompare, State.comparedTick, State.supervised, hshot, and_assoc]

/-- The tick is a match on a lane (R122). -/
theorem State.matches_iff : s.matches i = true ↔
    ∃ f, s.tick.frame = some f ∧ (f[i] - s.synth.commanded[i]).natAbs ≤ (s.sup.lanes[i]).settings.deviation := by
  cases hf : s.tick.frame <;> simp [State.matches, hf]

theorem State.missRunNext_eq (s : State) (i : Fin 12) :
    s.missRunNext i = if s.matches i = true then 0 else min 255 ((s.sup.lanes[i]).missRun + 1) := by
  rw [State.missRunNext, saturateSucc, Nat.min_comm]
  rfl

/-- A deviation fault: the miss run rises to the miss limit (R123). -/
theorem State.deviates_iff (hshot : s.engine.shot? = some sh) : s.deviates i = true ↔
    s.tick.previous.isSome = true ∧ has sh.req.laneUse i = true ∧ (s.sup.lanes[i]).settings.enabled = true ∧
    has s.tick.compared i = false ∧ (s.sup.lanes[i]).missRun + 1 = (s.sup.lanes[i]).settings.missLimit ∧
    (s.sup.lanes[i]).missRun < 255 ∧
    ∀ f, s.tick.frame = some f → (s.sup.lanes[i]).settings.deviation < (f[i] - s.synth.commanded[i]).natAbs := by
  have hmiss : s.matches i = false ↔
      ∀ f, s.tick.frame = some f → (s.sup.lanes[i]).settings.deviation < (f[i] - s.synth.commanded[i]).natAbs := by
    rw [← Bool.not_eq_true, State.matches_iff]
    simp only [not_exists, not_and, not_le]
  rw [State.deviates, Bool.and_eq_true, Bool.and_eq_true, State.toCompare_iff hshot, decide_eq_true_iff, beq_iff_eq, ← hmiss,
    s.missRunNext_eq]
  cases s.matches i
  · simp only [Bool.false_eq_true, if_false]
    constructor
    · rintro ⟨⟨⟨hprevious, huse, henabled, hcompared⟩, hrise⟩, hlimit⟩
      exact ⟨hprevious, huse, henabled, hcompared, by omega, by omega, trivial⟩
    · rintro ⟨hprevious, huse, henabled, hcompared, hlimit, hrun, -⟩
      exact ⟨⟨⟨hprevious, huse, henabled, hcompared⟩, by omega⟩, by omega⟩
  · simp

/-- The comparison leaves the marks of the tick's opening and of the engine's work. -/
theorem State.compareLanes_marks (s : State) :
    s.compareLanes.tick.engine = s.tick.engine ∧ s.compareLanes.tick.opened = s.tick.opened := by
  have hlane : ∀ (s : State) (i : Fin 12),
      (s.compareLane i).tick.engine = s.tick.engine ∧ (s.compareLane i).tick.opened = s.tick.opened := by
    intro s i
    cases h : s.toCompare i with
    | false => rw [State.compareLane_of_compared h]; exact ⟨rfl, rfl⟩
    | true =>
      rw [State.compareLane_eq h]
      cases s.raisesAt i <;> exact ⟨rfl, rfl⟩
  exact ⟨foldl_keeps (fun s => s.tick.engine) _ (fun s i => (hlane s i).1) _ s,
    foldl_keeps (fun s => s.tick.opened) _ (fun s i => (hlane s i).2) _ s⟩

/-- The engine's work at a tick is done once, and a comparison done is not done again (R51, R122). -/
theorem State.engineWork_done (hdue : s.tickDue = true) : s.engineWork.tick.engine = true := by
  obtain ⟨-, -, heq⟩ | ⟨hdone, heq⟩ := State.engineWork_cases hdue
  · rw [heq, State.settleTick_tick]
  · rw [heq]
    simpa using hdone

theorem exec_deviationFault_again (hdone : s.tick.engine = true) (hcompared : s.tick.compared = BitVec.allOnes 12) (i : Fin 12) :
    exec (.deviationFault i) s = .next s := by
  have hdue : s.engineDue = false := by simp [State.engineDue, hdone]
  have haction : s.dueAction = .rest := if_neg (by simp [hdue])
  have hwork : s.engineWork.deviates i = false := by
    have hsame : s.engineWork.tick.compared = s.tick.compared := by
      rw [State.engineWork, hdue]
      split
      · exact absurd ‹_› (by simp)
      · split
        · simp
        · rfl
    rw [State.deviates, State.toCompare_of_done (hsame.trans hcompared)]
    rfl
  have hfault : s.deviationFault i = s := by simp [State.deviationFault, haction, Action.isFinish, hwork]
  exact congrArg Host.Outcome.next hfault

/-- DEVIATION_FAULT at a tick at which the shot goes on does the comparison of the tick (R123). -/
theorem exec_deviationFault (hdue : s.tickDue = true) (hfinish : s.dueAction.isFinish = false)
    (h : s.engineWork.deviates i = true) : exec (.deviationFault i) s = .next s.engineWork.compareAll := by
  have hfault : s.deviationFault i = s.engineWork.compareAll := by simp [State.deviationFault, hfinish, hdue, h]
  exact congrArg Host.Outcome.next hfault

end

/-- A deviation fault at a tick at which the shot goes on, lane by lane (R122, R123). -/
theorem deviationFault_compares {s : State} {sh : Shot} {run : Run} {i j : Fin 12} (hdue : s.tickDue = true)
    (he : s.engineWork.engine = .running sh run) (hfinish : s.dueAction.isFinish = false) (hi : s.engineWork.deviates i = true)
    (hj : s.engineWork.deviates j = true) (hlowest : ∀ m, m < j → s.engineWork.deviates m = false) :
    ∃ t, exec (.deviationFault i) s = .next t ∧
      t.engine = .running sh { run with pendingEnd := some (run.pendingEnd.getD (.deviation j)) } ∧
      (∀ m : Fin 12, t.sup.lanes[m] = s.engineWork.judgedLane m ∧ (s.engineWork.raisesAt m = true → t.laneFaultSet = true) ∧
        exec (.deviationFault m) t = .next t) ∧
      t.synth = s.engineWork.synth ∧ t.tables = s.engineWork.tables ∧ t.queue = s.engineWork.queue ∧
      t.reports = s.engineWork.reports := by
  have hdeviating : s.engineWork.deviating = some j := lowest_eq_some.2 ⟨hj, hlowest⟩
  have hall := State.compareAll_of_running he
  obtain ⟨-, htick⟩ := s.engineWork.compareAll_supervision
  have hdone : s.engineWork.compareAll.tick.engine = true := by
    rw [htick, s.engineWork.compareLanes_marks.1]
    exact State.engineWork_done hdue
  refine ⟨_, exec_deviationFault hdue hfinish hi, by rw [hall, hdeviating]; rfl, fun m =>
    ⟨s.engineWork.compareAll_lane m, fun hm => ?_, exec_deviationFault_again hdone (by rw [htick]; rfl) m⟩, ?_⟩
  · rw [hall]
    exact s.engineWork.compareLanes_laneFault.2 (.inr ⟨m, hm⟩)
  · rw [hall]
    simp

/-! ## What SAMPLE_TICK adds (R78, R123, R125) -/

/-- The account of current lane `i` stands at or above its limit, in a shot that uses the lane (R125). -/
def State.hotAt (s : State) (sh : Shot) (i : Fin 6) : Bool :=
  has sh.req.laneUse (currentLane i) && decide ((s.sup.lanes[currentLane i]).settings.limit ≤ s.sup.heat[i])

theorem pendingAfter_some (p q : Option EndReason) (r : EndReason) : pendingAfter (pendingAfter p (some r)) q = some (p.getD r) := by
  cases q <;> rfl

section
variable {s : State} {sh : Shot} {run : Run}

theorem State.overheated_eq (he : s.engine = .running sh run) : s.overheated = lowest (s.hotAt sh) := by
  rw [State.overheated, he]
  rfl

/-- The heat update of a tick in RUNNING requests the end for the lowest-numbered hot lane (R125). -/
theorem State.heatEnd_eq (he : s.engine = .running sh run) (h : s.tick.heat = false) :
    s.heatEnd = (lowest (s.heatAll.hotAt sh)).map fun i => .heat (currentLane i) := by
  have hsup : s.heatAll.sup = s.heatAccounts.sup := by
    rw [State.heatAll_of_running he, if_neg (by simp [h])]
  have hhot : s.heatAll.hotAt sh = s.heatAccounts.hotAt sh := by
    funext i
    simp only [State.hotAt, hsup]
  rw [State.heatEnd, if_neg (by simp [h]), State.overheated_eq (s := s.heatAccounts) he, hhot]

theorem State.hotAt_iff {i : Fin 6} : s.hotAt sh i = true ↔ has sh.req.laneUse (currentLane i) = true ∧
    (s.sup.lanes[currentLane i]).settings.heatLimit * 20000000000 ≤ s.sup.heat[i] := by
  simp only [State.hotAt, Bool.and_eq_true, decide_eq_true_iff]
  rfl

end

/-- The events of a lane at a tick after whose engine work the shot is RUNNING. -/
theorem laneEvents_act {s : State} {sh : Shot} {run : Run} (i : Fin 12) (hdue : s.tickDue = true)
    (he : s.engineWork.engine = .running sh run) :
    let w := s.engineWork
    let x := w.synth.lanes[i]
    (∀ b n, x.cut = .cutting b n → (x.reenergise = none ∨ x.reenergise = some w.now) →
      let v := w.laneValue sh run i
      ((v = 0 ∨ (0 < x.prev ∧ v < 0) ∨ (x.prev < 0 ∧ 0 < v)) →
        exec (.cutTakesEffect i) s = .next (w.setLane i { x with cut := .cut, residue := 0 })) ∧
      ((w.breakers[b]).setting.cutLimit ≤ n + 1 →
        exec (.cutLimit i) s = .next (w.setLane i { x with cut := .cut, residue := 0 }))) ∧
    ∀ c, x.reenergise = some c → c ≠ w.now →
      (x.cut = .cut →
        let d := entryResidue i ((w.entry run.inForce).lanes[i]) 0 (w.laneAc sh run.inForce i)
        let live := w.setLane i { x with cut := .live, reenergise := none, residue := d }
        exec (.reenergise i) s =
          .next { live with tick := { w.tick with residueSet := including w.tick.residueSet i } }) ∧
      (∀ b n, x.cut = .cutting b n →
        exec (.reenergise i) s = .next (w.setLane i { x with cut := .live, reenergise := none })) := by
  intro w x
  refine ⟨fun b n hcut hrequest => ?_, fun c hc hnow => ?_⟩
  · have htested : w.isTested i = true := State.isTested_of hrequest
    have hcut' : (w.synth.lanes[i]).cut = .cutting b n := hcut
    refine ⟨fun hv => exec_cutTakesEffect hdue he htested ?_, fun hlimit => exec_cutLimit hdue he htested ?_⟩
    · have hvalue : w.cutByValue sh run i = crossesZero x.prev (w.laneValue sh run i) := by simp only [State.cutByValue, hcut', x]
      exact hvalue.trans ((crossesZero_eq _ _).trans (decide_eq_true hv))
    · have hcount : w.cutByLimit i = decide ((w.breakers[b]).setting.cutLimit ≤ n + 1) := by simp only [State.cutByLimit, hcut']
      exact hcount.trans (decide_eq_true hlimit)
  · have hexec := exec_reenergise hdue he (SynthLane.reenergiseDue_of hc hnow)
    exact ⟨fun hcut => hexec.trans (congrArg _ (State.reenergiseLane_cut hcut)), fun b n hcut =>
      hexec.trans (congrArg _ (State.reenergiseLane_cutting hcut))⟩

/-- A deviation fault at the end tick: the shot ends, and the lane is FAULTED (R118, R123). -/
theorem deviationFault_at_end {s : State} {i : Fin 12}
    (hfinish : s.dueAction.isFinish = true) (hdeviates : s.openTick.deviates i = true) :
    exec (.deviationFault i) s = exec .shotEnd s ∧ ∃ t, exec .shotEnd s = .next t ∧
      t.sup.lanes[i] = s.openTick.judgedLane i ∧ (s.openTick.raisesAt i = true → t.laneFaultSet = true) := by
  have hend : exec .shotEnd s = .next s.engineWork := congrArg Host.Outcome.next (if_pos hfinish)
  have hfault : exec (.deviationFault i) s = .next s.engineWork := by
    have h : s.deviationFault i = s.engineWork := by simp [State.deviationFault, hfinish, hdeviates]
    exact congrArg Host.Outcome.next h
  have hdue : s.engineDue = true := by
    by_contra h
    rw [State.dueAction, if_neg h] at hfinish
    cases hfinish
  obtain ⟨-, haction, heq⟩ | ⟨hdone, -⟩ := State.engineWork_cases (State.engineDue_iff.1 hdue).1
  · rw [haction] at hfinish
    obtain ⟨sh', run', r, cause, ha⟩ : ∃ sh' run' r cause, s.prepare.action = .finish sh' run' r cause := by
      cases ha : s.prepare.action with
      | finish sh' run' r cause => exact ⟨sh', run', r, cause, rfl⟩
      | _ => rw [ha] at hfinish; cases hfinish
    rw [ha] at heq
    obtain ⟨hsup, -⟩ := s.prepare.finish_supervision sh' run' r cause
    refine ⟨hfault.trans hend.symm, _, hend, ?_, fun h => ?_⟩
    · rw [heq, (State.settleTick_reads _).sup, hsup, s.prepare.superviseEnd_lanes, s.prepare.compareLanes_lane,
        (s.prepare_reads.judgement i).judgedLane]
    · rw [heq]
      exact s.prepare.finish_laneFault sh' run' r cause (i := i) ((s.prepare_reads.judgement i).raisesAt.trans h)
  · exact absurd hdone (by simp [(State.engineDue_iff.1 hdue).2])

/-- What the rest of a tick adds in RUNNING: the clip lane mask, the conditions of the lanes, and the end that is requested (R78,
R123, R125). -/
theorem State.tick_requests {w : State} {sh : Shot} {run : Run} {rep : Report} (he : w.engine = .running sh run)
    (hrep : w.reports[sh.slot] = .building rep) :
    w.Clips w.compareAll.heatAll.closeTick sh rep run.visit ∧
      (∀ i : Fin 12, w.compareAll.heatAll.closeTick.sup.lanes[i] = w.judgedLane i) ∧
      (∀ i, w.deviating = some i → w.compareAll.heatAll.closeTick.engine =
        .running sh { run with pendingEnd := some (run.pendingEnd.getD (.deviation i)) }) ∧
      (w.tick.heat = false → w.deviating = none → w.compareAll.heatAll.closeTick.engine = .running sh { run with
        pendingEnd := pendingAfter run.pendingEnd
          ((lowest (w.compareAll.heatAll.closeTick.hotAt sh)).map fun i => .heat (currentLane i)) }) := by
  obtain ⟨hengine, -, -, -, -, -, -, hreports, -⟩ := State.supervise_of_running he
  obtain ⟨hlanes, -⟩ := w.compareAll.heatAll_supervision
  refine ⟨?_, fun i => ?_, fun i hi => ?_, fun hheat hnone => ?_⟩
  · have hplay : w.compareAll.heatAll.synthesise = w.compareAll.heatAll.playLanes sh { run with
        pendingEnd := pendingAfter (pendingAfter run.pendingEnd (w.deviating.map .deviation)) w.compareAll.heatEnd } := by
      rw [State.synthesise, hengine]
    have hclips := w.compareAll.heatAll.playLanes_reports sh { run with
      pendingEnd := pendingAfter (pendingAfter run.pendingEnd (w.deviating.map .deviation)) w.compareAll.heatEnd }
      (rep := rep) (by rw [hreports]; exact hrep)
    rw [hreports, ← hplay] at hclips
    exact hclips
  · simp only [State.closeTick_keeps, hlanes, w.compareAll_lane]
  · simp only [State.closeTick_keeps, hengine, hi]
    exact congrArg (fun p => Engine.running sh { run with pendingEnd := p }) (pendingAfter_some _ _ _)
  · have hcompare : w.compareAll.engine = .running sh run := by rw [State.compareAll_of_running he, hnone]; rfl
    obtain ⟨-, -, -, hmark⟩ := w.compareAll_sameHeat
    have hhot : w.compareAll.heatAll.closeTick.hotAt sh = w.compareAll.heatAll.hotAt sh := by
      funext i
      simp only [State.hotAt, State.closeTick_keeps]
    rw [hhot, ← State.heatEnd_eq hcompare (hmark.trans hheat)]
    simp only [State.closeTick_keeps, hengine, hnone]
    rfl

/-- Settles O42: the engine's work first, then the event; the comparison and the frame of the tick by their lanes. -/
theorem laneEventsActAtTheTick : Obligations.LaneEventsActAtTheTick := by
  refine ⟨?_, ?_, ?_⟩
  · intro s sh run i hdue w x he
    obtain ⟨hcut, hlive⟩ := laneEvents_act i hdue he
    refine ⟨hcut, hlive, fun hfinish => ?_⟩
    intro deviates
    have hshot : w.engine.shot? = some sh := by rw [he]; rfl
    have hdeviates : ∀ m, deviates m ↔ w.deviates m = true := fun m => (State.deviates_iff hshot).symm
    intro j hi hj hlowest
    obtain ⟨t, hexec, hengine, hlanes, hrest⟩ := deviationFault_compares hdue he hfinish ((hdeviates i).1 hi) ((hdeviates j).1 hj)
      fun m hm => by simpa using fun h => hlowest m hm ((hdeviates m).2 h)
    obtain ⟨hprevious, -⟩ := hi
    refine ⟨t, hexec, hengine, fun m => ?_, hrest⟩
    obtain ⟨hlane, hfault, hagain⟩ := hlanes m
    intro y compared hit
    have htoCompare : compared ↔ w.toCompare m = true := by
      rw [State.toCompare_iff hshot]
      exact ⟨fun h => ⟨hprevious, h⟩, fun h => h.2⟩
    have hhit : hit ↔ w.matches m = true := State.matches_iff.symm
    refine ⟨fun hm => ⟨?_, fun hready => hfault ?_⟩, fun hc => ?_, fun hc hh => ?_, fun hc hh hm => ?_, hagain⟩
    · rw [hlane, State.judgedLane_of_deviates ((hdeviates m).1 hm)]
    · rw [State.raisesAt, (hdeviates m).1 hm]
      exact decide_eq_true hready
    · rw [hlane, State.judgedLane, if_neg fun h => hc (htoCompare.2 h)]
    · have hnot : w.deviates m = false := by
        simp [State.deviates, w.missRunNext_eq, hhit.1 hh]
      rw [hlane, State.judgedLane, if_pos (htoCompare.1 hc), hnot, w.missRunNext_eq, if_pos (hhit.1 hh)]
      rfl
    · have hnot : w.deviates m = false := by simpa using fun h => hm ((hdeviates m).2 h)
      rw [hlane, State.judgedLane, if_pos (htoCompare.1 hc), hnot, w.missRunNext_eq, if_neg fun h => hh (hhit.2 h)]
      rfl
  · intro s sh run i he hfinish o x hprevious huse henabled hcompared hlimit hrun hmiss
    have hshot : o.engine.shot? = some sh := by
      have ho : o.engine = s.engine := by simp [o]
      rw [ho, he]; rfl
    have hdeviates : o.deviates i = true :=
      (State.deviates_iff hshot).2 ⟨hprevious, huse, henabled, hcompared, hlimit, hrun, hmiss⟩
    obtain ⟨hsame, t, hexec, hlane, hfault⟩ := deviationFault_at_end hfinish hdeviates
    refine ⟨hsame, t, hexec, hlane.trans (State.judgedLane_of_deviates hdeviates), fun hready => hfault ?_⟩
    rw [State.raisesAt, hdeviates]
    exact decide_eq_true hready
  · intro s sh run rep hdue w he hrep
    obtain ⟨⟨clipping, hreports, hclips⟩, hlanes, hdeviating, hheat⟩ := State.tick_requests he hrep
    have hexec := exec_sampleTick_of_running hdue he
    generalize s.engineWork.compareAll.heatAll.closeTick = t at *
    refine ⟨t, clipping, hexec, hreports, hclips, fun i hi => ⟨?_, fun hlowest => hdeviating i (lowest_eq_some.2 ⟨hi, hlowest⟩)⟩,
      fun hopen hnone => ?_⟩
    · rw [hlanes, State.judgedLane_of_deviates hi]
    · intro hot
      have hengine := hheat hopen hnone
      have hhot : ∀ j, hot j ↔ t.hotAt sh j = true := fun j => State.hotAt_iff.symm
      refine ⟨fun j hj hlowest => ?_, fun hcold => ?_⟩
      · have hfirst : lowest (t.hotAt sh) = some j :=
          lowest_eq_some.2 ⟨(hhot j).1 hj, fun m hm => by simpa using fun h => hlowest m hm ((hhot m).2 h)⟩
        rw [hengine, hfirst]
        rfl
      · have hnobody : lowest (t.hotAt sh) = none := lowest_eq_none.2 fun j => by simpa using fun h => hcold j ((hhot j).2 h)
        rw [hengine, hnobody, he]
        rfl

end Sys2Proof.Machine
end

section
/-! SUPPORT. The completion of a move, and the elements it writes (R102, R103, R106, R110, R113). -/

namespace Sys2Proof.Machine

/-! ## Breaker elements written in RUNNING (R113) -/

/-- The changes `cs` of simulator `k` written: for the tick that is still to come at this microsecond they wait in the running record,
and otherwise they join the current visit (R113). -/
def State.writeAll (s : State) (sh : Shot) (run : Run) (k : Fin 4) (cs : List BreakerChange) : State :=
  if s.engineDue = true then { s with engine := .running sh { run with fresh := run.fresh ++ cs.map fun c => (k, c) } }
  else s.onReport sh.slot fun rep => rep.onVisit run.visit fun v =>
    v.addFresh (s.since run.startTime run.entry) (cs.map fun c => (k, c))

section
variable {s : State} {sh : Shot} {run : Run} {k : Fin 4}

theorem State.onReport_onReport (s : State) (slot : Fin 16) (f g : Report → Report) :
    (s.onReport slot f).onReport slot g = s.onReport slot fun r => g (f r) := by
  cases h : s.reports[slot] with
  | building r =>
    rw [State.onReport_building h, State.onReport_building h]
    exact (State.onReport_building (Vector.getElem_set_self _) g).trans (by rw [Vector.set_set])
  | _ => simp only [State.onReport, h]

/-- An element leaves a visit's number. -/
theorem Visit.addElem_number (v : Visit) (e : BreakerElem) : (v.addElem e).number = v.number := by
  unfold Visit.addElem
  split <;> rfl

theorem Visit.addFresh_number (v : Visit) (time : Nat) (es : List (Fin 4 × BreakerChange)) :
    (v.addFresh time es).number = v.number := by
  unfold Visit.addFresh
  induction es generalizing v with
  | nil => rfl
  | cons e es ih => exact (ih _).trans (v.addElem_number _)

/-- Elements written into a visit one after the other. -/
theorem Report.onVisit_addFresh (rep : Report) (n time : Nat) (es : List (Fin 4 × BreakerChange)) (e : Fin 4 × BreakerChange) :
    (rep.onVisit n fun v => v.addFresh time es).onVisit n (fun v => v.addElem { sim := e.1, change := e.2, time := time }) =
      rep.onVisit n fun v => v.addFresh time (es ++ [e]) := by
  simp only [Report.onVisit, List.map_map]
  congr 1
  refine List.map_congr_left fun v _ => ?_
  have happend : (v.addFresh time es).addElem { sim := e.1, change := e.2, time := time } = v.addFresh time (es ++ [e]) := by
    simp [Visit.addFresh]
  by_cases h : v.number = n
  · simp only [Function.comp_apply, if_pos h, v.addFresh_number, happend]
  · simp only [Function.comp_apply, if_neg h]

theorem State.writeElem_eq (he : s.engine = .running sh run) (c : BreakerChange) :
    s.writeElem k c = s.writeAll sh run k [c] := by
  simp only [State.writeElem, he, State.writeAll]
  rfl

theorem State.writeAll_writeElem (he : s.engine = .running sh run) (cs : List BreakerChange) (c : BreakerChange) :
    (s.writeAll sh run k cs).writeElem k c = s.writeAll sh run k (cs ++ [c]) := by
  unfold State.writeAll
  by_cases hdue : s.engineDue = true
  · rw [if_pos hdue, if_pos hdue, State.writeElem_eq rfl, State.writeAll, if_pos (by exact hdue)]
    simp [List.append_assoc]
  · rw [if_neg hdue, if_neg hdue, State.writeElem_eq (sh := sh) (run := run) (by simpa using he), State.writeAll,
      if_neg (by simpa [State.engineDue, State.tickDue, State.onGrid, State.now] using hdue), State.onReport_onReport]
    congr 1
    funext rep
    have htime : ∀ f, (s.onReport sh.slot f).since run.startTime run.entry = s.since run.startTime run.entry := fun f => by
      simp [State.since, State.now]
    rw [htime, List.map_append]
    exact rep.onVisit_addFresh run.visit _ _ (k, c)

theorem State.setBreaker_writeAll (j : Fin 4) (b : Simulator) (cs : List BreakerChange) :
    (s.writeAll sh run k cs).setBreaker j b = (s.setBreaker j b).writeAll sh run k cs := by
  have hdue : (s.setBreaker j b).engineDue = s.engineDue := rfl
  have hreports : (s.setBreaker j b).reports = s.reports := rfl
  unfold State.writeAll State.onReport
  rw [hdue, hreports]
  split
  · rfl
  · cases s.reports[sh.slot] <;> rfl

/-- What the writing of elements changes, in the manual's form. -/
theorem State.writeAll_frame (s : State) (sh : Shot) (run : Run) (k : Fin 4) (cs : List BreakerChange) :
    s.writeAll sh run k cs =
      { s with engine := (s.writeAll sh run k cs).engine, reports := (s.writeAll sh run k cs).reports } := by
  unfold State.writeAll State.onReport
  split
  · rfl
  · cases s.reports[sh.slot] <;> rfl

theorem State.writeAll_due (h : s.engineDue = true) (cs : List BreakerChange) :
    (s.writeAll sh run k cs).engine = .running sh { run with fresh := run.fresh ++ cs.map fun c => (k, c) } ∧
      (s.writeAll sh run k cs).reports = s.reports := by
  rw [State.writeAll, if_pos h]
  exact ⟨rfl, rfl⟩

theorem State.writeAll_open (h : s.engineDue = false) (cs : List BreakerChange) :
    (s.writeAll sh run k cs).engine = s.engine ∧
      (∀ rep, s.reports[sh.slot] = .building rep → (s.writeAll sh run k cs).reports = s.reports.set sh.slot
        (.building (rep.onVisit run.visit fun v => v.addFresh (s.since run.startTime run.entry) (cs.map fun c => (k, c))))) ∧
      ((∀ rep, s.reports[sh.slot] ≠ .building rep) → (s.writeAll sh run k cs).reports = s.reports) := by
  rw [State.writeAll, if_neg (by simp [h])]
  refine ⟨by simp, fun rep hrep => by rw [State.onReport_building hrep], fun hrep => ?_⟩
  unfold State.onReport
  cases hslot : s.reports[sh.slot] with
  | building rep => exact absurd hslot (hrep rep)
  | _ => rfl

end

/-! ## A position reached (R103, R106) -/

/-- A simulator that reaches OPEN at `now` (R106). -/
def Simulator.reachedOpen (b : Simulator) (stands : Option (Fin 16) → Bool) (now : Clock) : Simulator :=
  if stands b.setting.close = true ∧ b.closeLatch = false then
    { b with
      position := .closing, timer := some (later now b.setting.closeTime, .closed),
      tripLatch := b.tripLatch || stands b.setting.trip, interrupting := true }
  else { b with position := .opened, timer := none, tripLatch := b.tripLatch || stands b.setting.trip, interrupting := true }

/-- The changes of a simulator that reaches OPEN (R106). -/
def Simulator.openChanges (b : Simulator) (stands : Option (Fin 16) → Bool) : List BreakerChange :=
  if stands b.setting.close = true ∧ b.closeLatch = false then [.opened, .closing] else [.opened]

/-- A simulator that reaches CLOSED at `now` (R106). -/
def Simulator.reachedClosed (b : Simulator) (stands : Option (Fin 16) → Bool) (now : Clock) : Simulator :=
  if stands b.setting.trip = true ∧ b.tripLatch = false then
    { b with
      position := .opening, timer := some (later now b.setting.openTime, .opened),
      closeLatch := b.closeLatch || stands b.setting.close, interrupting := false }
  else { b with position := .closed, timer := none, closeLatch := b.closeLatch || stands b.setting.close, interrupting := false }

/-- The changes of a simulator that reaches CLOSED (R106). -/
def Simulator.closedChanges (b : Simulator) (stands : Option (Fin 16) → Bool) : List BreakerChange :=
  if stands b.setting.trip = true ∧ b.tripLatch = false then [.closed, .opening] else [.closed]

theorem Simulator.reachedOpen_setting (b : Simulator) (stands : Option (Fin 16) → Bool) (now : Clock) :
    (b.reachedOpen stands now).setting = b.setting := by
  unfold Simulator.reachedOpen
  split <;> rfl

theorem Simulator.reachedClosed_setting (b : Simulator) (stands : Option (Fin 16) → Bool) (now : Clock) :
    (b.reachedClosed stands now).setting = b.setting := by
  unfold Simulator.reachedClosed
  split <;> rfl

section
variable {s : State} {sh : Shot} {run : Run} {k : Fin 4} {b : Simulator}

theorem State.setBreaker_setBreaker (b c : Simulator) : (s.setBreaker k b).setBreaker k c = s.setBreaker k c := by
  simp [State.setBreaker]

/-- A position written, and then the beginning of the next move: both elements join at once. -/
theorem State.writeElem_begin (he : s.engine = .running sh run) (b b' : Simulator) (c c' : BreakerChange) :
    ((((s.setBreaker k b).writeElem k c).setBreaker k b').writeElem k c') =
      (s.setBreaker k b').writeAll sh run k [c, c'] := by
  rw [State.writeElem_eq (s := s.setBreaker k b) he, State.setBreaker_writeAll, State.setBreaker_setBreaker,
    State.writeAll_writeElem (s := s.setBreaker k b') he]
  rfl

theorem State.takeOpen_eq (he : s.engine = .running sh run) (hb : s.breakers[k] = b) :
    s.takeOpen k = (s.setBreaker k (b.reachedOpen s.stands s.now)).writeAll sh run k (b.openChanges s.stands) := by
  unfold State.takeOpen Simulator.reachedOpen Simulator.openChanges
  rw [hb]
  by_cases h : s.stands b.setting.close = true ∧ b.closeLatch = false
  · rw [if_pos h, if_pos h, if_pos (by simp [h])]
    unfold State.beginClosing
    rw [State.writeElem_breakers, State.setBreaker_breakers, State.writeElem_begin he]
    simp
  · rw [if_neg h, if_neg h, if_neg (by simpa using h)]
    exact State.writeElem_eq (s := s.setBreaker k _) he _

theorem State.takeClosed_eq (he : s.engine = .running sh run) (hb : s.breakers[k] = b) :
    s.takeClosed k = (s.setBreaker k (b.reachedClosed s.stands s.now)).writeAll sh run k (b.closedChanges s.stands) := by
  unfold State.takeClosed Simulator.reachedClosed Simulator.closedChanges
  rw [hb]
  by_cases h : s.stands b.setting.trip = true ∧ b.tripLatch = false
  · rw [if_pos h, if_pos h, if_pos (by simp [h])]
    unfold State.beginOpening
    rw [State.writeElem_breakers, State.setBreaker_breakers, State.writeElem_begin he]
    simp
  · rw [if_neg h, if_neg h, if_neg (by simpa using h)]
    exact State.writeElem_eq (s := s.setBreaker k _) he _

end

/-! ## MOVE_COMPLETE (R102, R106, R110) -/

section
variable {s : State} {sh : Shot} {run : Run} {k : Fin 4}

theorem exec_moveComplete_of_none (h : ∀ level, (s.breakers[k]).timer ≠ some (s.now, level)) :
    exec (.moveComplete k) s = .next s := by
  refine congrArg Host.Outcome.next ?_
  unfold State.completeMove
  split
  · rename_i due target ht
    rw [if_neg]
    intro hdue
    simp only [Bool.and_eq_true, beq_iff_eq] at hdue
    exact h target (hdue.2 ▸ ht)
  · rfl

theorem exec_moveComplete_opened (he : s.engine = .running sh run) (h : (s.breakers[k]).timer = some (s.now, .opened)) :
    exec (.moveComplete k) s = .next (s.reachOpen k) := by
  refine congrArg Host.Outcome.next ?_
  simp only [State.completeMove, h, he]
  simp [Engine.isRunning]

theorem exec_moveComplete_closed (he : s.engine = .running sh run) (h : (s.breakers[k]).timer = some (s.now, .closed)) :
    exec (.moveComplete k) s = .next (s.reachClosed k) := by
  refine congrArg Host.Outcome.next ?_
  simp only [State.completeMove, h, he]
  simp [Engine.isRunning]

/-- No request of this microsecond is to be made at a lane (R110). -/
theorem State.released_eq_false {i : Fin 12} : s.released i = false ↔
    ∀ m : Fin 4, has s.tick.moves.asked[i] m = true → ∃ j : Fin 4, j ≠ m ∧ (s.breakers[j]).holds i = true := by
  rw [← Bool.not_eq_true, State.released_iff]
  simp only [not_exists, not_and, Bool.not_eq_false]
  refine forall_congr' fun m => imp_congr_right fun _ => ?_
  rw [← Bool.not_eq_false, State.heldByOther_eq_false]
  simp

/-- A cut request of this microsecond at a lane, case by case (R80, R110). -/
theorem State.requestCut_eq (t : State) (x : SynthLane) (k : Fin 4) (i : Fin 12) (now : Clock) :
    x.requestCut k now (t.released i) =
      match x.cut with
      | .live => { x with cut := .cutting k 0 }
      | .cutting _ _ => if x.reenergise = some now ∧ (∀ m : Fin 4, has t.tick.moves.asked[i] m = true →
          ∃ j : Fin 4, j ≠ m ∧ (t.breakers[j]).holds i = true) then { x with reenergise := none } else x
      | .cut => { x with reenergise := none } := by
  cases hcut : x.cut <;> simp only [SynthLane.requestCut, hcut]
  exact if_congr (and_congr_right' State.released_eq_false) rfl rfl

/-- A re-energising request of this microsecond at a lane, case by case (R110, R112). -/
theorem State.requestReenergise_eq {t : State} {x : SynthLane} {i : Fin 12} (hx : t.synth.lanes[i] = x) (k : Fin 4) (now : Clock) :
    (if t.asksAt k i = true then x.requestReenergise now else x) =
      match x.cut with
      | .live => x
      | .cutting _ _ =>
        if ∃ m : Fin 4, has t.tick.moves.asked[i] m = true ∧ ∀ j : Fin 4, j ≠ m → (t.breakers[j]).holds i = false then
          { x with reenergise := some (x.reenergise.getD now) }
        else x
      | .cut =>
        if ∀ j : Fin 4, j ≠ k → (t.breakers[j]).holds i = false then { x with reenergise := some (x.reenergise.getD now) } else x := by
  have hreleased : t.released i = true ↔
      ∃ m : Fin 4, has t.tick.moves.asked[i] m = true ∧ ∀ j : Fin 4, j ≠ m → (t.breakers[j]).holds i = false :=
    State.released_iff.trans (exists_congr fun m => and_congr_right' State.heldByOther_eq_false)
  have hheld : (!t.heldByOther k i) = true ↔ ∀ j : Fin 4, j ≠ k → (t.breakers[j]).holds i = false := by
    rw [Bool.not_eq_true', State.heldByOther_eq_false]
  subst hx
  cases hcut : (t.synth.lanes[i]).cut <;> simp only [State.asksAt, SynthLane.requestReenergise, hcut]
  · simp
  · exact if_congr hreleased rfl rfl
  · exact if_congr hheld rfl rfl

/-- What reaching OPEN changes (R106, R110). -/
theorem State.reachOpen_frame (he : s.engine = .running sh run) : s.reachOpen k =
    { s with breakers := (s.reachOpen k).breakers, synth := { s.synth with lanes := (s.reachOpen k).synth.lanes },
             engine := (s.reachOpen k).engine, reports := (s.reachOpen k).reports,
             tick := { s.tick with moves := { s.tick.moves with
               opened := including s.tick.moves.opened k, begun := (s.reachOpen k).tick.moves.begun } } } := by
  rw [State.reachOpen, State.takeOpen_eq he rfl, State.writeAll_frame]
  rfl

/-- What reaching CLOSED changes (R106, R110). -/
theorem State.reachClosed_frame (he : s.engine = .running sh run) : s.reachClosed k =
    { s with breakers := (s.reachClosed k).breakers, synth := { s.synth with lanes := (s.reachClosed k).synth.lanes },
             engine := (s.reachClosed k).engine, reports := (s.reachClosed k).reports,
             tick := { s.tick with moves := { s.tick.moves with asked := (s.reachClosed k).tick.moves.asked } } } := by
  rw [State.reachClosed, State.takeClosed_eq he rfl, State.writeAll_frame]
  rfl

end

theorem State.stands_eq (s : State) : s.stands = fun x => match x with
    | none => false
    | some i => (s.contacts[i]).setting.enabled && (s.contacts[i]).accepted == (s.contacts[i]).setting.active := by
  funext x
  cases x <;> rfl

/-- The lanes whose cutting has begun at this microsecond, once a simulator more has reached OPEN (R80, R110). -/
theorem State.cutRequests_marks (s : State) (k : Fin 4) (i : Fin 12) : has (s.cutRequests k).tick.moves.begun i =
    (has s.tick.moves.begun i || ((s.breakers[k]).setting.binds i && (s.synth.lanes[i]).cut == .live)) := by
  simp [State.cutRequests, State.noteOpened]

/-- What reaching OPEN makes of the simulators, the lanes and the marks of the microsecond (R106, R110). -/
theorem State.reachOpen_makes {s : State} {sh : Shot} {run : Run} {k : Fin 4} {b : Simulator} (he : s.engine = .running sh run)
    (hb : s.breakers[k] = b) :
    (s.reachOpen k).breakers = s.breakers.set k (b.reachedOpen s.stands s.now) ∧
      (∀ i : Fin 12, (s.reachOpen k).synth.lanes[i] = if b.setting.binds i = true then
        (s.synth.lanes[i]).requestCut k s.now ((s.takeOpen k).released i) else s.synth.lanes[i]) ∧
      ∀ i : Fin 12, has (s.reachOpen k).tick.moves.begun i = (has s.tick.moves.begun i ||
        (b.setting.binds i && (s.synth.lanes[i]).cut == .live)) := by
  have hbreakers : (s.takeOpen k).breakers = s.breakers.set k (b.reachedOpen s.stands s.now) := by
    rw [State.takeOpen_eq he hb, State.writeAll_frame]
    rfl
  have hset : ((s.takeOpen k).breakers[k]).setting = b.setting := by
    rw [hbreakers, ← b.reachedOpen_setting s.stands s.now]
    exact congrArg Simulator.setting (Vector.getElem_set_self _)
  have hnow : (s.takeOpen k).now = s.now := by simp [State.now]
  refine ⟨hbreakers, fun i => ?_, fun i => ?_⟩
  · have hlane := (s.takeOpen k).cutRequests_lane k i
    simp only [hset, hnow, State.takeOpen_keeps] at hlane
    exact hlane
  · have hbegun := (s.takeOpen k).cutRequests_marks k i
    simp only [hset, State.takeOpen_keeps] at hbegun
    exact hbegun

/-- What reaching CLOSED makes of the simulators, the lanes and the marks of the microsecond (R106, R110). -/
theorem State.reachClosed_makes {s : State} {sh : Shot} {run : Run} {k : Fin 4} {b : Simulator} (he : s.engine = .running sh run)
    (hb : s.breakers[k] = b) :
    (s.reachClosed k).breakers = s.breakers.set k (b.reachedClosed s.stands s.now) ∧
      (∀ i : Fin 12, (s.reachClosed k).synth.lanes[i] = if b.setting.binds i = true then
        (if ((s.takeClosed k).noteClosed k).asksAt k i = true then (s.synth.lanes[i]).requestReenergise s.now else s.synth.lanes[i])
        else s.synth.lanes[i]) ∧
      ∀ (i : Fin 12) (m : Fin 4), has (s.reachClosed k).tick.moves.asked[i] m = (has s.tick.moves.asked[i] m ||
        (m == k && b.setting.binds i && (s.synth.lanes[i]).cut != .live &&
          (!has s.tick.moves.begun i || has s.tick.moves.opened k))) := by
  have hbreakers : (s.takeClosed k).breakers = s.breakers.set k (b.reachedClosed s.stands s.now) := by
    rw [State.takeClosed_eq he hb, State.writeAll_frame]
    rfl
  have hset : ((s.takeClosed k).breakers[k]).setting = b.setting := by
    rw [hbreakers, ← b.reachedClosed_setting s.stands s.now]
    exact congrArg Simulator.setting (Vector.getElem_set_self _)
  have hnow : (s.takeClosed k).now = s.now := by simp [State.now]
  refine ⟨hbreakers, fun i => ?_, fun i m => ?_⟩
  · have hlane := (s.takeClosed k).reenergiseRequests_lane k i
    simp only [hset, hnow, State.takeClosed_keeps, ite_and] at hlane
    exact hlane
  · have hasked := (s.takeClosed k).noteClosed_asked k m i
    simp only [State.counts, hset, State.takeClosed_keeps, ← Bool.and_assoc] at hasked
    exact hasked

/-- Settles O47: the position and its elements, then the requests lane by lane. -/
theorem moveCompleteReachesThePosition : Obligations.MoveCompleteReachesThePosition := by
  intro s k sh run he b stands wrote
  have hstands : s.stands = stands := s.stands_eq
  have hwrote : ∀ (u : State) (c : Simulator) (cs : List BreakerChange), u.engine = ((s.setBreaker k c).writeAll sh run k cs).engine →
      u.reports = ((s.setBreaker k c).writeAll sh run k cs).reports → wrote u cs := fun u c cs hengine hreports =>
    ⟨fun h => by rw [hengine, hreports]; exact State.writeAll_due (s := s.setBreaker k c) h cs,
      fun h => by rw [hengine, hreports]; exact State.writeAll_open (s := s.setBreaker k c) h cs⟩
  refine ⟨exec_moveComplete_of_none, fun h => ⟨_, exec_moveComplete_opened he h, ?_⟩,
    fun h => ⟨_, exec_moveComplete_closed he h, ?_⟩⟩
  · have htake := State.takeOpen_eq (k := k) he rfl
    obtain ⟨hbreakers, hlanes, hbegun⟩ := State.reachOpen_makes (k := k) he rfl
    rw [hstands] at hbreakers htake
    refine ⟨hbreakers, fun i => (hlanes i).trans (if_congr Iff.rfl ?_ rfl), ?_, hbegun, State.reachOpen_frame he⟩
    · rw [State.requestCut_eq, show (s.takeOpen k).tick = s.tick by simp]
      rfl
    · refine hwrote _ (b.reachedOpen stands s.now) _ ?_ ?_
      · have hengine := congrArg State.engine htake
        exact hengine
      · have hreports := congrArg State.reports htake
        exact hreports
  · have htake := State.takeClosed_eq (k := k) he rfl
    obtain ⟨hbreakers, hlanes, hasked⟩ := State.reachClosed_makes (k := k) he rfl
    rw [hstands] at hbreakers htake
    have hother : ∀ j : Fin 4, j ≠ k → (s.reachClosed k).breakers[j] = s.breakers[j] := fun j hj => by
      simp only [hbreakers, Fin.getElem_fin]
      exact Vector.getElem_set_ne _ _ fun h => hj (Fin.ext h.symm)
    refine ⟨hbreakers, fun i => ?_, ?_, hasked, State.reachClosed_frame he⟩
    · refine (hlanes i).trans (if_congr Iff.rfl ?_ rfl)
      have hx : ((s.takeClosed k).noteClosed k).synth.lanes[i] = s.synth.lanes[i] := by
        show (s.takeClosed k).synth.lanes[i] = _
        simp
      have hheld : (∀ j : Fin 4, j ≠ k → (((s.takeClosed k).noteClosed k).breakers[j]).holds i = false) ↔
          ∀ j : Fin 4, j ≠ k → (s.breakers[j]).holds i = false :=
        forall_congr' fun j => imp_congr_right fun hj => by rw [← hother j hj]; exact Iff.rfl
      rw [State.requestReenergise_eq hx]
      generalize s.synth.lanes[i] = x
      obtain ⟨_, _, _, cutting, _, _⟩ := x
      cases cutting with
      | live => rfl
      | cutting b n => rfl
      | cut => exact if_congr hheld rfl rfl
    · refine hwrote _ (b.reachedClosed stands s.now) _ ?_ ?_
      · have hengine := congrArg State.engine htake
        exact hengine
      · have hreports := congrArg State.reports htake
        exact hreports

end Sys2Proof.Machine
end

section
/-! SUPPORT. The units in range (R74, R76, R78, R82, R87, R88, R102, R114, R156, R158): the properties that every step keeps, each a
property of one block of the state, so that an operation has to be looked at only for the blocks that it writes. -/

namespace Sys2Proof.Machine

/-! ## The properties block by block -/

/-- Every disabled contact input rests (R87, R88). -/
def ContactsRest (cs : Vector Contact 16) : Prop := ∀ i : Fin 16, (cs[i]).Rests

/-- Every simulator's timer fits its position, and outside RUNNING there is none (R102, R114). -/
def TimersFit (running : Bool) (bs : Vector Simulator 4) : Prop := ∀ k : Fin 4, (bs[k]).TimerFits running

/-- A lane as the Synthesizer keeps it (R74, R76, R80, R82). -/
def SynthLane.Sound (i : Fin 12) (x : SynthLane) : Prop :=
  (x.cut = .cut → x.residue = 0) ∧ (x.cut = .live → x.reenergise = none) ∧ x.adjust.natAbs ≤ 4095 ∧
    x.residue.natAbs ≤ 131072 * Config.fullScale i

/-- Every lane is as the Synthesizer keeps it. -/
def LanesKept (xs : Vector SynthLane 12) : Prop := ∀ i : Fin 12, (xs[i]).Sound i

/-- Every code and commanded value lies within its range (R78). -/
def OutputsFit (codes commanded : Vector Int 12) : Prop :=
  ∀ i : Fin 12, (codes[i]).natAbs ≤ 32767 ∧ (commanded[i]).natAbs ≤ Config.fullScale i

/-- The halves keep to their capacity, and the queued requests to the largest pre-trigger count (R21, R156, R158). -/
def CapturesFit (rs : List Request) (c : Captures) : Prop := (∀ r ∈ rs, r.preCount ≤ 2048) ∧ ∀ h : HalfId, (c.get h).Sound

/-- The queue keeps to its size, and the counters of the tickets, the serials and the passed-over requests to theirs. -/
def QueueFits (rs : List Request) (lastTicket lastSerial : Nat) : Prop :=
  rs.length ≤ 8 ∧ lastTicket ≤ 255 ∧ lastSerial ≤ 65535 ∧ ∀ r ∈ rs, r.passed ≤ 15

/-- A link's threshold and priority lie in their ranges. -/
def LinkState.InRange (x : LinkState) : Prop :=
  (1 ≤ x.threshold ∧ x.threshold ≤ 16) ∧ ∀ p ∈ x.priority, p.priority ≤ 7 ∧ p.maxWait ≤ 15

/-- Every link's threshold and priority lie in their ranges. -/
def LinksFit (ls : Links) : Prop := ∀ l : Link, (ls.get l).InRange

/-- Every miss run lies in its range. -/
def MissRunsFit (xs : Vector SupLane 12) : Prop := ∀ i : Fin 12, (xs[i]).missRun ≤ 255

/-- A tick whose engine's work is done has been opened (notes/assumptions/6.md). -/
def StagesFit (opened engine : Bool) : Prop := engine = true → opened = true

/-! ## What an operation keeps -/

/-- From `s` to `t` every one of the properties is kept, each by itself. An operation is looked at for the blocks it writes: a block that
it leaves as it was keeps its property by the lemmas about what the operation never writes. -/
structure State.KeepsSound (s t : State) : Prop where
  contacts : ContactsRest s.contacts → ContactsRest t.contacts
  timers : TimersFit s.engine.isRunning s.breakers → TimersFit t.engine.isRunning t.breakers
  lanes : LanesKept s.synth.lanes → LanesKept t.synth.lanes
  outputs : OutputsFit s.synth.codes s.synth.commanded → OutputsFit t.synth.codes t.synth.commanded
  captures : CapturesFit s.queue.requests s.captures → CapturesFit t.queue.requests t.captures
  queue : QueueFits s.queue.requests s.queue.lastTicket s.queue.lastSerial →
    QueueFits t.queue.requests t.queue.lastTicket t.queue.lastSerial
  links : LinksFit s.links → LinksFit t.links
  missRuns : MissRunsFit s.sup.lanes → MissRunsFit t.sup.lanes
  anchor : s.clock.anchor < 50 → t.clock.anchor < 50
  stages : StagesFit s.tick.opened s.tick.engine → StagesFit t.tick.opened t.tick.engine

/-- What the properties read is in `t` as in `s`. -/
def State.SameUnits (s t : State) : Prop :=
  t.contacts = s.contacts ∧ t.engine.isRunning = s.engine.isRunning ∧ t.breakers = s.breakers ∧
    t.synth.lanes = s.synth.lanes ∧ t.synth.codes = s.synth.codes ∧ t.synth.commanded = s.synth.commanded ∧
    t.captures = s.captures ∧ t.queue = s.queue ∧ t.links = s.links ∧ t.sup.lanes = s.sup.lanes ∧
    t.clock.anchor = s.clock.anchor ∧ t.tick.opened = s.tick.opened ∧ t.tick.engine = s.tick.engine

section
variable {s t u : State}

theorem State.KeepsSound.of_same (h : s.SameUnits t) : s.KeepsSound t := by
  obtain ⟨hcontacts, hrunning, hbreakers, hlanes, hcodes, hcommanded, hcaptures, hqueue, hlinks, hsup, hanchor, hopened, hengine⟩ := h
  constructor <;>
    simp only [hcontacts, hrunning, hbreakers, hlanes, hcodes, hcommanded, hcaptures, hqueue, hlinks, hsup, hanchor, hopened,
      hengine, imp_self]

theorem State.KeepsSound.refl : s.KeepsSound s := .of_same (by simp [State.SameUnits])

theorem State.KeepsSound.trans (h : s.KeepsSound t) (g : t.KeepsSound u) : s.KeepsSound u where
  contacts := g.contacts ∘ h.contacts
  timers := g.timers ∘ h.timers
  lanes := g.lanes ∘ h.lanes
  outputs := g.outputs ∘ h.outputs
  captures := g.captures ∘ h.captures
  queue := g.queue ∘ h.queue
  links := g.links ∘ h.links
  missRuns := g.missRuns ∘ h.missRuns
  anchor := g.anchor ∘ h.anchor
  stages := g.stages ∘ h.stages

theorem State.KeepsSound.foldl {α : Type} {g : State → α → State} (h : ∀ (s : State) x, s.KeepsSound (g s x)) (xs : List α)
    (s : State) : s.KeepsSound (xs.foldl g s) := by
  induction xs generalizing s with
  | nil => exact .refl
  | cons x xs ih => exact (h s x).trans (ih (g s x))

theorem State.unitsSound_iff : s.UnitsSound ↔ ContactsRest s.contacts ∧ TimersFit s.engine.isRunning s.breakers := Iff.rfl

theorem State.lanesSound_iff : s.LanesSound ↔ LanesKept s.synth.lanes ∧ OutputsFit s.synth.codes s.synth.commanded := by
  constructor
  · intro h
    refine ⟨fun i => ?_, fun i => ?_⟩ <;> obtain ⟨hcut, hlive, hadjust, hresidue, hcode, hcommanded⟩ := h i
    · exact ⟨hcut, hlive, hadjust, hresidue⟩
    · exact ⟨hcode, hcommanded⟩
  · rintro ⟨hlanes, houtputs⟩ i
    obtain ⟨hcut, hlive, hadjust, hresidue⟩ := hlanes i
    exact ⟨hcut, hlive, hadjust, hresidue, houtputs i⟩

theorem State.capturesSound_iff : s.CapturesSound ↔ CapturesFit s.queue.requests s.captures := Iff.rfl

theorem State.inRange_iff : s.InRange ↔ s.clock.anchor < 50 ∧
    QueueFits s.queue.requests s.queue.lastTicket s.queue.lastSerial ∧ LinksFit s.links ∧ MissRunsFit s.sup.lanes := by
  constructor
  · rintro ⟨hanchor, hlength, hticket, hserial, hpassed, hthreshold, hpriority, hmiss⟩
    exact ⟨hanchor, ⟨hlength, hticket, hserial, hpassed⟩, fun l => ⟨hthreshold l, hpriority l⟩, hmiss⟩
  · rintro ⟨hanchor, ⟨hlength, hticket, hserial, hpassed⟩, hlinks, hmiss⟩
    exact ⟨hanchor, hlength, hticket, hserial, hpassed, fun l => (hlinks l).1, fun l => (hlinks l).2, hmiss⟩

/-- The properties of the statement, from those of the blocks. -/
theorem State.KeepsSound.keeps (h : s.KeepsSound t) : (s.UnitsSound → t.UnitsSound) ∧ (s.LanesSound → t.LanesSound) ∧
    (s.CapturesSound → t.CapturesSound) ∧ (s.InRange → t.InRange) ∧ (s.StagesInOrder → t.StagesInOrder) := by
  simp only [State.unitsSound_iff, State.lanesSound_iff, State.capturesSound_iff, State.inRange_iff]
  exact ⟨And.imp h.contacts h.timers, And.imp h.lanes h.outputs, h.captures,
    And.imp h.anchor (And.imp h.queue (And.imp h.links h.missRuns)), h.stages⟩

end

/-! ## One entry written -/

section
variable {s : State}

theorem ContactsRest.set {cs : Vector Contact 16} (h : ContactsRest cs) (i : Fin 16) {c : Contact} (hc : (cs[i]).Rests → c.Rests) :
    ContactsRest (cs.set i c) := fun j => by
  by_cases hij : i = j
  · subst hij
    simpa using hc (h i)
  · simpa [Vector.getElem_set_ne, Fin.val_inj, hij] using h j

theorem TimersFit.set {running : Bool} {bs : Vector Simulator 4} (h : TimersFit running bs) (k : Fin 4) {b : Simulator}
    (hb : (bs[k]).TimerFits running → b.TimerFits running) : TimersFit running (bs.set k b) := fun j => by
  by_cases hkj : k = j
  · subst hkj
    simpa using hb (h k)
  · simpa [Vector.getElem_set_ne, Fin.val_inj, hkj] using h j

theorem LanesKept.set {xs : Vector SynthLane 12} (h : LanesKept xs) (i : Fin 12) {x : SynthLane}
    (hx : (xs[i]).Sound i → x.Sound i) : LanesKept (xs.set i x) := fun j => by
  by_cases hij : i = j
  · subst hij
    simpa using hx (h i)
  · simpa [Vector.getElem_set_ne, Fin.val_inj, hij] using h j

theorem LanesKept.ofFn {xs : Vector SynthLane 12} (h : LanesKept xs) {f : Fin 12 → SynthLane}
    (hf : ∀ i, (xs[i]).Sound i → (f i).Sound i) : LanesKept (Vector.ofFn f) := fun i => by
  simpa using hf i (h i)

theorem MissRunsFit.set {xs : Vector SupLane 12} (h : MissRunsFit xs) (i : Fin 12) {x : SupLane}
    (hx : (xs[i]).missRun ≤ 255 → x.missRun ≤ 255) : MissRunsFit (xs.set i x) := fun j => by
  by_cases hij : i = j
  · subst hij
    simpa using hx (h i)
  · simpa [Vector.getElem_set_ne, Fin.val_inj, hij] using h j

theorem LinksFit.set {ls : Links} (h : LinksFit ls) (l : Link) {x : LinkState} (hx : (ls.get l).InRange → x.InRange) :
    LinksFit (ls.set l x) := fun m => by
  by_cases hml : m = l
  · subst hml
    simpa using hx (h m)
  · simpa [Links.get_set_ne _ hml] using h m

theorem State.setLink_sound (l : Link) {x : LinkState} (hx : (s.link l).InRange → x.InRange) : s.KeepsSound (s.setLink l x) := by
  constructor
  case links => exact fun h => h.set l hx
  all_goals simp

/-- A half of the granted shot changed by a change that keeps a half to its capacity. -/
theorem State.onHalf_sound (h : Option HalfId) {f : Half → Half} (hf : ∀ x, x.Sound → (f x).Sound) : s.KeepsSound (s.onHalf h f) := by
  constructor
  case captures =>
    rintro ⟨hrequests, hhalves⟩
    refine ⟨by simpa using hrequests, fun k => ?_⟩
    rw [State.onHalf_get]
    split
    · exact hf _ (hhalves k)
    · exact hhalves k
  all_goals simp

end

/-! ## A capture half (R156 to R159) -/

section
variable {h : Half}

theorem Half.sound_free : Half.free.Sound := ⟨by decide, by decide, fun h => (by cases h), fun n hn => by cases hn⟩

theorem Half.Sound.begin (hs : h.Sound) : h.begin.Sound := by
  obtain ⟨hpre, hlength, -, htrigger⟩ := hs
  exact ⟨hpre, hlength, fun hp => (by cases hp), htrigger⟩

theorem Half.Sound.stop (hs : h.Sound) : h.stop.Sound := by
  obtain ⟨hpre, hlength, -, htrigger⟩ := id hs
  unfold Half.stop
  split
  case h_6 => exact hs
  all_goals exact ⟨hpre, hlength, fun hp => (by cases hp), htrigger⟩

theorem Half.Sound.noteTrigger (hs : h.Sound) (n : Nat) : (h.noteTrigger n).Sound := by
  obtain ⟨hpre, hlength, -, htrigger⟩ := id hs
  unfold Half.noteTrigger
  split
  · exact ⟨hpre, hlength, fun hp => (by cases hp), htrigger⟩
  · exact hs

theorem length_appendCircular {rs : List Sample} (hle : rs.length ≤ 8192) (r : Sample) :
    rs.length ≤ (appendCircular rs r).length ∧ (appendCircular rs r).length ≤ 8192 := by
  have hsize : Config.halfSize = 8192 := rfl
  unfold appendCircular
  rw [hsize]
  split <;> simp <;> omega

/-- A record appended in a phase before the trigger. -/
theorem Half.Sound.appendCircular (hs : h.Sound) (r : Sample) (hphase : h.phase ≠ .postTrigger) :
    ({ h with records := Machine.appendCircular h.records r, written := h.written + 1 } : Half).Sound := by
  obtain ⟨hpre, hlength, -, htrigger⟩ := hs
  obtain ⟨hmore, hle⟩ := length_appendCircular hlength r
  exact ⟨hpre, hle, fun hp => absurd hp hphase, fun n hn => ⟨(htrigger n hn).1, (htrigger n hn).2.trans_le hmore⟩⟩

theorem Half.append_phase (rs : List Sample) (r : Sample) (hp : (h.append rs r).phase = .postTrigger) :
    (h.append rs r).records.length < 8192 := by
  simp only [Half.append] at hp ⊢
  split at hp
  · assumption
  · cases hp

theorem Half.Sound.writeTrigger (hs : h.Sound) (r : Sample) : (h.writeTrigger r).Sound := by
  obtain ⟨hpre, -, -, -⟩ := hs
  have hkept : (lastOf (min h.preCount h.written) h.records).length ≤ h.preCount := by
    simp only [lastOf, List.length_drop]
    omega
  refine ⟨hpre, ?_, h.append_phase _ r, fun n hn => ?_⟩
  · simp only [Half.writeTrigger, Half.append, List.length_append, List.length_singleton]
    omega
  · cases hn
    exact ⟨hkept, by simp [Half.writeTrigger, Half.append]⟩

theorem Half.Sound.write (hs : h.Sound) (r : Sample) : (h.write r).Sound := by
  obtain ⟨hpre, hlength, hpost, htrigger⟩ := id hs
  unfold Half.write
  split
  case h_1 hp => exact hs.appendCircular r (by simp [hp])
  case h_2 n hp =>
    split
    · exact hs.writeTrigger r
    · exact hs.appendCircular r (by simp [hp])
  case h_3 hp =>
    have hroom := hpost hp
    refine ⟨hpre, ?_, h.append_phase _ r, fun n hn => ⟨(htrigger n hn).1, ?_⟩⟩
    · simp only [Half.append, List.length_append, List.length_singleton]
      omega
    · have := (htrigger n hn).2
      simp only [Half.append, List.length_append, List.length_singleton]
      omega
  case h_4 hp => exact ⟨hpre, hlength, hpost, htrigger⟩
  case h_5 => exact hs

theorem Half.sound_taken {r : Request} (hr : r.preCount ≤ 2048) : (Half.taken r).Sound :=
  ⟨hr, Nat.zero_le _, fun h => (by cases h), fun n hn => by cases hn⟩

theorem Half.Sound.freeWith (hs : h.Sound) (k : Fin 16) : (h.freeWith k).Sound := by
  unfold Half.freeWith
  repeat' split
  · exact Half.sound_free
  · exact hs
  · exact hs

end

end Sys2Proof.Machine
end

section
/-! SUPPORT. The grant, the end of a shot and the changes of the time quality keep the units in range (R33, R58 to R64, R171). -/

namespace Sys2Proof.Machine

section
variable {s : State}

/-! ## Links and report slots -/

/-- A change of a link that leaves its threshold and its priority. -/
theorem State.setLink_keepsSound (l : Link) {x : LinkState} (ht : x.threshold = (s.link l).threshold)
    (hp : x.priority = (s.link l).priority) : s.KeepsSound (s.setLink l x) :=
  State.setLink_sound l fun h => by rwa [LinkState.InRange, ht, hp]

theorem State.setReply_sound (l : Link) (r : Reply) : s.KeepsSound (s.setReply l r) := State.setLink_keepsSound l rfl rfl

theorem State.raiseGranted_sound (l : Link) : s.KeepsSound (s.raiseGranted l) := State.setLink_keepsSound l rfl rfl

theorem State.raiseEnded_sound (l : Link) : s.KeepsSound (s.raiseEnded l) := State.setLink_keepsSound l rfl rfl

theorem State.raiseTimeQuality_sound (l : Link) : s.KeepsSound (s.raiseTimeQuality l) := State.setLink_keepsSound l rfl rfl

theorem State.raiseLaneFault_sound : s.KeepsSound s.raiseLaneFault := State.setLink_keepsSound _ rfl rfl

theorem State.refuse_sound (l : Link) (kind tag : Byte) (d : Denial) : s.KeepsSound (s.refuse l kind tag d) := by
  unfold State.refuse
  dsimp only
  split <;> exact State.setLink_keepsSound l rfl rfl

theorem State.onReport_sound (k : Fin 16) (f : Report → Report) : s.KeepsSound (s.onReport k f) :=
  .of_same (by simp [State.SameUnits])

/-! ## The end of a shot (R58 to R64) -/

theorem State.handOn_sound (sh : Shot) : s.KeepsSound (s.handOn sh) := by
  have hreports : ∀ x, s.KeepsSound { s with reports := x } := fun x => .of_same (by simp [State.SameUnits])
  unfold State.handOn
  repeat' split
  · exact (hreports _).trans (State.onHalf_sound _ fun _ _ => Half.sound_free)
  · exact (hreports _).trans (State.onHalf_sound _ fun _ h => h)
  · exact .refl

theorem State.completeReport_sound (sh : Shot) : s.KeepsSound (s.completeReport sh) :=
  (State.onReport_sound _ _).trans (State.handOn_sound sh)

/-- The engine brought out of RUNNING, or to a state outside it, beside simulators without a timer (R114). -/
theorem State.setEngine_sound {e : Engine} (h : TimersFit s.engine.isRunning s.breakers → TimersFit e.isRunning s.breakers) :
    s.KeepsSound { s with engine := e } := by
  constructor
  case timers => exact h
  all_goals simp

/-- A latch or a record of the shot set, in the state in which the engine stands. -/
theorem State.setLatch_sound {e : Engine} (h : e.isRunning = s.engine.isRunning) : s.KeepsSound { s with engine := e } :=
  State.setEngine_sound (by rw [h]; exact id)

theorem State.tearDown_sound (sh : Shot) (h : s.engine.isRunning = false) : s.KeepsSound (s.tearDown sh) := by
  have hreport : s.KeepsSound ((s.closeRest sh.slot).completeReport sh) :=
    (State.onReport_sound _ _).trans (State.completeReport_sound sh)
  have hidle : ∀ (u : State) (x : Tables), u.engine.isRunning = false → u.KeepsSound { u with tables := x, engine := .idle } :=
    fun u x hu => .of_same (by simp [State.SameUnits, hu, show Engine.idle.isRunning = false from rfl])
  exact (hreport.trans (hidle _ _ (by simpa using h))).trans (State.raiseEnded_sound _)

/-- The entry into SETTLING, from the engine's being there on (R63). -/
theorem State.settle_sound {u : State} (sh : Shot) (start : Option Clock)
    (h : s.KeepsSound { u with engine := .settling sh start u.now }) : s.KeepsSound (u.settle sh start) := by
  unfold State.settle
  split
  · exact h.trans (State.tearDown_sound sh rfl)
  · exact h

theorem State.endArmed_sound (sh : Shot) (r : EndReason) (h : s.engine.isRunning = false) : s.KeepsSound (s.endArmed sh r) := by
  have hend : s.KeepsSound ((s.onHalf sh.half Half.stop).writeEnd sh r) :=
    (State.onHalf_sound _ fun _ hx => hx.stop).trans (State.onReport_sound _ _)
  refine State.settle_sound sh none (hend.trans (State.setEngine_sound ?_))
  simp only [State.writeEnd_keeps, State.onHalf_engine, h]
  exact id

theorem timersFit_stopped (bs : Vector Simulator 4) : TimersFit false (Vector.ofFn fun k : Fin 4 => (bs[k]).stop) := fun k => by
  simp [Simulator.TimerFits, Simulator.stop]

/-- At the end of a RUNNING shot its simulators stop, and no timer is left (R60, R114). -/
theorem State.endRunning_sound (sh : Shot) (run : Run) (r : EndReason) (cause : ExitCause) :
    s.KeepsSound (s.endRunning sh run r cause) := by
  refine State.settle_sound sh (some run.startTime) ?_
  constructor
  case timers =>
    intro _
    simp only [State.writeEnd_keeps, State.onHalf_breakers]
    exact timersFit_stopped _
  case lanes =>
    intro h
    simp only [State.writeEnd_keeps, State.onHalf_synth, State.leaveVisit_keeps, State.flushInto_keeps]
    exact h.ofFn fun i ⟨hcut, _, hadjust, hresidue⟩ => ⟨hcut, fun _ => rfl, hadjust, hresidue⟩
  case captures =>
    intro h
    exact ((State.onHalf_sound sh.half fun _ hx => hx.stop).trans (State.onReport_sound _ _)).captures (by simpa using h)
  all_goals simp

/-! ## Grants (R33, R34) -/

theorem serialAfter_le (n : Nat) : serialAfter n ≤ 65535 := by unfold serialAfter; split <;> omega

theorem Request.passOver_passed (r : Request) : r.passOver.passed ≤ 15 := by
  rw [r.passOver_eq]
  exact Nat.min_le_right _ _

/-- Requests taken out of the queue keep it within its size. -/
theorem QueueFits.sublist {rs qs : List Request} {t n : Nat} (h : QueueFits rs t n) (hq : qs.Sublist rs) : QueueFits qs t n := by
  obtain ⟨hlength, hticket, hserial, hpassed⟩ := h
  exact ⟨hq.length_le.trans hlength, hticket, hserial, fun r hr => hpassed r (hq.subset hr)⟩

theorem CapturesFit.sublist {rs qs : List Request} {c : Captures} (h : CapturesFit rs c) (hq : qs.Sublist rs) : CapturesFit qs c :=
  ⟨fun r hr => h.1 r (hq.subset hr), h.2⟩

theorem State.grantInto_sound {r : Request} (k : Fin 16) (h : s.engine.isRunning = false) (hr : r ∈ s.queue.requests) :
    s.KeepsSound (s.grantInto r k) := by
  constructor
  case timers =>
    rw [h, State.grantInto_engine]
    simp [Engine.isRunning]
  case captures =>
    rintro ⟨hrequests, hhalves⟩
    refine ⟨fun x hx => ?_, fun half => ?_⟩
    · simp only [State.grantInto_queue, List.mem_map] at hx
      obtain ⟨y, hy, rfl⟩ := hx
      exact hrequests y (List.mem_of_mem_erase hy)
    · rw [State.grantInto_half]
      split
      · exact Half.sound_taken (hrequests r hr)
      · exact hhalves half
  case queue =>
    rintro ⟨hlength, hticket, -, -⟩
    rw [State.grantInto_queue]
    refine ⟨?_, hticket, serialAfter_le _, fun x hx => ?_⟩
    · rw [List.length_map]
      exact (List.erase_sublist.length_le).trans hlength
    · obtain ⟨y, -, rfl⟩ := List.mem_map.1 hx
      exact y.passOver_passed
  case links =>
    intro h
    rw [State.grantInto_links]
    exact (State.raiseGranted_sound r.link).links h
  all_goals simp

theorem State.grantMoment_sound : s.KeepsSound s.grantMoment := by
  refine State.grantMoment_induct (P := fun t => s.KeepsSound t) .refl (fun t r k ht hc _ => ?_) fun t sh latch ht he => ?_
  · obtain ⟨hmem, heligible⟩ := State.choice_mem hc
    exact ht.trans (State.grantInto_sound k (by rw [State.eligible_idle heligible]; rfl) hmem)
  · exact ht.trans (State.endArmed_sound sh _ (by rw [he]; rfl))

/-! ## Ends requested, and the time quality (R58, R128, R171) -/

theorem State.requestEnd_sound (r : EndReason) : s.KeepsSound (s.requestEnd r) := by
  cases h : s.engine with
  | idle => rw [State.requestEnd_of_idle r h]; exact .refl
  | armed sh latch =>
    rw [State.requestEnd_of_armed r h]
    exact (State.endArmed_sound sh r (by rw [h]; rfl)).trans State.grantMoment_sound
  | running sh run =>
    rw [State.requestEnd_of_running r h]
    exact State.setLatch_sound (by rw [h]; rfl)
  | settling sh a b => rw [State.requestEnd_of_settling r h]; exact .refl

theorem State.judgeInhibit_sound : s.KeepsSound s.judgeInhibit := by
  unfold State.judgeInhibit
  split
  · exact State.requestEnd_sound _
  · exact .refl

theorem State.setQuality_sound (q : Quality) : s.KeepsSound (s.setQuality q) := by
  have hclock : s.KeepsSound { s with clock := { s.clock with quality := q } } := .of_same (by simp [State.SameUnits])
  have hraised : ∀ u : State, u.KeepsSound u.qualityChanged := fun u => by
    have hlinks : u.KeepsSound ((u.raiseTimeQuality .plan).raiseTimeQuality .panel) :=
      (State.raiseTimeQuality_sound _).trans (State.raiseTimeQuality_sound _)
    unfold State.qualityChanged
    dsimp only
    repeat' split
    · exact hlinks.trans (State.requestEnd_sound _)
    · exact hlinks
    · exact hlinks
  unfold State.setQuality
  dsimp only
  split
  · exact hclock
  · exact hclock.trans (hraised _)

end

end Sys2Proof.Machine
end

section
/-! SUPPORT. The simulators and the lanes at a move, an event and a tick keep the units in range (R74 to R80, R102 to R106, R110 to
R114). -/

namespace Sys2Proof.Machine

/-! ## A simulator (R102 to R106) -/

section
variable {b : Simulator}

theorem Simulator.timerFits_reachedOpen (stands : Option (Fin 16) → Bool) (now : Clock) :
    (b.reachedOpen stands now).TimerFits true := by
  unfold Simulator.reachedOpen
  split <;> simp [Simulator.TimerFits]

theorem Simulator.timerFits_reachedClosed (stands : Option (Fin 16) → Bool) (now : Clock) :
    (b.reachedClosed stands now).TimerFits true := by
  unfold Simulator.reachedClosed
  split <;> simp [Simulator.TimerFits]

theorem Simulator.timerFits_tookOpen (stands : Option (Fin 16) → Bool) (now : Clock) : (b.tookOpen stands now).TimerFits true := by
  unfold Simulator.tookOpen
  split <;> simp [Simulator.TimerFits]

theorem Simulator.timerFits_tookClosed (stands : Option (Fin 16) → Bool) (now : Clock) :
    (b.tookClosed stands now).TimerFits true := by
  unfold Simulator.tookClosed
  split <;> simp [Simulator.TimerFits]

/-- An event that a simulator handles leaves its timer fitting its position (R103 to R106). -/
theorem Simulator.TimerFits.handled (h : b.TimerFits true) (stands : Option (Fin 16) → Bool) (start now : Clock) (i : Fin 16)
    (d : Direction) : (b.handled stands start now i d).TimerFits true := by
  unfold Simulator.handled
  split
  · exact h
  split
  · exact h
  split
  · split
    · split
      · simp [Simulator.TimerFits]
      · exact Simulator.timerFits_tookOpen stands now
    · exact h
  split
  · split
    · split
      · simp [Simulator.TimerFits]
      · exact Simulator.timerFits_tookClosed stands now
    · exact h
  · exact h

/-- At the start of a shot no simulator moves (R101). -/
theorem Simulator.timerFits_start (x : BreakerSetting) (running : Bool) : (Simulator.start x).TimerFits running := by
  cases running
  · rfl
  · unfold Simulator.start
    split <;> simp [Simulator.TimerFits]

end

/-! ## A lane (R74 to R82, R110 to R112) -/

section
variable {i : Fin 12} {x : SynthLane}

theorem natAbs_entryResidue_le (i : Fin 12) (set : LaneSetting) (old new : Int) :
    (entryResidue i set old new).natAbs ≤ 131072 * Config.fullScale i := by
  unfold entryResidue
  split
  · simp
  · rw [clampInt_eq (by have := fullScale_pos i; omega)]
    omega

/-- A residue's decay keeps its bound (R75). -/
theorem natAbs_decayed_le (set : LaneSetting) (d : Int) : (decayed set d).natAbs ≤ d.natAbs := by
  unfold decayed
  split
  · exact le_rfl
  · rename_i h
    obtain ⟨hlow, hhigh⟩ := decayCoefficient_range (tau := set.tau) (by omega)
    exact natAbs_decay_le hlow (by omega)

theorem SynthLane.Sound.requestCut (h : x.Sound i) (k : Fin 4) (now : Clock) (stands : Bool) : (x.requestCut k now stands).Sound i := by
  obtain ⟨hcut, hlive, hadjust, hresidue⟩ := id h
  unfold SynthLane.requestCut
  repeat' split
  · exact ⟨fun h => (by cases h), fun h => (by cases h), hadjust, hresidue⟩
  · exact ⟨hcut, fun _ => rfl, hadjust, hresidue⟩
  · exact h
  · exact ⟨hcut, fun _ => rfl, hadjust, hresidue⟩

theorem SynthLane.Sound.requestReenergise (h : x.Sound i) (now : Clock) : (x.requestReenergise now).Sound i := by
  obtain ⟨hcut, hlive, hadjust, hresidue⟩ := id h
  unfold SynthLane.requestReenergise
  split
  · exact h
  · rename_i hnot
    exact ⟨hcut, fun hl => absurd hl hnot, hadjust, hresidue⟩

theorem SynthLane.Sound.makeCut (h : x.Sound i) : x.makeCut.Sound i := by
  obtain ⟨-, -, hadjust, -⟩ := h
  exact ⟨fun _ => rfl, fun hl => (by cases hl), hadjust, Nat.zero_le _⟩

theorem SynthLane.Sound.live (h : x.Sound i) (set : LaneSetting) (ac : Int) : (x.live i set ac).Sound i := by
  obtain ⟨-, -, hadjust, hresidue⟩ := h
  unfold SynthLane.live
  split
  · exact ⟨fun hc => (by cases hc), fun _ => rfl, hadjust, natAbs_entryResidue_le i _ _ _⟩
  · exact ⟨fun hc => (by cases hc), fun _ => rfl, hadjust, hresidue⟩

theorem SynthLane.sound_start (cut : Bool) : (SynthLane.start cut).Sound i := by
  refine ⟨fun _ => rfl, fun _ => rfl, by simp [SynthLane.start], by simp [SynthLane.start]⟩

/-- A lane of CUT or CUTTING stays so when it is tested (R111). -/
theorem SynthLane.tested_iff (x : SynthLane) : (x.tested.cut = .cut ↔ x.cut = .cut) ∧ (x.tested.cut = .live ↔ x.cut = .live) ∧
    x.tested.reenergise = x.reenergise ∧ x.tested.adjust = x.adjust := by
  unfold SynthLane.tested
  split
  · rename_i hc
    simp [hc]
  · simp

/-- A lane's residue at a tick keeps its bound, and is 0 at a CUT lane (R75, R76). -/
theorem State.laneResidue_sound {s : State} (h : (s.synth.lanes[i]).Sound i) (run : Run) :
    ((s.synth.lanes[i]).cut = .cut → s.laneResidue run i = 0) ∧ (s.laneResidue run i).natAbs ≤ 131072 * Config.fullScale i := by
  obtain ⟨-, -, -, hresidue⟩ := h
  unfold State.laneResidue
  dsimp only
  refine ⟨fun hc => if_pos hc, ?_⟩
  split
  · simp
  · split
    · exact hresidue
    · exact (natAbs_decayed_le _ _).trans hresidue

/-- A lane after a tick of RUNNING (R68, R75, R111). -/
theorem State.laneTick_sound {s : State} (h : (s.synth.lanes[i]).Sound i) (sh : Shot) (run : Run) :
    (s.laneTick sh run i).lane.Sound i := by
  obtain ⟨hcut, hresidue⟩ := State.laneResidue_sound h run
  obtain ⟨-, hlive, hadjust, -⟩ := id h
  obtain ⟨htcut, htlive, hreenergise, htadjust⟩ := (s.synth.lanes[i]).tested_iff
  unfold State.laneTick
  dsimp only
  split
  · obtain ⟨h1, h2, h3, h4⟩ := h.makeCut
    exact ⟨h1, h2, h3, h4⟩
  · exact ⟨fun hc => hcut (htcut.1 hc), fun hl => hreenergise.trans (hlive (htlive.1 hl)), by rw [htadjust]; exact hadjust, hresidue⟩

/-- A code and a commanded value lie within their ranges (R78). -/
theorem natAbs_laneCode_le (i : Fin 12) (v : Int) : (laneCode i v).natAbs ≤ 32767 := by
  rw [laneCode_eq]
  omega

theorem natAbs_commandedValue_le (i : Fin 12) (v : Int) : (commandedValue i v).natAbs ≤ Config.fullScale i := by
  by_cases h : clips i v = true
  · simp only [clips, Bool.or_eq_true, decide_eq_true_iff] at h
    unfold commandedValue
    split
    · simp
    · split
      · simp
      · omega
  · have hle : v.natAbs ≤ Config.fullScale i := by
      rw [clips_iff] at h
      omega
    simp only [clips, Bool.or_eq_true, decide_eq_true_iff, not_or] at h
    rw [commandedValue, if_neg h.1, if_neg h.2]
    exact hle

end

end Sys2Proof.Machine
end

section
/-! SUPPORT. The moves of the simulators and the accepted events keep the units in range (R87, R88, R91, R102 to R106, R110). -/

namespace Sys2Proof.Machine

theorem Engine.isRunning_eq (e : Engine) : e.isRunning = e.place.isSome := by cases e <;> rfl

theorem Engine.isRunning_of_place {e f : Engine} (h : f.place = e.place) : f.isRunning = e.isRunning := by
  rw [f.isRunning_eq, e.isRunning_eq, h]

theorem State.running_of_isRunning {s : State} (h : s.engine.isRunning = true) : ∃ sh run, s.engine = .running sh run := by
  cases he : s.engine with
  | running sh run => exact ⟨sh, run, rfl⟩
  | _ => rw [he] at h; cases h

section
variable {s : State}

/-! ## Requests at the lanes (R80, R110) -/

theorem State.cutRequests_sound (k : Fin 4) : s.KeepsSound (s.cutRequests k) := by
  constructor
  case outputs => exact id
  case lanes =>
    intro h i
    rw [State.cutRequests_lane]
    split
    · exact (h i).requestCut k _ _
    · exact h i
  all_goals simp

theorem State.reenergiseRequests_sound (k : Fin 4) : s.KeepsSound (s.reenergiseRequests k) := by
  constructor
  case outputs => exact id
  case lanes =>
    intro h i
    rw [State.reenergiseRequests_lane]
    split
    · exact (h i).requestReenergise _
    · exact h i
  all_goals simp

/-! ## A move that completes (R102, R106) -/

theorem State.reachOpen_sound {k : Fin 4} (h : s.engine.isRunning = true) : s.KeepsSound (s.reachOpen k) := by
  obtain ⟨sh, run, he⟩ := State.running_of_isRunning h
  have hplace : (s.takeOpen k).engine.isRunning = s.engine.isRunning := Engine.isRunning_of_place (s.takeOpen_shot k).2
  have htake : s.KeepsSound (s.takeOpen k) := by
    constructor
    case timers =>
      intro hs
      rw [hplace, ← State.cutRequests_breakers (s.takeOpen k) k, ← State.reachOpen, (State.reachOpen_makes he rfl).1]
      exact hs.set k fun _ => by rw [h]; exact Simulator.timerFits_reachedOpen _ _
    all_goals simp
  exact htake.trans (State.cutRequests_sound k)

theorem State.reachClosed_sound {k : Fin 4} (h : s.engine.isRunning = true) : s.KeepsSound (s.reachClosed k) := by
  obtain ⟨sh, run, he⟩ := State.running_of_isRunning h
  have hplace : (s.takeClosed k).engine.isRunning = s.engine.isRunning := Engine.isRunning_of_place (s.takeClosed_shot k).2
  have htake : s.KeepsSound (s.takeClosed k) := by
    constructor
    case timers =>
      intro hs
      rw [hplace, ← State.reenergiseRequests_breakers (s.takeClosed k) k, ← State.reachClosed, (State.reachClosed_makes he rfl).1]
      exact hs.set k fun _ => by rw [h]; exact Simulator.timerFits_reachedClosed _ _
    all_goals simp
  exact htake.trans (State.reenergiseRequests_sound k)

theorem State.completeMove_sound (k : Fin 4) : s.KeepsSound (s.completeMove k) := by
  unfold State.completeMove
  split
  · split
    · rename_i hdue
      have hrunning := (Bool.and_eq_true _ _ ▸ hdue).1
      split
      · exact State.reachOpen_sound hrunning
      · exact State.reachClosed_sound hrunning
    · exact .refl
  · exact .refl

theorem State.completeMoves_sound : s.KeepsSound s.completeMoves :=
  .foldl (fun _ k => (State.completeMove_sound k).trans (State.completeMove_sound k)) _ s

/-! ## An accepted event (R91) -/

theorem State.breakerEvent_sound {run : Run} {i : Fin 16} {d : Direction} {event : Clock} {k : Fin 4}
    (h : s.engine.isRunning = true) : s.KeepsSound (s.breakerEvent run i d event k) := by
  constructor
  case timers =>
    intro hs
    rw [Engine.isRunning_of_place (s.breakerEvent_shot run i d event k).2, State.breakerEvent_breakers, h]
    rw [h] at hs
    exact hs.set k fun hb => hb.handled _ _ _ _ _
  case lanes =>
    rw [State.breakerEvent_synth]; exact id
  case outputs =>
    rw [State.breakerEvent_synth]; exact id
  all_goals simp

/-- The four simulators handle an event, in RUNNING. -/
theorem State.breakerEvents_sound {run : Run} {i : Fin 16} {d : Direction} {event : Clock} (ks : List (Fin 4)) :
    ∀ {s : State}, s.engine.isRunning = true → s.KeepsSound (ks.foldl (fun t k => t.breakerEvent run i d event k) s) := by
  induction ks with
  | nil => exact fun _ => .refl
  | cons k ks ih =>
    intro s h
    exact (State.breakerEvent_sound h).trans (ih ((Engine.isRunning_of_place (s.breakerEvent_shot run i d event k).2).trans h))

theorem State.informBreakers_sound (i : Fin 16) (d : Direction) (event : Clock) : s.KeepsSound (s.informBreakers i d event) := by
  unfold State.informBreakers
  split
  · rename_i run he
    refine ((State.breakerEvents_sound _ (by rw [he]; rfl)).trans (.foldl (fun t k => ?cut) _ _)).trans (.foldl (fun t k => ?close) _ _)
    all_goals split
    · exact State.cutRequests_sound k
    · exact .refl
    · exact State.reenergiseRequests_sound k
    · exact .refl
  · exact .refl

theorem State.latchEdges_sound (i : Fin 16) (d : Direction) (event : Clock) : s.KeepsSound (s.latchEdges i d event) := by
  constructor
  case timers =>
    intro h
    rw [Engine.isRunning_of_place (s.latchEdges_shot i d event).2]
    simpa using h
  all_goals simp

theorem State.informCapture_sound (i : Fin 16) (d : Direction) : s.KeepsSound (s.informCapture i d) := by
  unfold State.informCapture
  split
  · refine State.onHalf_sound _ fun x hx => ?_
    split
    · exact hx.noteTrigger _
    · exact hx
  · exact .refl

theorem State.recordEvent_sound (i : Fin 16) (d : Direction) (event : Clock) : s.KeepsSound (s.recordEvent i d event) :=
  .of_same (by simp [State.SameUnits])

theorem State.fileEvent_sound (i : Fin 16) (d : Direction) (event : Clock) : s.KeepsSound (s.fileEvent i d event) := by
  unfold State.fileEvent
  split
  · exact .of_same (by simp [State.SameUnits])
  · exact State.recordEvent_sound i d event

theorem State.handOver_sound (i : Fin 16) (d : Direction) (event : Clock) : s.KeepsSound (s.handOver i d event) :=
  (((State.latchEdges_sound i d event).trans (State.informBreakers_sound i d event)).trans (State.informCapture_sound i d)).trans
    (State.fileEvent_sound i d event)

/-! ## Contact inputs (R87, R88) -/

theorem State.setContact_sound (i : Fin 16) {c : Contact} (h : (s.contacts[i]).Rests → c.Rests) : s.KeepsSound (s.setContact i c) := by
  constructor
  case contacts => exact fun hs => hs.set i h
  all_goals simp

theorem Contact.rests_of_enabled {c : Contact} (h : c.setting.enabled = true) : c.Rests := fun hoff => by
  rw [h] at hoff
  cases hoff

/-- A sample changes no more of a disabled input than its pin (R87). -/
theorem Contact.Rests.sample {c : Contact} (h : c.Rests) (l : Level) (now : Clock) : (c.sample l now).Rests := by
  cases hon : c.setting.enabled with
  | true =>
    refine Contact.rests_of_enabled ?_
    unfold Contact.sample Contact.begin Contact.change
    repeat' split
    all_goals exact hon
  | false =>
    have hsame : c.sample l now = { c with pin := l } := by simp [Contact.sample, Contact.begin, hon, (h hon).1]
    rw [hsame]
    exact h

theorem Contact.ends_enabled {c : Contact} {now : Clock} {e : Episode} (h : c.ends now = some e) : c.setting.enabled = true := by
  unfold Contact.ends at h
  split at h
  · split at h
    · rename_i hends
      exact hends.1
    · cases h
  · cases h

theorem State.endEpisode_sound {i : Fin 16} {e : Episode} (h : (s.contacts[i]).setting.enabled = true) :
    s.KeepsSound (s.endEpisode i e) := by
  have haccepted : s.KeepsSound (s.accepting i e) := by
    have hnoted : s.KeepsSound (s.noteEnded i (s.contacts[i]).accepted e) :=
      .of_same (by simp [State.SameUnits, State.noteEnded])
    exact hnoted.trans (State.setContact_sound i fun _ => Contact.rests_of_enabled h)
  unfold State.endEpisode
  dsimp only
  split
  · exact haccepted
  · exact haccepted.trans (State.handOver_sound _ _ _)

/-- A contact input as a start tick leaves it (R87). -/
theorem Contact.rests_start (c : Contact) (x : InputSetting) : (c.start x).Rests := by
  unfold Contact.start
  split
  · rename_i hon
    exact Contact.rests_of_enabled hon
  · exact fun _ => ⟨rfl, rfl⟩

end

end Sys2Proof.Machine
end

section
/-! SUPPORT. A tick keeps the units in range (R48, R51, R68, R74 to R79, R111, R112, R122 to R125). -/

namespace Sys2Proof.Machine

section
variable {s : State}

/-! ## The opening of a tick -/

theorem State.writeCapture_sound : s.KeepsSound s.writeCapture := by
  unfold State.writeCapture
  split
  · exact State.onHalf_sound _ fun _ hx => hx.write _
  · exact .refl

theorem State.openTick_sound : s.KeepsSound s.openTick := by
  unfold State.openTick
  split
  · exact .refl
  · have hopened : s.KeepsSound { s with
        tick := { s.tick with opened := true, frame := s.sup.frameIn }, sup := { s.sup with frameIn := none } } := by
      constructor
      case stages => exact fun _ _ => rfl
      all_goals simp
    exact hopened.trans State.writeCapture_sound

theorem State.openTick_opened (s : State) : s.openTick.tick.opened = true := by
  unfold State.openTick State.writeCapture
  split
  · assumption
  · dsimp only
    split <;> simp

theorem State.prepare_sound : s.KeepsSound s.prepare := by
  unfold State.prepare
  split
  · exact State.openTick_sound
  · exact State.openTick_sound.trans State.completeMoves_sound

theorem State.prepare_opened (s : State) : s.prepare.tick.opened = true := by
  unfold State.prepare
  split
  · exact s.openTick_opened
  · simp [s.openTick_opened]

/-! ## The comparison and the heat accounts (R122 to R125) -/

theorem State.judgedLane_missRun {i : Fin 12} (h : (s.sup.lanes[i]).missRun ≤ 255) : (s.judgedLane i).missRun ≤ 255 := by
  unfold State.judgedLane
  split
  · dsimp only
    rw [State.missRunNext_eq]
    split <;> omega
  · exact h

theorem State.compareLane_sound (i : Fin 12) : s.KeepsSound (s.compareLane i) := by
  cases h : s.toCompare i with
  | false => rw [State.compareLane_of_compared h]; exact .refl
  | true =>
    have hmarked : s.KeepsSound { s with
        sup := { s.sup with lanes := s.sup.lanes.set i (s.judgedLane i) }
        tick := { s.tick with compared := including s.tick.compared i } } := by
      constructor
      case missRuns => exact fun hs => hs.set i State.judgedLane_missRun
      all_goals simp
    rw [State.compareLane_eq h]
    dsimp only
    split
    · exact hmarked.trans State.raiseLaneFault_sound
    · exact hmarked

theorem State.compareLanes_sound : s.KeepsSound s.compareLanes := by
  have hmark : ∀ u : State, u.KeepsSound { u with tick := { u.tick with compared := BitVec.allOnes 12 } } := fun u =>
    .of_same (by simp [State.SameUnits])
  exact (State.KeepsSound.foldl (fun _ i => State.compareLane_sound i) _ s).trans (hmark _)

theorem State.compareAll_sound : s.KeepsSound s.compareAll := by
  unfold State.compareAll
  split
  · exact State.compareLanes_sound.trans (State.requestEnd_sound _)
  · exact State.compareLanes_sound

theorem State.heatAccounts_sound : s.KeepsSound s.heatAccounts := .of_same (by simp [State.SameUnits, State.heatAccounts])

theorem State.heatAll_sound : s.KeepsSound s.heatAll := by
  unfold State.heatAll
  split
  · exact .refl
  split
  · exact State.heatAccounts_sound.trans (State.requestEnd_sound _)
  · exact State.heatAccounts_sound

theorem State.superviseEnd_sound : s.KeepsSound s.superviseEnd := by
  unfold State.superviseEnd
  split
  · exact State.compareLanes_sound
  · exact State.compareLanes_sound.trans State.heatAccounts_sound

/-! ## The start of a shot and the entry of a state (R48, R49, R74) -/

theorem State.setResidues_sound (sh : Shot) (old : Option (Fin 64)) (new : Fin 64) : s.KeepsSound (s.setResidues sh old new) := by
  constructor
  case lanes =>
    refine fun h => h.ofFn fun i hi => ?_
    obtain ⟨hcut, hlive, hadjust, -⟩ := id hi
    dsimp only
    split
    · exact hi
    · rename_i hnot
      exact ⟨fun hc => absurd hc hnot, hlive, hadjust, natAbs_entryResidue_le i _ _ _⟩
  case outputs => exact id
  case stages => exact id
  all_goals simp

theorem State.openVisit_sound (sh : Shot) (n : Nat) (i : Fin 64) (entry : Nat) : s.KeepsSound (s.openVisit sh n i entry) := by
  have htold : ∀ u : State, u.KeepsSound (u.onHalf sh.half fun h => if (s.entry i).captureMark then h.noteTrigger entry else h) :=
    fun u => State.onHalf_sound _ fun x hx => by
      split
      · exact hx.noteTrigger _
      · exact hx
  exact (State.onReport_sound _ _).trans (htold _)

theorem State.loadProfile_timers (s : State) (sh : Shot) (running : Bool) : TimersFit running (s.loadProfile sh).breakers :=
  fun k => by simpa [State.loadProfile] using Simulator.timerFits_start _ running

theorem State.loadProfile_sound (sh : Shot) : s.KeepsSound (s.loadProfile sh) where
  contacts _ i := by simpa [State.loadProfile] using Contact.rests_start _ _
  timers _ := s.loadProfile_timers sh _
  lanes _ i := by simpa [State.loadProfile] using SynthLane.sound_start _
  outputs := id
  captures := id
  queue := id
  links := id
  missRuns _ i := by simp [State.loadProfile]
  anchor := id
  stages := id

theorem State.startShot_sound (sh : Shot) : s.KeepsSound (s.startShot sh) := by
  have hloaded : ∀ u : State, u.KeepsSound ((u.loadProfile sh).onHalf sh.half Half.begin) := fun u =>
    (State.loadProfile_sound sh).trans (State.onHalf_sound _ fun _ hx => hx.begin)
  have hengine : ∀ (u : State) (e : Engine),
      ((u.loadProfile sh).onHalf sh.half Half.begin).KeepsSound { (u.loadProfile sh).onHalf sh.half Half.begin with engine := e } :=
    fun u e => State.setEngine_sound fun _ => by
      rw [State.onHalf_breakers]
      exact u.loadProfile_timers sh _
  exact (((State.onReport_sound _ _).trans ((hloaded _).trans (hengine _ _))).trans (State.setResidues_sound sh none _)).trans
    (State.openVisit_sound sh 0 _ 0)

theorem State.enterState_sound {sh : Shot} {run : Run} (h : s.engine.isRunning = true) (target : Fin 64) :
    s.KeepsSound (s.enterState sh run target) := by
  have hengine : ∀ (u : State) (run' : Run), u.engine.isRunning = true → u.KeepsSound { u with engine := .running sh run' } :=
    fun u run' hu => State.setLatch_sound (by rw [hu]; rfl)
  exact ((State.setResidues_sound sh _ target).trans (hengine _ _ (by exact h))).trans (State.openVisit_sound sh _ target _)

/-! ## The engine's work (R51) -/

theorem State.perform_sound {a : Action} (h : s.Ready a) : s.KeepsSound (s.perform a) := by
  cases a with
  | rest | stay => exact .refl
  | start sh => exact State.startShot_sound sh
  | finish sh run r cause => exact (State.superviseEnd_sound.trans (State.endRunning_sound _ _ _ _)).trans State.grantMoment_sound
  | enter sh run target cause deferral =>
    obtain ⟨he, -⟩ := h
    have hleft : (s.leaveVisit sh run cause deferral).engine.isRunning = true := by simp [he, Engine.isRunning]
    exact (State.onReport_sound _ _).trans (State.enterState_sound hleft target)
  | defer sh run d =>
    obtain ⟨he, -⟩ := h
    exact State.setLatch_sound (by rw [he]; rfl)

theorem State.perform_opened (s : State) (a : Action) : (s.perform a).tick.opened = s.tick.opened := by
  cases a with
  | rest | stay | defer => rfl
  | start sh => simp [State.perform, State.startShot, State.loadProfile, State.setResidues]
  | enter => simp [State.perform, State.enterState, State.setResidues]
  | finish sh run r cause =>
    obtain ⟨-, htick⟩ := s.finish_supervision sh run r cause
    obtain ⟨-, hopened⟩ := s.compareLanes_marks
    rw [htick, State.superviseEnd]
    split <;> exact hopened

/-- The engine's work is marked as done at a tick that has been opened. -/
theorem State.settleTick_sound (h : s.tick.opened = true) : s.KeepsSound s.settleTick := by
  constructor
  case timers =>
    intro hs
    rw [Engine.isRunning_of_place s.settleTick_shot.2]
    simpa using hs
  case stages =>
    intro _ _
    rw [State.settleTick_tick]; exact h
  all_goals simp

theorem State.engineWork_sound : s.KeepsSound s.engineWork := by
  unfold State.engineWork
  split
  · have hopened : (s.prepare.perform s.prepare.action).tick.opened = true := (State.perform_opened _ _).trans s.prepare_opened
    exact (State.prepare_sound.trans (State.perform_sound s.prepare.action_ready)).trans (State.settleTick_sound hopened)
  · split
    · exact State.completeMoves_sound
    · exact .refl

/-! ## The Synthesizer at a tick (R68, R75 to R79, R112) -/

theorem State.setLane_sound (i : Fin 12) {x : SynthLane} (h : (s.synth.lanes[i]).Sound i → x.Sound i) :
    s.KeepsSound (s.setLane i x) := by
  constructor
  case outputs => exact id
  case lanes => exact fun hs => hs.set i h
  all_goals simp

theorem State.reenergiseLane_sound (sh : Shot) (run : Run) (i : Fin 12) : s.KeepsSound (s.reenergiseLane sh run i) := by
  have hlane : s.KeepsSound (s.setLane i ((s.synth.lanes[i]).live i ((s.entry run.inForce).lanes[i]) (s.laneAc sh run.inForce i))) :=
    State.setLane_sound i fun h => h.live _ _
  have hmark : ∀ (u : State) (x : LaneSet), u.KeepsSound { u with tick := { u.tick with residueSet := x } } := fun u x =>
    .of_same (by simp [State.SameUnits])
  unfold State.reenergiseLane
  dsimp only
  split
  · exact hlane.trans (hmark _ _)
  · exact hlane

theorem State.reenergiseDue_sound (sh : Shot) (run : Run) : s.KeepsSound (s.reenergiseDue sh run) :=
  .foldl (fun u i => by
    split
    · exact State.reenergiseLane_sound sh run i
    · exact .refl) _ s

/-- A lane's code and commanded value stand for the value that it gives at the tick (R78). -/
theorem State.laneTick_out (s : State) (sh : Shot) (run : Run) (i : Fin 12) :
    (s.laneTick sh run i).code = laneCode i (s.laneTick sh run i).lane.prev ∧
      (s.laneTick sh run i).commanded = commandedValue i (s.laneTick sh run i).lane.prev := ⟨rfl, rfl⟩

theorem State.playLanes_sound (sh : Shot) (run : Run) : s.KeepsSound (s.playLanes sh run) := by
  constructor
  case lanes =>
    intro h i
    rw [State.playLanes_lane]
    exact State.laneTick_sound ((State.reenergiseDue_sound sh run).lanes h i) sh run
  case outputs =>
    intro _ i
    obtain ⟨hcode, hcommanded, -⟩ := s.playLanes_out sh run i
    obtain ⟨hvalue, hclamped⟩ := (s.reenergiseDue sh run).laneTick_out sh run i
    rw [hcode, hcommanded, hvalue, hclamped]
    exact ⟨natAbs_laneCode_le i _, natAbs_commandedValue_le i _⟩
  case stages =>
    intro h
    have htick : (s.playLanes sh run).tick = (s.reenergiseDue sh run).tick := by
      simp only [State.playLanes, State.onReport_tick]
    rw [htick]
    exact (State.reenergiseDue_sound sh run).stages h
  all_goals simp

theorem State.restLanes_sound : s.KeepsSound s.restLanes := by
  constructor
  case lanes => exact id
  case outputs =>
    intro _ i
    simp [State.restLanes]
  case stages => exact id
  all_goals simp

theorem State.synthesise_sound : s.KeepsSound s.synthesise := by
  unfold State.synthesise
  split
  · exact State.playLanes_sound _ _
  · exact State.restLanes_sound

/-! ## The tick as a whole -/

theorem State.closeTick_sound : s.KeepsSound s.closeTick := by
  have hmark : ∀ (u : State) (x : Option TickLevels), u.KeepsSound { u with tick := { u.tick with synth := true, previous := x } } :=
    fun u x => .of_same (by simp [State.SameUnits])
  exact State.synthesise_sound.trans (hmark _ _)

theorem State.runTick_sound : s.KeepsSound s.runTick := by
  unfold State.runTick
  split
  · exact (((State.engineWork_sound.trans State.compareAll_sound).trans State.heatAll_sound).trans State.closeTick_sound).trans
      State.grantMoment_sound
  · exact .refl

/-! ## The lanes' events at a tick (R111, R112, R123) -/

theorem State.laneEvent_sound {due : State → Shot → Run → Bool} {act : State → Shot → Run → State}
    (h : ∀ (u : State) sh run, u.KeepsSound (act u sh run)) : s.KeepsSound (s.laneEvent due act) := by
  unfold State.laneEvent
  split
  · split
    · split
      · exact State.engineWork_sound.trans (h _ _ _)
      · exact .refl
    · exact .refl
  · exact .refl

theorem State.cutLane_sound (i : Fin 12) : s.KeepsSound (s.cutLane i) := State.setLane_sound i fun h => h.makeCut

theorem State.deviationFault_sound (i : Fin 12) : s.KeepsSound (s.deviationFault i) := by
  unfold State.deviationFault
  split
  · split
    · exact State.engineWork_sound
    · exact .refl
  · split
    · exact State.engineWork_sound.trans State.compareAll_sound
    · exact .refl

end

end Sys2Proof.Machine
end

section
/-! SUPPORT. The Test Clock, the resets and the effects of the requests keep the units in range (R12 to R27, R36, R37, R40, R54, R62,
R65, R82, R116 to R120, R130, R145, R149, R163 to R171, R181). -/

namespace Sys2Proof.Machine

section
variable {s : State}

/-! ## The Test Clock (R47, R48, R163 to R171) -/

theorem State.startSecond_sound : s.KeepsSound s.startSecond := by
  have hmark : ∀ u : State, u.KeepsSound { u with tick := { u.tick with synth := false } } := fun u =>
    .of_same (by simp [State.SameUnits])
  unfold State.startSecond
  split
  · split
    · rename_i sh _ _
      have hopened : (s.openTick.startShot sh).tick.opened = true :=
        (s.openTick.perform_opened (.start sh)).trans s.openTick_opened
      exact ((State.openTick_sound.trans (State.startShot_sound sh)).trans (State.settleTick_sound hopened)).trans (hmark _)
    · exact .refl
  · exact .refl

theorem State.reanchor_sound : s.KeepsSound s.reanchor := by
  unfold State.reanchor
  split
  · exact .refl
  · constructor
    case anchor => exact fun _ => Nat.mod_lt _ (by decide)
    all_goals simp

theorem State.acceptMark_sound (a : Acceptance) : s.KeepsSound (s.acceptMark a) := by
  have hclock : ∀ (u : State) (r : Option Clock) (n : Nat) (d : Option Int),
      u.KeepsSound { u with clock := { u.clock with reference := r, count := n, deviation := d } } := fun u r n d =>
        .of_same (by simp [State.SameUnits])
  exact ((State.reanchor_sound.trans (hclock _ _ _ _)).trans (State.setQuality_sound _)).trans State.startSecond_sound

theorem State.handleMark_sound : s.KeepsSound s.handleMark := by
  unfold State.handleMark
  split
  · split
    · exact State.acceptMark_sound _
    · exact .refl
  · exact .refl

theorem State.expire_sound : s.KeepsSound s.expire := by
  have hclock : s.KeepsSound { s with clock := { s.clock with reference := none, count := 0 } } :=
    .of_same (by simp [State.SameUnits])
  unfold State.expire
  split
  · exact State.setQuality_sound _
  · exact hclock.trans (State.setQuality_sound _)

theorem State.setDiscipline_sound (on : Bool) : s.KeepsSound (s.setDiscipline on) := by
  have hclock : s.KeepsSound (s.switchDiscipline on) := .of_same (by simp [State.SameUnits, State.switchDiscipline])
  unfold State.setDiscipline
  split
  · exact .refl
  · exact hclock.trans (State.setQuality_sound _)

/-- At the end of a microsecond the stages of its tick are forgotten, and the grid runs on (R163, R164). -/
theorem State.advance_sound : s.KeepsSound s.advance := by
  constructor
  case contacts =>
    intro h i
    simpa [State.advance, Contact.Rests] using h i
  case anchor =>
    intro h
    show s.anchorNext < 50
    unfold State.anchorNext
    split
    · exact Nat.mod_lt _ (by decide)
    · exact h
  case stages =>
    intro _ h
    cases h
  all_goals simp

/-- The part after power-on reset is in range (R65). -/
theorem State.powerOn_sound : s.KeepsSound s.powerOn := by
  obtain ⟨-, htimers⟩ := State.reset_unitsSound
  obtain ⟨hlanes, houtputs⟩ := State.lanesSound_iff.1 State.reset_lanesSound
  obtain ⟨hanchor, hqueue, hlinks, hmissRuns⟩ := State.inRange_iff.1 State.reset_inRange
  exact {
    contacts := fun _ i => by simp [State.powerOn, Contact.Rests, Contact.reset]
    timers := fun _ => htimers
    lanes := fun _ => hlanes
    outputs := fun _ => houtputs
    captures := fun _ => State.reset_capturesSound
    queue := fun _ => hqueue
    links := fun _ => hlinks
    missRuns := fun _ => hmissRuns
    anchor := fun _ => hanchor
    stages := fun _ h => by cases h }

/-! ## Requests in the queue (R21 to R26, R40, R41) -/

theorem nextTicket_le (inUse : List Nat) (fuel last : Nat) : nextTicket inUse fuel last ≤ 255 := by
  have hafter : ∀ n, ticketAfter n ≤ 255 := fun n => by unfold ticketAfter; split <;> omega
  induction fuel generalizing last with
  | zero => exact hafter last
  | succ fuel ih =>
    unfold nextTicket
    split
    · exact ih _
    · exact hafter last

/-- The pre-trigger count of a request that passes stage 2 of R23 (R21). -/
theorem Submit.request_preCount {x : Submit} (l : Link) (h : x.bad = none) : (x.request l).preCount ≤ 2048 := by
  rw [Submit.bad_eq] at h
  split_ifs at h with _ _ _ _ hpre
  unfold Submit.request
  dsimp only
  split
  · rename_i hcapture
    have : ¬2048 < x.preCount.toNat := fun hlong => hpre ⟨by simpa [yes] using hcapture, hlong⟩
    omega
  · exact Nat.zero_le _

theorem State.submitDenial_room {l : Link} {r : Request} (h : s.submitDenial l r = none) : s.queue.requests.length < 8 := by
  have hsize : Config.queueSize = 8 := rfl
  unfold State.submitDenial at h
  split at h
  · cases h
  · omega

theorem State.enqueue_queue (r : Request) : (s.enqueue r).queue =
    { s.queue with requests := s.queue.requests ++ [r], lastTicket := r.ticket } := by
  simp only [State.enqueue]

theorem State.enqueue_sound {x : Request} (hroom : s.queue.requests.length < 8) (hticket : x.ticket ≤ 255) (hpre : x.preCount ≤ 2048)
    (hpassed : x.passed = 0) : s.KeepsSound (s.enqueue x) := by
  constructor
  case captures =>
    rintro ⟨hrequests, hhalves⟩
    rw [State.enqueue_queue, State.enqueue_captures]
    refine ⟨fun y hy => ?_, hhalves⟩
    obtain hy | hy := List.mem_append.1 hy
    · exact hrequests y hy
    · rw [List.mem_singleton.1 hy]
      exact hpre
  case queue =>
    rintro ⟨-, -, hserial, hwaiting⟩
    rw [State.enqueue_queue]
    refine ⟨?_, hticket, hserial, fun y hy => ?_⟩
    · rw [List.length_append]
      exact hroom
    · obtain hy | hy := List.mem_append.1 hy
      · exact hwaiting y hy
      · rw [List.mem_singleton.1 hy, hpassed]
        exact Nat.zero_le 15
  all_goals simp

theorem State.freshTicket_le (s : State) : s.freshTicket ≤ 255 := nextTicket_le _ _ _

/-- Requests that leave the queue, and the records that they release. -/
theorem State.leaveQueue_sound {rs : List Request} (h : rs.Sublist s.queue.requests) (x : Tables) :
    s.KeepsSound { s with queue := { s.queue with requests := rs }, tables := x } := by
  constructor
  case captures => exact fun hs => hs.sublist h
  case queue => exact fun hs => hs.sublist h
  all_goals simp

theorem State.removeQueued_sound (r : Request) : s.KeepsSound (s.removeQueued r) := State.leaveQueue_sound List.erase_sublist _

theorem State.removeQueuedOf_sound (l : Link) : s.KeepsSound (s.removeQueuedOf l) := State.leaveQueue_sound List.filter_sublist _

/-! ## Links (R36, R37, R145, R181) -/

theorem defaultPriority_inRange {l : Link} {p : Priority} (h : p ∈ defaultPriority l) : p.priority ≤ 7 ∧ p.maxWait ≤ 15 := by
  cases l <;> cases h <;> decide

theorem clampPriority_inRange (p w : Byte) : (clampPriority p w).priority ≤ 7 ∧ (clampPriority p w).maxWait ≤ 15 :=
  ⟨Nat.min_le_right _ _, Nat.min_le_right _ _⟩

theorem clampThreshold_inRange (n : Nat) : 1 ≤ clampThreshold n ∧ clampThreshold n ≤ 16 := by
  rw [clampThreshold_eq]
  omega

theorem State.endGoWait_sound (l : Link) : s.KeepsSound (s.endGoWait l) := by
  unfold State.endGoWait
  split
  · split
    · exact State.requestEnd_sound _
    · exact .refl
  · exact .refl

theorem State.clearOverride_sound : s.KeepsSound s.clearOverride := by
  have hcleared : s.KeepsSound { s with sup := { s.sup with override := false } } := .of_same (by simp [State.SameUnits])
  unfold State.clearOverride
  dsimp only
  split
  · exact hcleared.trans State.judgeInhibit_sound
  · exact hcleared

theorem State.setOverrideLatch_sound : s.KeepsSound s.setOverrideLatch := by
  have hset : s.KeepsSound { s with sup := { s.sup with override := true } } := .of_same (by simp [State.SameUnits])
  unfold State.setOverrideLatch
  dsimp only
  split
  · exact hset.trans State.grantMoment_sound
  · exact hset

theorem LinkState.InRange.linkReset {x : LinkState} (h : x.InRange) (l : Link) : (x.linkReset l).InRange := by
  obtain ⟨hthreshold, -⟩ := h
  exact ⟨hthreshold, fun p hp => defaultPriority_inRange hp⟩

theorem State.linkReset_sound (l : Link) : s.KeepsSound (s.linkReset l) := by
  have hrecords : ∀ u : State, u.KeepsSound (u.resetRecords l) := fun u => .of_same (by simp [State.SameUnits])
  have hshared : s.KeepsSound ((((s.setLink l ((s.link l).linkReset l)).removeQueuedOf l).resetRecords l).endGoWait l) :=
    (((State.setLink_sound l fun h => h.linkReset l).trans
      (State.removeQueuedOf_sound l)).trans (hrecords _)).trans (State.endGoWait_sound l)
  unfold State.linkReset
  dsimp only
  split
  · exact hshared.trans State.clearOverride_sound
  · exact hshared

theorem State.setSubscription_sound (l : Link) (on : Bool) (n : Nat) : s.KeepsSound (s.setSubscription l on n) :=
  State.setLink_sound l fun h => ⟨clampThreshold_inRange n, h.2⟩

/-! ## Supervision (R116 to R120) -/

theorem State.setSup_sound (i : Fin 12) {x : SupLane} (h : (s.sup.lanes[i]).missRun ≤ 255 → x.missRun ≤ 255) :
    s.KeepsSound (s.setSup i x) := by
  constructor
  case missRuns => exact fun hs => hs.set i h
  case stages => exact id
  all_goals simp

theorem State.setCondition_sound (i : Fin 12) (c : Condition) : s.KeepsSound (s.setCondition i c) := by
  have hset : s.KeepsSound (s.setSup i { s.sup.lanes[i] with condition := c }) := State.setSup_sound i id
  unfold State.setCondition
  dsimp only
  split
  · exact hset.trans State.raiseLaneFault_sound
  · exact hset

theorem State.declareFault_sound (i : Fin 12) : s.KeepsSound (s.declareFault i) := by
  unfold State.declareFault
  dsimp only
  split
  · exact (State.setCondition_sound i _).trans (State.requestEnd_sound _)
  · exact State.setCondition_sound i _

/-! ## Reports and capture halves (R145, R149, R150) -/

theorem Half.Sound.foldl_freeWith {x : Half} (hx : x.Sound) (ks : List (Fin 16)) : (ks.foldl (fun y k => y.freeWith k) x).Sound := by
  induction ks generalizing x with
  | nil => exact hx
  | cons k ks ih => exact ih (hx.freeWith k)

theorem State.leaveAll_sound (l : Link) : s.KeepsSound (s.leaveAll l) := by
  constructor
  case captures =>
    rintro ⟨hrequests, hhalves⟩
    refine ⟨hrequests, fun h => ?_⟩
    rw [State.leaveAll, Captures.get_foldl_freeBound]
    exact (hhalves h).foldl_freeWith _
  all_goals simp

theorem State.retire_sound (k : Fin 16) (l : Link) (w : LinkSet) : s.KeepsSound (s.retire k l w) := by
  have hslot : s.KeepsSound { s with reports := s.reports.set k (s.reports[k].retire l) } := .of_same (by simp [State.SameUnits])
  have hfreed : ∀ u : State, u.KeepsSound { u with captures := u.captures.freeBound k } := fun u => by
    constructor
    case captures =>
      rintro ⟨hrequests, hhalves⟩
      refine ⟨hrequests, fun h => ?_⟩
      rw [Captures.get_freeBound]
      exact (hhalves h).freeWith k
    all_goals simp
  unfold State.retire
  dsimp only
  split
  · exact (hslot.trans (hfreed _)).trans State.grantMoment_sound
  · exact hslot

/-! ## The engine's requests and its pins (R44, R46, R54, R82) -/

theorem natAbs_adjustCount_le (count delta : Int) : (adjustCount count delta).natAbs ≤ 4095 := by
  have hmax : Config.maxAdjust = 4095 := rfl
  rw [adjustCount, hmax, clampInt_eq (by decide)]
  omega

theorem State.setAdjust_sound (i : Fin 12) (delta : Int) :
    s.KeepsSound (s.setLane i { s.synth.lanes[i] with adjust := adjustCount (s.synth.lanes[i]).adjust delta }) :=
  State.setLane_sound i fun ⟨hcut, hlive, _, hresidue⟩ => ⟨hcut, hlive, natAbs_adjustCount_le _ _, hresidue⟩

theorem State.takeTrig_sound : s.KeepsSound s.takeTrig := by
  constructor
  case timers =>
    intro h
    rw [Engine.isRunning_of_place s.takeTrig_shot.2]
    simpa using h
  all_goals simp

end

end Sys2Proof.Machine
end

section
/-! SUPPORT. Every command, and the end of a microsecond, keeps the units in range (R74, R76, R78, R82, R87, R88, R102, R114, R156,
R158). -/

namespace Sys2Proof.Machine

/-- The state that an outcome goes on with has kept the properties. -/
def State.LeadsSound (s : State) (o : Host.Outcome State Fault Refusal) : Prop := ∀ t, o = .next t → s.KeepsSound t

section
variable {s : State}

theorem State.LeadsSound.next {t : State} (h : s.KeepsSound t) : s.LeadsSound (.next t) := fun _ e => by
  cases e
  exact h

theorem State.LeadsSound.ite {c : Prop} [Decidable c] {t u : State} (h : s.KeepsSound t) (g : s.KeepsSound u) :
    s.LeadsSound (.next (if c then t else u)) := .next (by split; exacts [h, g])

/-- A request keeps the properties when its effect does: a refusal and a reply write no more than its link (R175). -/
theorem State.LeadsSound.respond {l : Link} {k : Kind} {tag : Byte} {res : Except Denial (State × ReplyBody)}
    (h : ∀ t b, res = .ok (t, b) → s.KeepsSound t) : s.LeadsSound (.next (respond l k tag s res)) := by
  refine .next ?_
  cases res with
  | error d => exact State.refuse_sound l _ _ d
  | ok p => exact (h p.1 p.2 rfl).trans (State.setReply_sound l _)

theorem State.LeadsSound.ok {l : Link} {k : Kind} {tag : Byte} {t : State} {b : ReplyBody} (h : s.KeepsSound t) :
    s.LeadsSound (.next (Machine.respond l k tag s (.ok (t, b)))) :=
  .respond fun t' b' e => by cases e; exact h

/-! ## The requests that can be refused -/

section
variable {l : Link} {t : State} {b : ReplyBody}

theorem loadState_sound {body : List Byte} (h : loadState l body s = .ok (t, b)) : s.KeepsSound t := by
  unfold loadState at h
  repeat' split at h
  all_goals cases h
  exact .of_same (by simp [State.SameUnits])

theorem loadProfile_sound {body : List Byte} (h : loadProfile l body s = .ok (t, b)) : s.KeepsSound t := by
  unfold loadProfile at h
  repeat' split at h
  all_goals cases h
  exact .of_same (by simp [State.SameUnits])

theorem freeState_sound {n : Byte} (h : freeState l n s = .ok (t, b)) : s.KeepsSound t := by
  unfold freeState at h
  repeat' split at h
  all_goals cases h
  exact .of_same (by simp [State.SameUnits])

theorem freeProfile_sound {n : Byte} (h : freeProfile l n s = .ok (t, b)) : s.KeepsSound t := by
  unfold freeProfile at h
  repeat' split at h
  all_goals cases h
  exact .of_same (by simp [State.SameUnits])

theorem submitShot_sound {x : Submit} (h : submitShot l x s = .ok (t, b)) : s.KeepsSound t := by
  unfold submitShot at h
  split at h
  · cases h
  split at h
  · cases h
  split at h
  · cases h
  cases h
  rename_i hbad _ hdenial
  exact (State.enqueue_sound (x := s.completeRequest (x.request l)) (State.submitDenial_room hdenial) s.freshTicket_le
    (x.request_preCount l hbad) rfl).trans State.grantMoment_sound

theorem abort_sound {n : Byte} (h : abort l n s = .ok (t, b)) : s.KeepsSound t := by
  unfold abort abortGranted at h
  repeat' split at h
  all_goals cases h
  · exact State.removeQueued_sound _
  · exact State.requestEnd_sound _

theorem setLinkPriority_sound {p w : Byte} (h : setLinkPriority l p w s = .ok (t, b)) : s.KeepsSound t := by
  unfold setLinkPriority at h
  split at h
  all_goals cases h
  refine State.setLink_sound l fun ⟨hthreshold, _⟩ => ⟨hthreshold, fun q hq => ?_⟩
  cases hq
  exact clampPriority_inRange p w

theorem go_sound (h : go l s = .ok (t, b)) : s.KeepsSound t := by
  unfold go at h
  repeat' split at h
  all_goals cases h
  rename_i he _ _
  exact State.setLatch_sound (by rw [he]; rfl)

theorem panelStep_sound (h : panelStep l s = .ok (t, b)) : s.KeepsSound t := by
  unfold panelStep at h
  repeat' split at h
  all_goals cases h
  rename_i he _
  exact State.setLatch_sound (by rw [he]; rfl)

theorem adjust_sound {i d : Byte} (h : adjust l i d s = .ok (t, b)) : s.KeepsSound t := by
  unfold adjust at h
  repeat' split at h
  all_goals cases h
  exact State.setAdjust_sound _ _

theorem setSupervision_sound {i e : Byte} {d : Half16} {m : Byte} {r x : Half16}
    (h : setSupervision l i e d m r x s = .ok (t, b)) : s.KeepsSound t := by
  unfold setSupervision at h
  repeat' split at h
  all_goals cases h
  exact (State.setSup_sound _ fun _ => Nat.zero_le _).trans State.grantMoment_sound

theorem declareLaneFault_sound {i : Byte} (h : declareLaneFault l i s = .ok (t, b)) : s.KeepsSound t := by
  unfold declareLaneFault at h
  repeat' split at h
  all_goals cases h
  exact State.declareFault_sound _

theorem clearLaneFault_sound {i : Byte} (h : clearLaneFault l i s = .ok (t, b)) : s.KeepsSound t := by
  unfold clearLaneFault at h
  repeat' split at h
  all_goals cases h
  exact (State.setSup_sound _ fun _ => Nat.zero_le _).trans State.grantMoment_sound

theorem setOverride_sound {a : Byte} (h : setOverride l a s = .ok (t, b)) : s.KeepsSound t := by
  unfold setOverride at h
  repeat' split at h
  all_goals cases h
  · exact State.setOverrideLatch_sound
  · exact State.clearOverride_sound

theorem subscribe_sound {x n : Byte} (h : subscribe l x n s = .ok (t, b)) : s.KeepsSound t := by
  unfold subscribe at h
  dsimp only at h
  repeat' split at h
  all_goals cases h
  · exact ((State.leaveAll_sound l).trans (State.setSubscription_sound l _ _)).trans State.grantMoment_sound
  · exact State.setSubscription_sound l _ _

theorem retireReport_sound {k : Byte} {n : Half16} (h : retireReport l k n s = .ok (t, b)) : s.KeepsSound t := by
  unfold retireReport at h
  repeat' split at h
  all_goals cases h
  exact State.retire_sound _ l _

theorem setDiscipline_sound {x : Byte} (h : setDiscipline l x s = .ok (t, b)) : s.KeepsSound t := by
  unfold setDiscipline at h
  dsimp only at h
  repeat' split at h
  all_goals cases h
  exact State.setDiscipline_sound _

/-- The requests that read (R15, R148, R161): what they leave is the state that they find. -/
theorem reads_sound (h : (∃ n, readStateRecord n s = .ok (t, b)) ∨ (∃ n, readProfileRecord n s = .ok (t, b)) ∨
    (∃ k n p v f c, readReport k n p v f c s = .ok (t, b)) ∨ ∃ x f c, readCapture x f c s = .ok (t, b)) : s.KeepsSound t := by
  obtain ⟨n, h⟩ | ⟨n, h⟩ | ⟨k, n, p, v, f, c, h⟩ | ⟨x, f, c, h⟩ := h
  · unfold readStateRecord at h
    split at h <;> cases h
    exact .refl
  · unfold readProfileRecord at h
    split at h <;> cases h
    exact .refl
  · unfold readReport at h
    repeat' split at h
    all_goals cases h
    exact .refl
  · unfold readCapture at h
    dsimp only at h
    repeat' split at h
    all_goals cases h
    exact .refl

end

/-! ## Every command -/

theorem runRequest_sound (l : Link) (k : Kind) (tag : Byte) (body : List Byte) (s : State) :
    s.LeadsSound (runRequest l k tag body s) := by
  cases k with
  | nop | peekNotices | tableStatus | queueStatus | supervisionStatus | reportStatus | timeStatus => exact .ok .refl
  | takeNotices => exact .ok (State.setLink_keepsSound l rfl rfl)
  | clearFault => exact .ok (State.setLink_keepsSound l rfl rfl)
  | linkReset => exact .ok (State.linkReset_sound l)
  | loadState => exact .respond fun _ _ => loadState_sound
  | loadProfile => exact .respond fun _ _ => loadProfile_sound
  | freeState => exact .respond fun _ _ => freeState_sound
  | freeProfile => exact .respond fun _ _ => freeProfile_sound
  | readState => exact .respond fun _ _ h => reads_sound (.inl ⟨_, h⟩)
  | readProfile => exact .respond fun _ _ h => reads_sound (.inr (.inl ⟨_, h⟩))
  | submitShot => exact .respond fun _ _ => submitShot_sound
  | abort => exact .respond fun _ _ => abort_sound
  | setLinkPriority => exact .respond fun _ _ => setLinkPriority_sound
  | go => exact .respond fun _ _ => go_sound
  | step => exact .respond fun _ _ => panelStep_sound
  | adjust => exact .respond fun _ _ => adjust_sound
  | setSupervision => exact .respond fun _ _ => setSupervision_sound
  | declareLaneFault => exact .respond fun _ _ => declareLaneFault_sound
  | clearLaneFault => exact .respond fun _ _ => clearLaneFault_sound
  | setOverride => exact .respond fun _ _ => setOverride_sound
  | subscribe => exact .respond fun _ _ => subscribe_sound
  | readReport => exact .respond fun _ _ h => reads_sound (.inr (.inr (.inl ⟨_, _, _, _, _, _, h⟩)))
  | retireReport => exact .respond fun _ _ => retireReport_sound
  | readCapture => exact .respond fun _ _ h => reads_sound (.inr (.inr (.inr ⟨_, _, _, h⟩)))
  | setDiscipline => exact .respond fun _ _ => setDiscipline_sound

theorem execBadFrame_sound (l : Link) (bytes : List Byte) (s : State) : s.LeadsSound (execBadFrame l bytes s) := by
  unfold execBadFrame
  repeat' split
  · exact .next .refl
  · exact .next (State.refuse_sound l _ _ _)
  · exact runRequest_sound _ _ _ _ _

theorem execMark_sound (s : State) : s.LeadsSound (execMark s) := by
  have hsample : s.KeepsSound { s with clock := { s.clock with markNow := true } } := .of_same (by simp [State.SameUnits])
  exact .ite (hsample.trans State.handleMark_sound) hsample

theorem execTrigEdge_sound (s : State) : s.LeadsSound (execTrigEdge s) := by
  have hsample : s.KeepsSound { s with trig := { s.trig with now := true } } := .of_same (by simp [State.SameUnits])
  exact .ite (hsample.trans State.takeTrig_sound) hsample

theorem execInhibitAssert_sound (s : State) : s.LeadsSound (execInhibitAssert s) := by
  have hpin : s.KeepsSound { s with sup := { s.sup with pin := true } } := .of_same (by simp [State.SameUnits])
  have hedge : ∀ u : State, u.KeepsSound { u with sup := { u.sup with inhibit := true, override := false } } := fun u =>
    .of_same (by simp [State.SameUnits])
  exact .ite hpin ((hpin.trans (hedge _)).trans State.judgeInhibit_sound)

theorem execInhibitDeassert_sound (s : State) : s.LeadsSound (execInhibitDeassert s) := by
  have hpin : s.KeepsSound { s with sup := { s.sup with pin := false } } := .of_same (by simp [State.SameUnits])
  have hedge : ∀ u : State, u.KeepsSound { u with sup := { u.sup with inhibit := false } } := fun u =>
    .of_same (by simp [State.SameUnits])
  exact .ite ((hpin.trans (hedge _)).trans State.grantMoment_sound) hpin

theorem execEpisodeEnd_sound (i : Fin 16) (s : State) : s.LeadsSound (execEpisodeEnd i s) := by
  refine .next ?_
  split
  · rename_i e he
    exact State.endEpisode_sound (Contact.ends_enabled he)
  · exact .refl

theorem execVisitClose_sound (s : State) : s.LeadsSound (execVisitClose s) := by
  refine .next ?_
  split
  · exact State.onReport_sound _ _
  · exact .refl

theorem execTeardown_sound (s : State) : s.LeadsSound (execTeardown s) := by
  refine .next ?_
  split
  · rename_i sh hdue
    have hsettling : s.engine.isRunning = false := by
      unfold State.teardownDue at hdue
      split at hdue
      · rename_i he
        rw [he]
        rfl
      · cases hdue
    exact (State.tearDown_sound sh hsettling).trans State.grantMoment_sound
  · exact .refl

theorem exec_sound (c : Instr) (s : State) : s.LeadsSound (exec c s) := by
  cases hp : frameParts c with
  | some p =>
    obtain ⟨l, k, tag, body⟩ := p
    rw [← runRequest_of_parts hp]
    exact runRequest_sound l k tag body s
  | none =>
    cases c with
    | powerOnReset => exact .next State.powerOn_sound
    | badFrame l bytes => exact execBadFrame_sound l bytes s
    | grant => exact .next State.grantMoment_sound
    | trigEdge => exact execTrigEdge_sound s
    | mark => exact execMark_sound s
    | qualityExpiry => exact .ite State.expire_sound .refl
    | clockWrap => exact .ite State.advance_sound .refl
    | inhibitAssert => exact execInhibitAssert_sound s
    | inhibitDeassert => exact execInhibitDeassert_sound s
    | contactRawEdge i level => exact .next (State.setContact_sound i fun h => h.sample level _)
    | episodeEnd i => exact execEpisodeEnd_sound i s
    | moveComplete k => exact .next (State.completeMove_sound k)
    | readbackFrame frame => exact .next (.of_same (by simp [State.SameUnits]))
    | sampleTick => exact .next State.runTick_sound
    | timeExit | deferralEnd | shotStart | shotEnd => exact .ite State.engineWork_sound .refl
    | visitClose => exact execVisitClose_sound s
    | teardown => exact execTeardown_sound s
    | deviationFault i => exact .next (State.deviationFault_sound i)
    | cutTakesEffect i | cutLimit i => exact .next (State.laneEvent_sound fun _ _ _ => State.cutLane_sound i)
    | reenergise i => exact .next (State.laneEvent_sound fun _ sh run => State.reenergiseLane_sound sh run i)
    | _ => cases hp

theorem step_sound (s : State) : s.LeadsSound (step s) := by
  have htaken : ∀ rest, s.KeepsSound { s with pending := rest } := fun rest => .of_same (by simp [State.SameUnits])
  unfold step State.idle
  repeat' split
  · rename_i c rest _
    exact fun t h => (htaken rest).trans (exec_sound c _ t h)
  · exact exec_sound _ s
  · exact .next State.advance_sound

end

/-- Settles O59: every operation of the part keeps each of the properties of the blocks that it writes, so every command and the end
of a microsecond do. -/
theorem stepsKeepUnitsInRange : Obligations.StepsKeepUnitsInRange := fun s t h => (step_sound s t h).keeps

end Sys2Proof.Machine
end

section
/-! SUPPORT. What the report of a shot makes of an event and of a breaker element (R93 to R98, R113): the place in a list in order, the
element of an input, the widths and the visit of an event. -/

namespace Sys2Proof.Machine

/-! ## A place in a list in order (R98, R113) -/

/-- Item `x` comes before item `y` by time, and at equal times by its number. -/
abbrev Precedes {α : Type} {n : Nat} (time : α → Nat) (number : α → Fin n) (x y : α) : Prop :=
  time x < time y ∨ (time x = time y ∧ number x < number y)

/-- An item inserted in order stands behind every item it does not precede, and next before one that it precedes. -/
theorem exists_place {α : Type} {n : Nat} (time : α → Nat) (number : α → Fin n) (x : α) (xs : List α) :
    ∃ before after, xs = before ++ after ∧ xs.orderedInsert (Precedes time number) x = before ++ x :: after ∧
      (∀ y ∈ before, time y < time x ∨ (time y = time x ∧ number y ≤ number x)) ∧
      ∀ y ∈ after.head?, time x < time y ∨ (time y = time x ∧ number x < number y) := by
  induction xs with
  | nil => exact ⟨[], [], rfl, rfl, by simp, by simp⟩
  | cons y ys ih =>
    by_cases h : Precedes time number x y
    · have hy : time x < time y ∨ (time y = time x ∧ number x < number y) := by rwa [eq_comm (a := time y)]
      exact ⟨[], y :: ys, rfl, List.orderedInsert_cons_of_le _ _ h, by simp, by simpa using hy⟩
    · obtain ⟨before, after, hys, hinsert, hbefore, hafter⟩ := ih
      have hy : time y < time x ∨ (time y = time x ∧ number y ≤ number x) := by omega
      exact ⟨y :: before, after, congrArg (y :: ·) hys,
        (List.orderedInsert_of_not_le _ _ h).trans (congrArg (y :: ·) hinsert), List.forall_mem_cons.2 ⟨hy, hbefore⟩, hafter⟩

theorem insertEvent_eq (e : TimelineEvent) (xs : List TimelineEvent) :
    insertEvent e xs = xs.orderedInsert (Precedes TimelineEvent.time TimelineEvent.input) e := by
  induction xs with
  | nil => rfl
  | cons x xs ih => rw [insertEvent, ih, List.orderedInsert_cons]

theorem insertElem_eq (e : BreakerElem) (xs : List BreakerElem) :
    insertElem e xs = xs.orderedInsert (Precedes BreakerElem.time BreakerElem.sim) e := by
  induction xs with
  | nil => rfl
  | cons x xs ih => rw [insertElem, ih, List.orderedInsert_cons]

theorem Visit.addElem_of_full {v : Visit} (h : 16 ≤ v.breakers.length) (e : BreakerElem) :
    v.addElem e = { v with truncated := true } := if_neg (Nat.not_lt.2 h)

theorem Visit.addElem_of_room {v : Visit} (h : v.breakers.length < 16) (e : BreakerElem) :
    v.addElem e = { v with breakers := insertElem e v.breakers } := if_pos h

/-- A breaker element joins a list with room at its place (R113). -/
theorem Visit.addElem_place {v : Visit} (h : v.breakers.length < 16) (e : BreakerElem) :
    ∃ before after, v.breakers = before ++ after ∧ v.addElem e = { v with breakers := before ++ e :: after } ∧
      (∀ y ∈ before, y.time < e.time ∨ (y.time = e.time ∧ y.sim ≤ e.sim)) ∧
      ∀ y ∈ after.head?, e.time < y.time ∨ (y.time = e.time ∧ e.sim < y.sim) := by
  obtain ⟨before, after, hlist, hinsert, hplace⟩ := exists_place BreakerElem.time BreakerElem.sim e v.breakers
  exact ⟨before, after, hlist, by rw [Visit.addElem_of_room h, insertElem_eq, hinsert], hplace⟩

/-! ## The element of an input (R96) -/

/-- The element of an input before its first event. -/
def InputElem.blank (i : Fin 16) : InputElem :=
  { input := i, firstOperate := none, width := none, firstReset := none, operates := 0 }

@[simp] theorem InputElem.add_input (e : InputElem) (d : Direction) (time : Nat) : (e.add d time).input = e.input := by
  cases d <;> rfl

theorem InputElem.add_operate (e : InputElem) (time : Nat) : e.add .operate time =
    { e with firstOperate := some (e.firstOperate.getD time), operates := min 255 (e.operates + 1) } := by
  have hcount : saturateSucc Config.maxCount e.operates = min 255 (e.operates + 1) := by
    rw [saturateSucc, Nat.min_comm]
    rfl
  rw [← hcount]
  rfl

section
variable {i : Fin 16} {d : Direction} {time : Nat}

theorem addInput_cons (e : InputElem) (es : List InputElem) : addInput i d time (e :: es) =
    if e.input = i then e.add d time :: es
    else if i < e.input then (InputElem.blank i).add d time :: e :: es else e :: addInput i d time es := rfl

/-- An event leaves the elements of the other inputs. -/
theorem mem_addInput {x : InputElem} (hx : x.input ≠ i) (es : List InputElem) : x ∈ addInput i d time es ↔ x ∈ es := by
  have hne : ∀ e : InputElem, e.input = i → x ≠ e.add d time := fun e he h => hx (by rw [h, e.add_input, he])
  induction es with
  | nil => exact iff_of_false (fun h => hne _ rfl (List.mem_singleton.1 h)) List.not_mem_nil
  | cons e es ih =>
    rw [addInput_cons]
    split_ifs with he hlt
    · rw [List.mem_cons, List.mem_cons, or_iff_right (hne e he), or_iff_right fun h : x = e => hx (h ▸ he)]
    · rw [List.mem_cons, or_iff_right (hne (InputElem.blank i) rfl)]
    · rw [List.mem_cons, List.mem_cons]
      exact or_congr_right ih

theorem addInput_pairwise {es : List InputElem} (h : es.Pairwise fun a b => a.input < b.input) :
    (addInput i d time es).Pairwise fun a b => a.input < b.input := by
  induction es with
  | nil => exact List.pairwise_singleton _ _
  | cons e es ih =>
    obtain ⟨hhead, htail⟩ := List.pairwise_cons.1 h
    rw [addInput_cons]
    split_ifs with he hlt
    · exact List.pairwise_cons.2 ⟨fun x hx => (e.add_input d time).symm ▸ hhead x hx, htail⟩
    · refine List.pairwise_cons.2 ⟨List.forall_mem_cons.2 ⟨?_, fun x hx => ?_⟩, h⟩
      · rwa [InputElem.add_input]
      · rw [InputElem.add_input]
        exact hlt.trans (hhead x hx)
    · refine List.pairwise_cons.2 ⟨fun x hx => ?_, ih htail⟩
      by_cases hx' : x.input = i
      · omega
      · exact hhead x ((mem_addInput hx' es).1 hx)

/-- The element of the input is the one it had, or a new one, with the event entered. -/
theorem find_addInput {es : List InputElem} (h : es.Pairwise fun a b => a.input < b.input) :
    ((addInput i d time es).find? fun e => e.input == i) =
      some (((es.find? fun e => e.input == i).getD (.blank i)).add d time) := by
  have hfound : ∀ (e : InputElem) (xs : List InputElem), e.input = i →
      ((e.add d time :: xs).find? fun e => e.input == i) = some (e.add d time) := fun e xs he =>
    List.find?_cons_of_pos (by simp [he])
  induction es with
  | nil => exact hfound _ _ rfl
  | cons e es ih =>
    obtain ⟨hhead, htail⟩ := List.pairwise_cons.1 h
    rw [addInput_cons]
    split_ifs with he hlt
    · rw [hfound e es he, List.find?_cons_of_pos (by simp [he])]
      rfl
    · have hnone : ((e :: es).find? fun e => e.input == i) = none :=
        List.find?_eq_none.2 (List.forall_mem_cons.2 ⟨by simpa using he, fun x hx => by
          have hlater := hhead x hx
          simp only [beq_iff_eq]
          omega⟩)
      rw [hfound _ _ rfl, hnone]
      rfl
    · rw [List.find?_cons_of_neg (by simpa using he), List.find?_cons_of_neg (by simpa using he), ih htail]

end

/-! ## An event of the shot (R92 to R98) -/

/-- A visit with the first operate widths that an event of input `i` completes (R97). -/
def Visit.widened (v : Visit) (start : Clock) (i : Fin 16) (d : Direction) (event : Clock) : Visit :=
  if d = .reset then
    { v with inputs := v.inputs.map fun e =>
        if e.input = i ∧ e.width = none then
          { e with width := e.firstOperate.map fun o => elapsed (later (later start v.entry) o) event }
        else e }
  else v

/-- The event belongs to the visit's interval, and the visit has not closed (R93, R95). -/
abbrev Visit.Takes (v : Visit) (start now event : Clock) : Prop :=
  elapsed event now ≤ elapsed (later start v.entry) now ∧
    (∀ x ∈ v.exit, elapsed (later start x) now < elapsed event now) ∧ (v.exit = none ∨ v.closeAt ≠ none)

/-- A visit once an event of the shot is recorded (R93 to R97). -/
def Visit.recorded (v : Visit) (start now : Clock) (i : Fin 16) (d : Direction) (event : Clock) : Visit :=
  let w := v.widened start i d event
  if v.Takes start now event then { w with inputs := addInput i d (elapsed (later start v.entry) event) w.inputs } else w

theorem Visit.takes_iff {v : Visit} {start now event : Clock} :
    (v.holds start now event && !v.closed) = true ↔ v.Takes start now event := by
  unfold Visit.holds Visit.closed Visit.Takes
  cases v.exit <;> cases v.closeAt <;> simp

section
variable (v : Visit) (start now event : Clock) (i : Fin 16) (d : Direction)

theorem InputElem.fillWidth_eq (e : InputElem) (entry : Clock) : e.fillWidth i entry event =
    if e.input = i ∧ e.width = none then { e with width := e.firstOperate.map fun o => elapsed (later entry o) event } else e := by
  obtain ⟨input, operate, width, reset, count⟩ := e
  cases operate <;> cases width <;> simp [InputElem.fillWidth]

theorem Visit.widened_reset : v.widened start i .reset event =
    { v with inputs := v.inputs.map fun e => e.fillWidth i (later start v.entry) event } := by
  simp only [InputElem.fillWidth_eq]
  rfl

/-- The widths of a visit do not bear on whether it takes the event. -/
theorem Visit.recorded_eq : v.recorded start now i d event =
    let w := v.widened start i d event
    if (w.holds start now event && !w.closed) = true then
      { w with inputs := addInput i d (elapsed (later start w.entry) event) w.inputs }
    else w := by
  cases d <;> exact if_congr Visit.takes_iff.symm rfl rfl

end

section
variable (rep : Report) (start now event : Clock) (i : Fin 16) (d : Direction)

/-- An event is recorded in the visits, and then in the timeline (R92). -/
theorem Report.record_eq : rep.record start now i d event =
    Report.joinTimeline { rep with visits := rep.visits.map fun v => v.recorded start now i d event }
      { input := i, direction := d, time := elapsed start event } := by
  have hjoin {vs vs' : List Visit} {x : TimelineEvent} (h : vs = vs') :
      Report.joinTimeline { rep with visits := vs } x = Report.joinTimeline { rep with visits := vs' } x := by rw [h]
  cases d with
  | operate => exact hjoin (List.map_congr_left fun v _ => (v.recorded_eq start now event i .operate).symm)
  | reset =>
    refine hjoin (List.map_map.trans (List.map_congr_left fun v _ => ?_))
    rw [Visit.recorded_eq, Visit.widened_reset]
    rfl

theorem Report.record_results : (rep.record start now i d event).results = rep.results := by
  rw [Report.record_eq, Report.joinTimeline]
  split <;> rfl

theorem Report.record_visits :
    (rep.record start now i d event).visits = rep.visits.map fun v => v.recorded start now i d event := by
  rw [Report.record_eq, Report.joinTimeline]
  split <;> rfl

variable {rep}

/-- With 32 events held the truncated flag is set (R98). -/
theorem Report.record_of_full (h : 32 ≤ rep.timeline.length) :
    (rep.record start now i d event).timeline = rep.timeline ∧
      (rep.record start now i d event).header = { rep.header with truncated := true } := by
  rw [Report.record_eq, Report.joinTimeline, if_neg (by exact Nat.not_lt.2 h)]
  exact ⟨rfl, rfl⟩

/-- With room in the timeline the event joins it at its place (R98). -/
theorem Report.record_of_room (h : rep.timeline.length < 32) :
    (rep.record start now i d event).header = rep.header ∧ ∃ before after, rep.timeline = before ++ after ∧
      (rep.record start now i d event).timeline =
        before ++ { input := i, direction := d, time := elapsed start event } :: after ∧
      (∀ y ∈ before, y.time < elapsed start event ∨ (y.time = elapsed start event ∧ y.input ≤ i)) ∧
      ∀ y ∈ after.head?, elapsed start event < y.time ∨ (y.time = elapsed start event ∧ i < y.input) := by
  rw [Report.record_eq, Report.joinTimeline, if_pos (by exact h)]
  refine ⟨rfl, ?_⟩
  rw [insertEvent_eq]
  exact exists_place TimelineEvent.time TimelineEvent.input { input := i, direction := d, time := elapsed start event } rep.timeline

end

end Sys2Proof.Machine
end

section
/-! SUPPORT. What a shot records of an accepted contact event (R92, R93, R99, R113): the elements of the moves that the event begins or
completes, and the event itself, each at once or with the tick that is still to come. -/

namespace Sys2Proof.Machine

/-! ## Breaker elements in RUNNING (R113) -/

/-- Breaker elements written one after the other. -/
def State.writeElems (s : State) (es : List (Fin 4 × BreakerChange)) : State := es.foldl (fun t x => t.writeElem x.1 x.2) s

/-- The part `t` differs from `s` by the elements `es` written and by its simulators. -/
def State.Wrote (s t : State) (es : List (Fin 4 × BreakerChange)) : Prop := t = { s.writeElems es with breakers := t.breakers }

section
variable {s t u : State} {sh : Shot} {run : Run} {k : Fin 4}

theorem State.writeElems_cons (e : Fin 4 × BreakerChange) (es : List (Fin 4 × BreakerChange)) :
    s.writeElems (e :: es) = (s.writeElem e.1 e.2).writeElems es := rfl

/-- Where the tick is still to come at this microsecond, the elements wait in the running record. -/
theorem State.writeElems_due (es : List (Fin 4 × BreakerChange)) : ∀ {s : State} {run : Run},
    s.engine = .running sh run → s.engineDue = true →
      s.writeElems es = { s with engine := .running sh { run with fresh := run.fresh ++ es } } := by
  induction es with
  | nil =>
    intro s run he _
    rw [List.append_nil, ← he]
    rfl
  | cons e es ih =>
    intro s run he hdue
    have helem : s.writeElem e.1 e.2 = { s with engine := .running sh { run with fresh := run.fresh ++ [e] } } := by
      simp only [State.writeElem, he]
      exact if_pos hdue
    rw [State.writeElems_cons, helem]
    exact Eq.trans (ih rfl hdue) (by rw [List.append_assoc]; rfl)

theorem Report.onVisit_onVisit {f g : Visit → Visit} (hf : ∀ v, (f v).number = v.number) (rep : Report) (n : Nat) :
    (rep.onVisit n f).onVisit n g = rep.onVisit n fun v => g (f v) := by
  simp only [Report.onVisit, List.map_map]
  congr 1
  refine List.map_congr_left fun v _ => ?_
  by_cases h : v.number = n <;> simp [h, hf]

/-- At any other moment the elements join the current visit. -/
theorem State.writeElems_open (es : List (Fin 4 × BreakerChange)) : ∀ {s : State} {rep : Report},
    s.engine = .running sh run → s.engineDue = false → s.reports[sh.slot] = .building rep →
      s.writeElems es = { s with
        reports := s.reports.set sh.slot
          (.building (rep.onVisit run.visit fun v => v.addFresh (s.since run.startTime run.entry) es)) } := by
  induction es with
  | nil =>
    intro s rep _ _ hrep
    rw [Report.onVisit_of_id fun v => v.addFresh_nil _, ← hrep]
    exact congrArg (fun r => { s with reports := r }) (Vector.set_getElem_self _).symm
  | cons e es ih =>
    intro s rep he hdue hrep
    have helem : s.writeElem e.1 e.2 = { s with
        reports := s.reports.set sh.slot (.building (rep.onVisit run.visit fun v =>
          v.addElem { sim := e.1, change := e.2, time := s.since run.startTime run.entry })) } := by
      simp only [State.writeElem, he, hdue]
      rw [State.onReport_building hrep, ← he]
      rfl
    rw [State.writeElems_cons, helem]
    exact Eq.trans (ih he hdue (Vector.getElem_set_self _))
      (by rw [Vector.set_set, Report.onVisit_onVisit fun v => v.addElem_number _]; rfl)

theorem State.onReport_setBreakers (bs : Vector Simulator 4) (slot : Fin 16) (f : Report → Report) :
    State.onReport { s with breakers := bs } slot f = { s.onReport slot f with breakers := bs } := by
  unfold State.onReport
  dsimp only
  cases s.reports[slot] <;> rfl

/-- The simulators do not bear on where an element is written. -/
theorem State.writeElem_setBreakers (bs : Vector Simulator 4) (c : BreakerChange) :
    State.writeElem { s with breakers := bs } k c = { s.writeElem k c with breakers := bs } := by
  have hdue : State.engineDue { s with breakers := bs } = s.engineDue := rfl
  unfold State.writeElem
  dsimp only
  rw [hdue]
  split
  · split
    · rfl
    · exact State.onReport_setBreakers bs _ _
  · rfl

theorem State.writeElems_setBreakers (bs : Vector Simulator 4) (es : List (Fin 4 × BreakerChange)) : ∀ s : State,
    State.writeElems { s with breakers := bs } es = { s.writeElems es with breakers := bs } := by
  induction es with
  | nil => exact fun _ => rfl
  | cons e es ih => exact fun s => (congrArg (State.writeElems · es) (State.writeElem_setBreakers bs e.2)).trans (ih _)

theorem State.Wrote.trans {es fs : List (Fin 4 × BreakerChange)} (h : s.Wrote t es) (g : t.Wrote u fs) : s.Wrote u (es ++ fs) := by
  have hall : t.writeElems fs = { s.writeElems (es ++ fs) with breakers := t.breakers } := by
    rw [h, State.writeElems_setBreakers, State.writeElems, State.writeElems, State.writeElems, List.foldl_append]
  rw [State.Wrote, hall] at g
  exact g

theorem State.Wrote.refl : s.Wrote s [] := rfl

theorem State.setBreaker_wrote (b : Simulator) : s.Wrote (s.setBreaker k b) [] := rfl

theorem State.writeElem_wrote (c : BreakerChange) : s.Wrote (s.writeElem k c) [(k, c)] := rfl

theorem State.beginOpening_wrote (due : Clock) : s.Wrote (s.beginOpening k due) [(k, .opening)] :=
  (State.setBreaker_wrote _).trans (State.writeElem_wrote _)

theorem State.beginClosing_wrote (due : Clock) : s.Wrote (s.beginClosing k due) [(k, .closing)] :=
  (State.setBreaker_wrote _).trans (State.writeElem_wrote _)

/-! ## What one simulator writes (R104 to R106) -/

/-- A simulator that takes OPEN writes the position, and the move that it begins. -/
theorem State.takeOpen_wrote {b : Simulator} (hb : s.breakers[k] = b) :
    s.Wrote (s.takeOpen k) ((b.openChanges s.stands).map fun c => (k, c)) := by
  have hopened := (s.setBreaker_wrote (k := k) { b with
    position := .opened, timer := none, interrupting := true, tripLatch := b.tripLatch || s.stands b.setting.trip }).trans
      (State.writeElem_wrote (k := k) .opened)
  unfold State.takeOpen Simulator.openChanges
  rw [hb]
  by_cases h : s.stands b.setting.close = true ∧ b.closeLatch = false
  · rw [if_pos h, if_pos (by simp [h])]
    exact hopened.trans (State.beginClosing_wrote _)
  · rw [if_neg h, if_neg (by simpa using h)]
    exact hopened

/-- A simulator that takes CLOSED writes the position, and the move that it begins. -/
theorem State.takeClosed_wrote {b : Simulator} (hb : s.breakers[k] = b) :
    s.Wrote (s.takeClosed k) ((b.closedChanges s.stands).map fun c => (k, c)) := by
  have hclosed := (s.setBreaker_wrote (k := k) { b with
    position := .closed, timer := none, interrupting := false, closeLatch := b.closeLatch || s.stands b.setting.close }).trans
      (State.writeElem_wrote (k := k) .closed)
  unfold State.takeClosed Simulator.closedChanges
  rw [hb]
  by_cases h : s.stands b.setting.trip = true ∧ b.tripLatch = false
  · rw [if_pos h, if_pos (by simp [h])]
    exact hclosed.trans (State.beginOpening_wrote _)
  · rw [if_neg h, if_neg (by simpa using h)]
    exact hclosed

theorem Simulator.openChanges_eq (b : Simulator) (stands : Option (Fin 16) → Bool) :
    b.openChanges stands = .opened :: if stands b.setting.close = true ∧ b.closeLatch = false then [.closing] else [] := by
  unfold Simulator.openChanges
  split <;> rfl

theorem Simulator.closedChanges_eq (b : Simulator) (stands : Option (Fin 16) → Bool) :
    b.closedChanges stands = .closed :: if stands b.setting.trip = true ∧ b.tripLatch = false then [.opening] else [] := by
  unfold Simulator.closedChanges
  split <;> rfl

/-- The changes that a simulator writes at a trip operate, `past` the time since the move's start (R104). -/
def Simulator.tripChanges (b : Simulator) (stands : Option (Fin 16) → Bool) (past : Nat) : List BreakerChange :=
  if (b.position = .closed ∨ b.position = .closing) ∧ b.tripLatch = false then
    .opening :: if past < b.setting.openTime then [] else b.openChanges stands
  else []

/-- The changes that a simulator writes at a close operate (R105). -/
def Simulator.closeChanges (b : Simulator) (stands : Option (Fin 16) → Bool) (past : Nat) : List BreakerChange :=
  match b.position with
  | .opened =>
    if b.closeLatch = true then []
    else .closing :: if past < b.setting.closeTime then [] else b.closedChanges stands
  | .opening => [.closeRefused]
  | .closing => [.closeRefused]
  | .closed => []

/-- The changes that a simulator writes at an accepted event of input `i` (R103 to R106). -/
def Simulator.changes (b : Simulator) (stands : Option (Fin 16) → Bool) (past : Nat) (i : Fin 16) (d : Direction) :
    List BreakerChange :=
  if b.setting.enabled = false ∨ d = .reset then []
  else if b.setting.trip = some i then b.tripChanges stands past
  else if b.setting.close = some i then b.closeChanges stands past
  else []

variable {i : Fin 16} {d : Direction} {event : Clock}

theorem State.trip_wrote {b : Simulator} (hb : s.breakers[k] = b) : s.Wrote (s.trip k run event)
    ((b.tripChanges s.stands (elapsed (moveStart run event s.now) s.now)).map fun c => (k, c)) := by
  unfold State.trip Simulator.tripChanges
  rw [hb]
  by_cases h : (b.position = .closed ∨ b.position = .closing) ∧ b.tripLatch = false
  · rw [if_pos h, if_pos (by simpa using h)]
    generalize moveStart run event s.now = start
    have hbegin := s.beginOpening_wrote (k := k) (later start b.setting.openTime)
    dsimp only
    by_cases ht : elapsed start s.now < b.setting.openTime
    · rw [if_pos ht, if_neg (Nat.not_le.2 ht)]
      exact hbegin
    · have hbk : (s.beginOpening k (later start b.setting.openTime)).breakers[k] =
          { b with position := .opening, timer := some (later start b.setting.openTime, .opened) } := by
        rw [State.beginOpening_breakers, hb]
        exact Vector.getElem_set_self _
      have htake := State.takeOpen_wrote hbk
      rw [State.beginOpening_stands] at htake
      rw [if_neg ht, if_pos (Nat.not_lt.1 ht)]
      exact hbegin.trans htake
  · rw [if_neg h, if_neg (by simpa using h)]
    exact .refl

theorem State.close_wrote {b : Simulator} (hb : s.breakers[k] = b) : s.Wrote (s.close k run event)
    ((b.closeChanges s.stands (elapsed (moveStart run event s.now) s.now)).map fun c => (k, c)) := by
  unfold State.close Simulator.closeChanges
  rw [hb]
  dsimp only
  cases b.position with
  | opened =>
    dsimp only
    generalize moveStart run event s.now = start
    have hbegin := s.beginClosing_wrote (k := k) (later start b.setting.closeTime)
    by_cases hlatch : b.closeLatch = true
    · rw [if_pos hlatch, if_pos hlatch]
      exact .refl
    rw [if_neg hlatch, if_neg hlatch]
    by_cases ht : elapsed start s.now < b.setting.closeTime
    · rw [if_pos ht, if_neg (Nat.not_le.2 ht)]
      exact hbegin
    · have hbk : (s.beginClosing k (later start b.setting.closeTime)).breakers[k] =
          { b with position := .closing, timer := some (later start b.setting.closeTime, .closed) } := by
        rw [State.beginClosing_breakers, hb]
        exact Vector.getElem_set_self _
      have htake := State.takeClosed_wrote hbk
      rw [State.beginClosing_stands] at htake
      rw [if_neg ht, if_pos (Nat.not_lt.1 ht)]
      exact hbegin.trans htake
  | opening => exact State.writeElem_wrote _
  | closing => exact State.writeElem_wrote _
  | closed => exact .refl

/-- What an event writes at one simulator (R103 to R105, R113). -/
theorem State.breakerEvent_wrote : s.Wrote (s.breakerEvent run i d event k)
    (((s.breakers[k]).changes s.stands (elapsed (moveStart run event s.now) s.now) i d).map fun c => (k, c)) := by
  generalize hb : s.breakers[k] = b
  unfold State.breakerEvent Simulator.changes
  rw [hb]
  cases hon : b.setting.enabled with
  | false => simpa [hon] using State.Wrote.refl
  | true =>
    cases d with
    | reset => simpa [hon] using State.setBreaker_wrote _
    | operate =>
      by_cases ht : b.setting.trip = some i
      · simpa [hon, ht] using State.trip_wrote hb
      · by_cases hc : b.setting.close = some i
        · simpa [hon, ht, hc] using State.close_wrote hb
        · simpa [hon, ht, hc] using State.Wrote.refl

/-! ## What the four simulators write -/

/-- The elements that the simulators of a list write at an accepted event, in ascending order (R113). -/
def State.elemsAt (s : State) (run : Run) (i : Fin 16) (d : Direction) (event : Clock) (ks : List (Fin 4)) :
    List (Fin 4 × BreakerChange) :=
  ks.flatMap fun k =>
    ((s.breakers[k]).changes s.stands (elapsed (moveStart run event s.now) s.now) i d).map fun c => (k, c)

theorem State.foldl_breakerEvent_wrote (ks : List (Fin 4)) (hks : ks.Nodup) : ∀ s : State,
    s.Wrote (ks.foldl (fun t k => t.breakerEvent run i d event k) s) (s.elemsAt run i d event ks) := by
  induction ks with
  | nil => exact fun _ => .refl
  | cons k ks ih =>
    intro s
    obtain ⟨hk, hrest⟩ := List.nodup_cons.1 hks
    have helems : (s.breakerEvent run i d event k).elemsAt run i d event ks = s.elemsAt run i d event ks := by
      refine List.flatMap_congr fun j hj => ?_
      have hother : (s.breakerEvent run i d event k).breakers[j] = s.breakers[j] := by
        rw [State.breakerEvent_breakers]
        exact Vector.getElem_set_ne _ _ fun h => hk (Fin.ext h ▸ hj)
      rw [hother, State.breakerEvent_stands, State.breakerEvent_now]
    have hrest := ih hrest (s.breakerEvent run i d event k)
    rw [helems] at hrest
    exact State.breakerEvent_wrote.trans hrest

theorem State.handleBreakers_wrote (s : State) (run : Run) (i : Fin 16) (d : Direction) (event : Clock) :
    s.Wrote (s.handleBreakers run i d event) (s.elemsAt run i d event (List.finRange 4)) :=
  State.foldl_breakerEvent_wrote _ (List.nodup_finRange 4) s

theorem State.answered_reports (s : State) (p : Fin 4 → Option Level) (ks : List (Fin 4)) :
    (s.answered p ks).reports = s.reports :=
  (foldl_keeps (fun s => s.reports) _ (fun _ _ => by split <;> rfl) _ _).trans
    (foldl_keeps (fun s => s.reports) _ (fun _ _ => by split <;> rfl) _ _)

end

/-! ## The event itself (R92, R93, R99) -/

section
variable {s : State} {sh : Shot} {run : Run} {rep : Report} {i : Fin 16} {d : Direction} {event : Clock}

/-- A report with an event recorded, when it is an event of the running shot (R92). -/
def Report.recordFrom (rep : Report) (start now : Clock) (i : Fin 16) (d : Direction) (event : Clock) : Report :=
  if elapsed event now ≤ elapsed start now then rep.record start now i d event else rep

theorem State.recordEvent_of_running (he : s.engine = .running sh run) (hrep : s.reports[sh.slot] = .building rep) :
    (s.recordEvent i d event).reports = s.reports.set sh.slot (.building (rep.recordFrom run.startTime s.now i d event)) := by
  simp only [State.recordEvent, he, Report.recordFrom]
  split_ifs
  · rw [State.onReport_building hrep]
  · rw [← hrep]
    exact (Vector.set_getElem_self _).symm

theorem State.recordEvent_of_settling {start finish : Clock} (he : s.engine = .settling sh (some start) finish)
    (hrep : s.reports[sh.slot] = .building rep) : (s.recordEvent i d event).reports =
      if elapsed event s.now ≤ elapsed start s.now ∧ elapsed finish s.now < elapsed event s.now then
        s.reports.set sh.slot (.building (rep.record start s.now i d event))
      else s.reports := by
  simp only [State.recordEvent, he]
  split_ifs
  · rw [State.onReport_building hrep]
  · rfl

/-- An event dated to the microsecond of a tick that is still to come waits for it (R93, R99). -/
theorem State.fileEvent_of_due (he : s.engine = .running sh run) (hdue : s.engineDue = true) (hnow : event = s.now) :
    s.fileEvent i d event = { s with tick := { s.tick with events := s.tick.events ++ [(i, d)] } } :=
  if_pos (by simp [he, hdue, hnow, Engine.isRunning])

theorem State.fileEvent_of_not_due (h : ¬(s.engineDue = true ∧ event = s.now)) :
    s.fileEvent i d event = s.recordEvent i d event :=
  if_neg fun hall => h (by simp only [Bool.and_eq_true, beq_iff_eq] at hall; exact ⟨hall.2, hall.1.1⟩)

/-! ## An accepted event in SETTLING and in RUNNING (R91, R92) -/

/-- In SETTLING an accepted event is filed and touches nothing else (R91). -/
theorem State.handOver_of_settling {start : Option Clock} {finish : Clock} (he : s.engine = .settling sh start finish) :
    s.handOver i d event = s.recordEvent i d event := by
  have hlatch : s.latchEdges i d event = s := by simp only [State.latchEdges, he]
  have hbreakers : s.informBreakers i d event = s := by simp only [State.informBreakers, he]
  have hcapture : s.informCapture i d = s := by simp only [State.informCapture, he]
  rw [State.handOver, hlatch, hbreakers, hcapture]
  exact if_neg (by simp [he, Engine.isRunning])

/-- What an accepted event has changed before it is filed: the latches, the simulators and the capture (R91). -/
def State.informed (s : State) (i : Fin 16) (d : Direction) (event : Clock) : State :=
  ((s.latchEdges i d event).informBreakers i d event).informCapture i d

theorem State.informed_keeps : (s.informed i d event).now = s.now ∧ (s.informed i d event).engineDue = s.engineDue ∧
    (s.informed i d event).tick.events = s.tick.events := by
  simp [State.informed, State.engineDue, State.tickDue, State.onGrid, State.now]

/-- The running record and the report are those that the simulators' elements leave (R113). -/
theorem State.informed_of_running (he : s.engine = .running sh run) :
    let w := s.latched sh run i d event
    let elems := s.elemsAt run i d event (List.finRange 4)
    (s.informed i d event).engine = (w.writeElems elems).engine ∧ (s.informed i d event).reports = (w.writeElems elems).reports := by
  intro w elems
  let r : Run := { run with edges := s.edgesAfter run i d event }
  let u := w.handleBreakers r i d event
  have hu : u = { w.writeElems elems with breakers := u.breakers } := w.handleBreakers_wrote r i d event
  have hinformed : (s.latchEdges i d event).informBreakers i d event = u.answered (w.runsTo r i d event) (List.finRange 4) := by
    rw [State.latchEdges_of_running he]
    exact State.informBreakers_of_running rfl
  rw [State.informed, hinformed]
  constructor
  · simpa using (u.answered_keeps _ _).2.trans (congrArg State.engine hu)
  · simpa using (u.answered_reports _ _).trans (congrArg State.reports hu)

theorem State.handOver_stands : (s.handOver i d event).stands = s.stands := by
  funext x
  cases x <;> simp [State.stands]

/-- What a shot records of an event accepted in RUNNING, and of the moves it begins (R92, R93, R99, R113). -/
theorem State.handOver_records (he : s.engine = .running sh run) (hrep : s.reports[sh.slot] = .building rep) :
    let t := s.handOver i d event
    let elems := s.elemsAt run i d event (List.finRange 4)
    let recorded (r : Report) : Report := r.recordFrom run.startTime s.now i d event
    (∃ edges, t.engine = .running sh
      { run with edges := edges, fresh := if s.engineDue = true then run.fresh ++ elems else run.fresh }) ∧
    t.tick.events = (if s.engineDue = true ∧ event = s.now then s.tick.events ++ [(i, d)] else s.tick.events) ∧
    t.reports = s.reports.set sh.slot (.building
      (if s.engineDue = true then (if event = s.now then rep else recorded rep)
       else recorded (rep.onVisit run.visit fun v => v.addFresh (s.since run.startTime run.entry) elems))) := by
  intro t elems recorded
  obtain ⟨hnow, hengineDue, hevents⟩ := s.informed_keeps (i := i) (d := d) (event := event)
  obtain ⟨hengine, hreports⟩ := State.informed_of_running (i := i) (d := d) (event := event) he
  have ht : t = (s.informed i d event).fileEvent i d event := rfl
  rw [ht]
  generalize s.informed i d event = x at *
  have hfile : (x.fileEvent i d event).engine = x.engine := by simp
  cases hdue : s.engineDue with
  | true =>
    rw [State.writeElems_due (s := s.latched sh run i d event) _ rfl hdue] at hengine hreports
    refine ⟨⟨_, hfile.trans hengine⟩, ?_⟩
    by_cases hevent : event = s.now
    · rw [State.fileEvent_of_due hengine (hengineDue.trans hdue) (hevent.trans hnow.symm)]
      simp only [hevent, hevents, and_self, if_true, ← hrep]
      exact ⟨trivial, hreports.trans (Vector.set_getElem_self _).symm⟩
    · rw [State.fileEvent_of_not_due (by simp [hnow, hevent]), State.recordEvent_of_running hengine (by rw [hreports]; exact hrep),
        hreports, hnow]
      simp only [State.recordEvent_keeps, hevent, hevents, and_false, if_false, if_true]
      exact ⟨trivial, rfl⟩
  | false =>
    rw [State.writeElems_open (s := s.latched sh run i d event) _ rfl hdue hrep] at hengine hreports
    refine ⟨⟨_, hfile.trans hengine⟩, ?_⟩
    rw [State.fileEvent_of_not_due (by simp [hengineDue, hdue]),
      State.recordEvent_of_running hengine (by rw [hreports]; exact Vector.getElem_set_self _), hreports, hnow, Vector.set_set]
    simp only [State.recordEvent_keeps, hevents, Bool.false_eq_true, false_and, if_false]
    exact ⟨trivial, rfl⟩

end

/-- Settles O46: the event in SETTLING and in RUNNING with the elements of its moves, then what the report makes of an event, the
element of its input, and the place of a breaker element. -/
theorem eventsAreRecorded : Obligations.EventsAreRecorded := by
  refine ⟨fun s i e sh rep => ?_, fun rep start now event i d => ?_, fun i d time es hes => ?_,
    fun v e => ⟨fun h => Visit.addElem_of_full h e, fun h => Visit.addElem_place h e, fun _ _ => rfl⟩⟩
  · intro c d he hon hpast hne hrep
    refine ⟨_, (exec_episodeEnd_of_some (Contact.ends_eq_some he hon hpast)).trans (congrArg _ (State.endEpisode_of_ne hne)), ?_⟩
    have hd : c.setting.direction c.pin = d := rfl
    rw [hd]
    refine ⟨fun start finish hset => ?_, fun finish hset => ?_, fun run hrun => ?_⟩
    · rw [State.handOver_of_settling (s := s.accepting i e) hset]
      exact State.recordEvent_of_settling (s := s.accepting i e) hset hrep
    · rw [State.handOver_of_settling (s := s.accepting i e) hset]
      simp only [State.recordEvent, show (s.accepting i e).engine = _ from hset]
      rfl
    · obtain ⟨⟨edges, hengine⟩, hevents, hreports⟩ :=
        State.handOver_records (s := s.accepting i e) (i := i) (d := d) (event := e.start) hrun hrep
      have hstands : ((s.accepting i e).handOver i d e.start).stands = (s.accepting i e).stands := State.handOver_stands
      generalize (s.accepting i e).handOver i d e.start = t at *
      intro from_ stands changes elems recorded
      have helems : (s.accepting i e).elemsAt run i d e.start (List.finRange 4) = elems := by
        refine List.flatMap_congr fun k _ => congrArg (List.map _) ?_
        rw [← hstands, State.stands_eq]
        simp only [Simulator.changes, Simulator.tripChanges, Simulator.closeChanges, Simulator.openChanges_eq,
          Simulator.closedChanges_eq]
        rfl
      rw [helems] at hengine hreports
      refine ⟨fun run' hrun' => ?_, hevents, hreports⟩
      obtain ⟨_, hsame⟩ := Engine.running.inj (hengine.symm.trans hrun')
      rw [← hsame]
      rfl
  · exact ⟨Report.record_of_full start now event i d, Report.record_of_room start now event i d,
      Report.record_results rep start now event i d, Report.record_visits rep start now event i d⟩
  · refine ⟨addInput_pairwise hes, fun e he => mem_addInput he es, (find_addInput hes).trans (congrArg some ?_)⟩
    cases es.find? fun e => e.input == i <;> cases d
    · rfl
    · rfl
    · exact InputElem.add_operate _ time
    · rfl

end Sys2Proof.Machine
end

section
/-! SUPPORT. The Capture Memory while its shot runs: a record handled by the phase of the half, the opening of a tick, the levels kept for
the next record, the triggers and the stop (R155 to R159). -/

namespace Sys2Proof.Machine

/-! ## A half handled by its phase (R156 to R159) -/

section
variable {x : Half}

/-- A record kept before the trigger: the oldest goes when the half is full (R156). -/
def Half.circular (x : Half) (r : Sample) : Half :=
  { x with records := appendCircular x.records r, written := x.written + 1 }

theorem Half.write_of_preTrigger (h : x.phase = .preTrigger) (r : Sample) : x.write r = x.circular r := by
  simp only [Half.write, h, Half.circular]

theorem Half.write_of_triggerNoted {tick : Nat} (h : x.phase = .triggerNoted tick) (r : Sample) :
    x.write r = if r.offset = tick then x.writeTrigger r else x.circular r := by
  simp only [Half.write, h, Half.circular]

theorem Half.write_of_postTrigger (h : x.phase = .postTrigger) (r : Sample) :
    x.write r = { x.append x.records r with written := x.written + 1 } := by
  simp only [Half.write, h]

theorem Half.write_of_full (h : x.phase = .full) (r : Sample) : x.write r = { x with written := x.written + 1 } := by
  simp only [Half.write, h]

/-- In any other phase, before the start tick or after the stop, no record is taken (R156, R159). -/
theorem Half.write_of_idle (hpre : x.phase ≠ .preTrigger) (hnoted : ∀ tick, x.phase ≠ .triggerNoted tick)
    (hpost : x.phase ≠ .postTrigger) (hfull : x.phase ≠ .full) (r : Sample) : x.write r = x := by
  cases h : x.phase with
  | waiting | stopped => simp only [Half.write, h]
  | preTrigger => exact absurd h hpre
  | triggerNoted tick => exact absurd h (hnoted tick)
  | postTrigger => exact absurd h hpost
  | full => exact absurd h hfull

theorem Half.append_eq (x : Half) (rs : List Sample) (r : Sample) : x.append rs r =
    { x with records := rs ++ [r], phase := if rs.length + 1 < 8192 then .postTrigger else .full } := by
  rw [Half.append, List.length_append]
  rfl

/-- The trigger record, with the last min(p, w) records before it (R158). -/
theorem Half.writeTrigger_eq (x : Half) (r : Sample) :
    let kept := x.records.drop (x.records.length - min x.preCount x.written)
    x.writeTrigger r = { x with
      records := kept ++ [r], written := x.written + 1, trigger := some kept.length,
      phase := if kept.length + 1 < 8192 then .postTrigger else .full } := by
  intro kept
  rw [Half.writeTrigger, Half.append_eq]
  rfl

/-- Only the first trigger counts: once noted, the phase is no longer PRE_TRIGGER (R157). -/
theorem Half.noteTrigger_eq (x : Half) (tick : Nat) :
    x.noteTrigger tick = if x.phase = .preTrigger then { x with phase := .triggerNoted tick } else x := by
  unfold Half.noteTrigger
  split
  · rename_i h
    rw [if_pos h]
  · rename_i h
    rw [if_neg h]

theorem Half.stop_of_untriggered (h : x.phase = .waiting ∨ x.phase = .preTrigger ∨ ∃ tick, x.phase = .triggerNoted tick) :
    x.stop = { x with phase := .stopped, untriggered := true } := by
  rcases h with h | h | ⟨tick, h⟩ <;> simp only [Half.stop, h]

theorem Half.stop_of_postTrigger (h : x.phase = .postTrigger) : x.stop = { x with phase := .stopped, cutShort := true } := by
  simp only [Half.stop, h]

theorem Half.stop_of_full (h : x.phase = .full) : x.stop = { x with phase := .stopped } := by
  simp only [Half.stop, h]

end

/-! ## The record written at the opening of a tick (R121, R155) -/

section
variable {s : State} {sh : Shot} {run : Run}

/-- The state whose coming frame has become the frame of the tick (R121). -/
def State.framed (s : State) : State :=
  { s with tick := { s.tick with opened := true, frame := s.sup.frameIn }, sup := { s.sup with frameIn := none } }

theorem State.openTick_of_opened (h : s.tick.opened = true) : s.openTick = s := if_pos h

theorem State.openTick_of_closed (h : s.tick.opened = false) : s.openTick = s.framed.writeCapture := if_neg (by simp [h])

theorem State.writeCapture_of_none (h : s.tick.previous = none) : s.writeCapture = s := by
  unfold State.writeCapture
  split
  · rename_i hp
    cases h.symm.trans hp
  · rfl

theorem State.writeCapture_of_running {lv : TickLevels} (he : s.engine = .running sh run) (h : s.tick.previous = some lv) :
    s.writeCapture = s.onHalf sh.half fun x => x.write (sampleOf lv x.lanes s.tick.frame) := by
  simp only [State.writeCapture, he, h]

theorem State.openTick_frame (h : s.tick.opened = false) :
    s.openTick.tick.frame = s.sup.frameIn ∧ s.openTick.sup.frameIn = none := by
  rw [State.openTick_of_closed h]
  simp [State.framed]

/-- With no tick of the shot before this one there is no record to write (R155). -/
theorem State.openTick_captures_of_none (h : s.tick.opened = false) (hp : s.tick.previous = none) :
    s.openTick.captures = s.captures := by
  rw [State.openTick_of_closed h, State.writeCapture_of_none (s := s.framed) hp]
  rfl

theorem State.openTick_half {lv : TickLevels} (he : s.engine = .running sh run) (h : s.tick.opened = false)
    (hp : s.tick.previous = some lv) (k : HalfId) : s.openTick.captures.get k =
      if sh.half = some k then (s.captures.get k).write (sampleOf lv (s.captures.get k).lanes s.sup.frameIn)
      else s.captures.get k := by
  rw [State.openTick_of_closed h, State.writeCapture_of_running (s := s.framed) he hp, State.onHalf_get]
  rfl

end

/-! ## The levels kept for the next record (R155) -/

section
variable {s : State} {sh : Shot} {run : Run}

theorem State.levels_of_running (he : s.engine = .running sh run) : s.levels =
    some { offset := s.offset run.startTime, inputs := s.acceptedLevels, outputs := s.outputs } := by
  simp only [State.levels, he]

/-- The end of a tick in RUNNING keeps the levels that the state then shows. -/
theorem State.closeTick_previous (he : s.engine = .running sh run) : s.closeTick.tick.previous =
    some { offset := s.offset run.startTime, inputs := s.acceptedLevels, outputs := s.closeTick.outputs } := by
  have hlevels := State.levels_of_running (s := s.synthesise) (sh := sh) (run := run) (by simpa using he)
  have hoffset : s.synthesise.offset run.startTime = s.offset run.startTime := by simp [State.offset, State.now]
  have hinputs : s.synthesise.acceptedLevels = s.acceptedLevels := by simp [State.acceptedLevels]
  rw [hoffset, hinputs] at hlevels
  exact hlevels

theorem State.has_acceptedLevels (s : State) (i : Fin 16) :
    has s.acceptedLevels i = true ↔ (s.contacts[i]).accepted = .closed := by
  simp [State.acceptedLevels]

/-- The tick made ready changes no more of the engine than the breaker elements that wait, and no half once it is open. -/
theorem State.prepare_fresh (s : State) : s.openTick.FreshOnly s.prepare ∧ s.prepare.captures = s.openTick.captures := by
  unfold State.prepare
  split
  · exact ⟨.refl _, rfl⟩
  · exact ⟨s.openTick.completeMoves_fresh, by simp⟩

/-- The engine's work at a tick at which the shot plays on, moves due at it or not. -/
theorem State.engineWork_of_dueStay (he : s.engine = .running sh run) (hstay : s.dueAction = .stay) :
    s.tickDue = true ∧ s.engineWork.engine = .running sh { run with fresh := [] } ∧
      s.engineWork.captures = s.openTick.captures ∧ s.engineWork.contacts = s.contacts := by
  unfold State.dueAction at hstay
  split_ifs at hstay with hdue
  obtain ⟨hfresh, hcaptures⟩ := s.prepare_fresh
  obtain ⟨es, hes⟩ := hfresh sh run (by simpa using he)
  have hwork : s.engineWork = s.prepare.settleTick := by
    rw [State.engineWork, if_pos hdue, hstay]
    rfl
  rw [hwork]
  exact ⟨(State.engineDue_iff.1 hdue).1, State.settleTick_running (run := { run with fresh := es }) hes,
    by simpa using hcaptures, by simp⟩

/-- The supervision of a tick in RUNNING touches no half. -/
theorem State.supervise_captures (he : s.engine = .running sh run) : s.compareAll.heatAll.captures = s.captures := by
  have hcompare := State.compareAll_of_running he
  rw [State.heatAll_of_running (s := s.compareAll) (sh := sh) (by rw [hcompare]), hcompare]
  dsimp only
  split <;> simp

/-- SAMPLE_TICK at such a tick writes no half beyond the tick's opening, and keeps the levels (R155). -/
theorem exec_sampleTick_keepsLevels (he : s.engine = .running sh run) (hstay : s.dueAction = .stay) :
    ∃ t, exec .sampleTick s = .next t ∧ t.captures = s.openTick.captures ∧ t.tick.previous =
      some { offset := s.offset run.startTime, inputs := s.acceptedLevels, outputs := t.outputs } := by
  obtain ⟨htick, hengine, hcaptures, hcontacts⟩ := State.engineWork_of_dueStay he hstay
  obtain ⟨hrunning, hclock, -, -, -, hsame, -⟩ := State.supervise_of_running hengine
  have hhalves := State.supervise_captures hengine
  refine ⟨_, exec_sampleTick_of_running htick hengine, by simpa using hhalves.trans hcaptures, ?_⟩
  rw [State.closeTick_previous hrunning]
  generalize s.engineWork.compareAll.heatAll = u at *
  simp [State.offset, State.now, State.acceptedLevels, hclock, hsame, hcontacts]

end

/-! ## The triggers (R157) -/

section
variable {s : State} {sh : Shot} {run : Run}

theorem State.nextTickOffset_congr {t : State} (hclock : t.clock = s.clock) (hengine : t.tick.engine = s.tick.engine)
    (hsynth : t.tick.synth = s.tick.synth) (start : Clock) : t.nextTickOffset start = s.nextTickOffset start := by
  have hdue : t.engineDue = s.engineDue := by
    simp only [State.engineDue, State.tickDue, State.onGrid, State.now, hclock, hengine, hsynth]
  simp only [State.nextTickOffset, hdue, State.offset, State.toNextTick, State.now, hclock]

/-- A trigger noted in the half of a shot under a condition reaches that half alone, and only in PRE_TRIGGER (R157). -/
theorem State.onHalf_noteTrigger (s : State) (half : Option HalfId) (c : Half → Bool) (tick : Nat) (h : HalfId) :
    let x := s.captures.get h
    (s.onHalf half fun x => if c x = true then x.noteTrigger tick else x).captures.get h =
      if half = some h ∧ c x = true ∧ x.phase = .preTrigger then { x with phase := .triggerNoted tick } else x := by
  intro x
  rw [State.onHalf_get]
  by_cases hhalf : half = some h
  · by_cases hc : c x = true
    · simp only [Half.noteTrigger_eq, hhalf, hc, if_true, true_and, x]
    · rw [if_pos hhalf, if_neg hc, if_neg fun hall => hc hall.2.1]
  · rw [if_neg hhalf, if_neg fun hall => hhalf hall.1]

/-- The half after an accepted event: its first trigger is an operate of an input of the trigger mask (R157). -/
theorem State.informCapture_half (he : s.engine = .running sh run) (i : Fin 16) (d : Direction) (h : HalfId) :
    let x := s.captures.get h
    (s.informCapture i d).captures.get h =
      if sh.half = some h ∧ d = .operate ∧ has x.trigMask i = true ∧ x.phase = .preTrigger then
        { x with phase := .triggerNoted (s.nextTickOffset run.startTime) }
      else x := by
  intro x
  cases d with
  | reset => simp [State.informCapture, he, x]
  | operate =>
    simp only [State.informCapture, he, true_and]
    exact s.onHalf_noteTrigger sh.half (fun x => has x.trigMask i) _ h

theorem State.handOver_half (he : s.engine = .running sh run) (i : Fin 16) (d : Direction) (event : Clock) (h : HalfId) :
    let x := s.captures.get h
    (s.handOver i d event).captures.get h =
      if sh.half = some h ∧ d = .operate ∧ has x.trigMask i = true ∧ x.phase = .preTrigger then
        { x with phase := .triggerNoted (s.nextTickOffset run.startTime) }
      else x := by
  obtain ⟨-, -, fresh, hengine⟩ := State.handOver_of_running (i := i) (d := d) (event := event) he
  rw [State.handOver, (State.fileEvent_keeps _ _ _ _).2.2.2.2.1, (State.informCapture_keeps _ _ _).2.2.2.2.1] at hengine
  have hnext : ((s.latchEdges i d event).informBreakers i d event).nextTickOffset run.startTime =
      s.nextTickOffset run.startTime := State.nextTickOffset_congr (by simp) (by simp) (by simp) _
  have hinform := State.informCapture_half hengine i d h
  simpa [State.handOver, hnext] using hinform

/-- A trigger noted at the entry of a state with a capture mark, at the tick of the entry (R157). -/
theorem State.openVisit_half {t : State} (hcaptures : t.captures = s.captures) (htables : t.tables = s.tables) (sh : Shot)
    (number : Nat) (n : Fin 64) (entry : Nat) (h : HalfId) :
    let x := s.captures.get h
    (t.openVisit sh number n entry).captures.get h =
      if sh.half = some h ∧ (s.entry n).captureMark = true ∧ x.phase = .preTrigger then
        { x with phase := .triggerNoted entry }
      else x := by
  intro x
  have hentry : t.entry n = s.entry n := by rw [State.entry, htables, State.entry]
  simp only [State.openVisit, State.onHalf_noteTrigger, State.onReport_captures, hcaptures, hentry, x]

theorem State.entering_half (s : State) (sh : Shot) (run : Run) (n : Fin 64) (cause : ExitCause) (k : Nat) (h : HalfId) :
    let x := s.captures.get h
    (s.entering sh run n cause k).captures.get h =
      if sh.half = some h ∧ (s.entry n).captureMark = true ∧ x.phase = .preTrigger then
        { x with phase := .triggerNoted (s.offset run.startTime) }
      else x := by
  have hoffset : (s.leaveVisit sh run cause k).offset run.startTime = s.offset run.startTime := by simp [State.offset, State.now]
  simp only [State.entering, State.settleTick_keeps, State.perform, State.enterState, hoffset]
  exact State.openVisit_half (by simp) (by simp) sh _ n _ h

/-- TIME_EXIT at a tick whose exit enters its target. -/
theorem exec_timeExit_enters {slot : Nat} {e : Exit} {n : Fin 64} (he : s.engine = .running sh run)
    (hmove : ∀ k, s.moveDue k = false) (hx : s.dueExit = some (slot, e)) (htime : ∃ limit, e.kind = .time limit)
    (ht : e.target = .state n) (hvisit : run.visit + 1 < 64) (hr : s.reached run n = true) :
    exec .timeExit s = .next (s.openTick.entering sh run n (.exit slot e.kind) 0) := by
  obtain ⟨hdue, -⟩ := State.taken_of_dueExit he hmove hx
  have ha : s.openTick.action = .enter sh run n (.exit slot e.kind) 0 := by
    rw [State.action_of_dueExit he hmove hx, State.follow_state ht, if_neg (Nat.not_le.2 hvisit), if_pos (by simpa using hr)]
  exact (exec_timeExit_of_due hx htime).trans
    (congrArg _ (State.engineWork_eq hdue (State.prepare_of_noMove hmove) ha))

end

end Sys2Proof.Machine
end

section
/-! SUPPORT. The levels of the binary outputs (R108, R109). -/

namespace Sys2Proof.Machine

/-- An enabled simulator names an output, as its 'a' or its 'b' output (R108). -/
def Simulator.Claims (b : Simulator) (o : Fin 8) : Prop :=
  b.setting.enabled = true ∧ (b.setting.aOut = some o ∨ b.setting.bOut = some o)

section
variable {b : Simulator} {o : Fin 8}

theorem Simulator.drives_of_not_claims (h : ¬b.Claims o) : b.drives o = none := by
  unfold Simulator.drives
  split_ifs with hon ha hb
  · exact absurd ⟨hon, .inl ha⟩ h
  · exact absurd ⟨hon, .inr hb⟩ h
  · rfl
  · rfl

theorem Simulator.drives_of_aOut (h : b.Claims o) (ha : b.setting.aOut = some o) :
    b.drives o = some (b.position == .closed || b.position == .opening) := by
  rw [Simulator.drives, if_pos h.1, if_pos ha]

theorem Simulator.drives_of_bOut (h : b.Claims o) (ha : b.setting.aOut ≠ some o) :
    b.drives o = some (b.position == .opened || b.position == .closing) := by
  obtain ⟨hon, hout⟩ := h
  rw [Simulator.drives, if_pos hon, if_neg ha, if_pos (hout.resolve_left ha)]

end

section
variable {s : State} {o : Fin 8}

theorem State.claimed_of_none (h : ∀ k : Fin 4, ¬(s.breakers[k]).Claims o) : s.claimed o = none :=
  List.findSome?_eq_none_iff.2 fun k _ => Simulator.drives_of_not_claims (h k)

/-- An output that one simulator alone names follows that simulator. -/
theorem State.claimed_of_unique {k : Fin 4} {level : Bool} (hk : (s.breakers[k]).drives o = some level)
    (honly : ∀ j : Fin 4, (s.breakers[j]).Claims o → j = k) : s.claimed o = some level := by
  cases hc : s.claimed o with
  | none =>
    have hnone := List.findSome?_eq_none_iff.1 hc k (List.mem_finRange k)
    cases hnone.symm.trans hk
  | some v =>
    obtain ⟨j, -, hj⟩ := List.exists_of_findSome?_eq_some hc
    have hclaims : (s.breakers[j]).Claims o := by
      by_contra hnot
      cases (Simulator.drives_of_not_claims hnot).symm.trans hj
    rw [honly j hclaims] at hj
    exact hj.symm.trans hk

theorem State.outputs_of_not_running (h : s.engine.isRunning = false) : has s.outputs o = false := by
  unfold State.outputs
  split
  · rename_i he
    rw [he] at h
    cases h
  · exact has_zero o

/-- In RUNNING an output that no simulator names is in the pattern of the state in force or not, and any other is at the level that a
simulator drives (R109). -/
theorem State.has_outputs {sh : Shot} {run : Run} (he : s.engine = .running sh run) (o : Fin 8) :
    has s.outputs o = (s.claimed o).getD (has (s.entry run.inForce).pattern o) := by
  simp only [State.outputs, he, has_setOf]
  cases s.claimed o <;> rfl

end

/-- Settles O50: the record at a tick's opening, the levels that SAMPLE_TICK keeps, the two triggers, the output levels and the stop. -/
theorem captureRecordsEveryTick : Obligations.CaptureRecordsEveryTick := by
  refine ⟨fun s sh run h he => ?_, fun s sh run he hstay => ?_, fun s sh run i e h he => ?_,
    fun s sh run slot e n h he hmove hx htime ht hvisit hr => ?_, fun s o => ⟨State.outputs_of_not_running, fun sh run he => ?_⟩,
    fun x => ⟨Half.stop_of_untriggered, Half.stop_of_postTrigger, Half.stop_of_full⟩⟩
  · intro x
    refine ⟨State.openTick_of_opened, fun hclosed => ⟨(State.openTick_frame hclosed).1, (State.openTick_frame hclosed).2, ?_⟩⟩
    cases hp : s.tick.previous with
    | none =>
      rw [State.openTick_captures_of_none hclosed hp]
      exact (ite_self _).symm
    | some lv =>
      rw [State.openTick_half he hclosed hp]
      by_cases hhalf : sh.half = some h
      · rw [if_pos hhalf, if_neg (not_not.2 hhalf)]
        dsimp only
        split
        case h_1 hpre => exact Half.write_of_preTrigger hpre _
        case h_2 tick hnoted => exact (Half.write_of_triggerNoted hnoted _).trans (by rw [Half.writeTrigger_eq]; rfl)
        case h_3 hpost => exact (Half.write_of_postTrigger hpost _).trans (by rw [Half.append_eq]; rfl)
        case h_4 hfull => exact Half.write_of_full hfull _
        case h_5 hpre hnoted hpost hfull => exact Half.write_of_idle hpre hnoted hpost hfull _
      · rw [if_neg hhalf, if_pos hhalf]
  · obtain ⟨t, hexec, hcaptures, hprevious⟩ := exec_sampleTick_keepsLevels he hstay
    exact ⟨t, _, hexec, hcaptures, hprevious, rfl, rfl, s.has_acceptedLevels⟩
  · intro c x next hepisode hon hpast hne
    refine ⟨_, (exec_episodeEnd_of_some (Contact.ends_eq_some hepisode hon hpast)).trans
      (congrArg _ (State.endEpisode_of_ne hne)), ?_⟩
    have hhalf := State.handOver_half (s := s.accepting i e) he i (c.setting.direction c.pin) e.start h
    simp only [InputSetting.direction_operate] at hhalf
    exact hhalf
  · intro x
    have hhalf := s.openTick.entering_half sh run n (.exit slot e.kind) 0 h
    simp only [State.openTick_entry, State.openTick_offset] at hhalf
    exact ⟨_, exec_timeExit_enters he hmove hx htime ht hvisit hr, hhalf⟩
  · intro claims
    have hlevel := State.has_outputs he o
    refine ⟨fun hnone => ?_, fun k hk honly => ⟨fun ha => ?_, fun ha => ?_⟩⟩
    · rw [hlevel, State.claimed_of_none hnone, Option.getD_none]
    · rw [hlevel, State.claimed_of_unique (Simulator.drives_of_aOut hk ha) honly]
      simp
    · rw [hlevel, State.claimed_of_unique (Simulator.drives_of_bOut hk ha) honly]
      simp

end Sys2Proof.Machine
end

section
/-! SUPPORT. INHIBIT and the granted shot (R30, R128 to R131). Of the state the judgement of the granted shot reads the held level, the
override latch and the lane-use mask of a shot that no end awaits; an operation that changes none of them keeps shots off under INHIBIT, an
end requested leaves no shot exposed, and a grant gives the engine to an eligible request only. -/

namespace Sys2Proof.Machine

/-! ## What INHIBIT judges -/

/-- The lane-use mask of a shot that INHIBIT judges: one ARMED, or RUNNING with no end pending (R128). -/
def Engine.exposed : Engine → Option LaneSet
  | .armed sh _ => some sh.req.laneUse
  | .running sh run => if run.pendingEnd = none then some sh.req.laneUse else none
  | _ => none

@[simp] theorem Engine.exposed_idle : Engine.idle.exposed = none := rfl
@[simp] theorem Engine.exposed_settling (sh : Shot) (a : Option Clock) (b : Clock) : (Engine.settling sh a b).exposed = none := rfl
@[simp] theorem Engine.exposed_armed (sh : Shot) (a : Option Clock) : (Engine.armed sh a).exposed = some sh.req.laneUse := rfl
@[simp] theorem Engine.exposed_running (sh : Shot) (run : Run) :
    (Engine.running sh run).exposed = if run.pendingEnd = none then some sh.req.laneUse else none := rfl

/-- What the judgement of the granted shot reads: the held INHIBIT level, the override latch and the exposed mask (R128). -/
def State.guard (s : State) : Bool × Bool × Option LaneSet := (s.sup.inhibit, s.sup.override, s.engine.exposed)

/-- No shot is held on under INHIBIT in `t` when none is in `s`. -/
def State.Guards (s t : State) : Prop := s.InhibitHolds → t.InhibitHolds

section
variable {s t u : State}

/-- Under INHIBIT an exposed shot has the override and uses no lane (R128). -/
theorem State.inhibitHolds_iff :
    s.InhibitHolds ↔ (s.sup.inhibit = true → ∀ m ∈ s.engine.exposed, s.sup.override = true ∧ m = 0) := by
  unfold State.InhibitHolds
  cases s.engine with
  | idle | settling sh a b => simp
  | armed sh latch => simp
  | running sh run => by_cases h : run.pendingEnd = none <;> simp [h]

theorem State.guard_eq_iff : t.guard = s.guard ↔
    t.sup.inhibit = s.sup.inhibit ∧ t.sup.override = s.sup.override ∧ t.engine.exposed = s.engine.exposed := by
  simp only [State.guard, Prod.mk.injEq]

/-- With the same lanes and latches of the Supervision Unit and the same engine the judgement reads the same. -/
theorem State.guard_of_eq (hsup : t.sup = s.sup) (hengine : t.engine = s.engine) : t.guard = s.guard := by
  rw [State.guard, State.guard, hsup, hengine]

theorem State.InhibitHolds.of_deasserted (h : s.sup.inhibit = false) : s.InhibitHolds :=
  State.inhibitHolds_iff.2 fun hi => by rw [h] at hi; cases hi

theorem State.InhibitHolds.of_unexposed (h : s.engine.exposed = none) : s.InhibitHolds :=
  State.inhibitHolds_iff.2 fun _ m hm => by rw [h] at hm; cases hm

theorem State.Guards.refl : s.Guards s := id

theorem State.Guards.trans (h : s.Guards t) (g : t.Guards u) : s.Guards u := fun hs => g (h hs)

/-- An operation that neither asserts INHIBIT, nor clears the override, nor exposes a shot. -/
theorem State.Guards.of_milder (hi : t.sup.inhibit = true → s.sup.inhibit = true)
    (ho : s.sup.override = true → t.sup.override = true) (he : ∀ m ∈ t.engine.exposed, m ∈ s.engine.exposed) :
    s.Guards t := by
  intro hs
  rw [State.inhibitHolds_iff] at hs ⊢
  intro hinhibit m hm
  obtain ⟨hoverride, hmask⟩ := hs (hi hinhibit) m (he m hm)
  exact ⟨ho hoverride, hmask⟩

theorem State.Guards.of_same (h : t.guard = s.guard) : s.Guards t := by
  obtain ⟨hi, ho, he⟩ := State.guard_eq_iff.1 h
  exact .of_milder (by rw [hi]; exact id) (by rw [ho]; exact id) (by rw [he]; exact fun _ h => h)

theorem State.Guards.ite {c : Prop} [Decidable c] (h : s.Guards t) (g : s.Guards u) : s.Guards (if c then t else u) := by
  split
  · exact h
  · exact g

end

/-! ## Grants and ends (R33, R58 to R64, R128) -/

section
variable {s : State}

theorem State.settle_exposed (s : State) (sh : Shot) (start : Option Clock) : (s.settle sh start).engine.exposed = none := by
  rw [State.settle_engine]
  split <;> rfl

theorem State.endArmed_exposed (s : State) (sh : Shot) (r : EndReason) : (s.endArmed sh r).engine.exposed = none :=
  State.settle_exposed _ sh none

theorem State.endRunning_exposed (s : State) (sh : Shot) (run : Run) (r : EndReason) (cause : ExitCause) :
    (s.endRunning sh run r cause).engine.exposed = none :=
  State.settle_exposed _ sh _

/-- A grant under INHIBIT is one to a request that uses no lane, with the override set (R30 condition 5). -/
theorem State.grantInto_inhibitHolds {r : Request} (k : Fin 16) (h : s.choice = some r) : (s.grantInto r k).InhibitHolds := by
  obtain ⟨-, -, -, -, hinhibits⟩ := State.eligible_iff.1 (State.choice_mem h).2
  rw [State.inhibitHolds_iff]
  intro hi m hm
  have hsup : (s.grantInto r k).sup = s.sup := by simp
  rw [State.grantInto_engine, Engine.exposed_armed, Option.mem_some] at hm
  subst hm
  rw [hsup] at hi ⊢
  by_contra hn
  rw [not_and_or, Bool.not_eq_true] at hn
  exact Bool.eq_false_iff.1 hinhibits (State.inhibits_iff.2 ⟨hi, hn⟩)

theorem State.grantMoment_guards (s : State) : s.Guards s.grantMoment := fun hs =>
  State.grantMoment_induct hs (fun _ _ k _ hc _ => State.grantInto_inhibitHolds k hc)
    fun t sh _ _ _ => .of_unexposed (t.endArmed_exposed sh _)

/-- An end requested leaves no shot exposed, but for one granted after it (R58, R59). -/
theorem State.requestEnd_inhibitHolds (s : State) (r : EndReason) : (s.requestEnd r).InhibitHolds := by
  cases h : s.engine with
  | idle => rw [State.requestEnd_of_idle r h]; exact .of_unexposed (by simp [h])
  | settling sh a b => rw [State.requestEnd_of_settling r h]; exact .of_unexposed (by simp [h])
  | armed sh latch =>
    rw [State.requestEnd_of_armed r h]
    exact State.grantMoment_guards _ (.of_unexposed (s.endArmed_exposed sh r))
  | running sh run => rw [State.requestEnd_of_running r h]; exact .of_unexposed (by simp)

theorem State.requestEnd_guards (s : State) (r : EndReason) : s.Guards (s.requestEnd r) := fun _ => s.requestEnd_inhibitHolds r

/-- The judgement ends the granted shot wherever the override is clear (R128). -/
theorem State.judgeInhibit_inhibitHolds (h : s.sup.override = false) : s.judgeInhibit.InhibitHolds := by
  unfold State.judgeInhibit
  split
  · exact s.requestEnd_inhibitHolds _
  · rename_i hn
    exact .of_deasserted (by simpa [h] using hn)

theorem State.setQuality_guards (s : State) (q : Quality) : s.Guards (s.setQuality q) := by
  unfold State.setQuality State.qualityChanged
  dsimp only
  repeat' split
  · exact .of_same (State.guard_of_eq (by simp) (by simp))
  · exact fun _ => State.requestEnd_inhibitHolds _ _
  · exact .of_same (State.guard_of_eq (by simp) (by simp))
  · exact .of_same (State.guard_of_eq (by simp) (by simp))

end

/-! ## Moves and accepted events (R91, R102 to R106) -/

section
variable (s : State)

@[simp] theorem State.writeElem_guard (k : Fin 4) (c : BreakerChange) : (s.writeElem k c).guard = s.guard := by
  refine State.guard_eq_iff.2 ⟨by simp, by simp, ?_⟩
  unfold State.writeElem
  split
  · rename_i he
    split <;> simp [he]
  · rfl

@[simp] theorem State.beginOpening_guard (k : Fin 4) (c : Clock) : (s.beginOpening k c).guard = s.guard :=
  (State.writeElem_guard _ _ _).trans (State.guard_of_eq (by simp) (by simp))

@[simp] theorem State.beginClosing_guard (k : Fin 4) (c : Clock) : (s.beginClosing k c).guard = s.guard :=
  (State.writeElem_guard _ _ _).trans (State.guard_of_eq (by simp) (by simp))

@[simp] theorem State.setBreaker_guard (k : Fin 4) (b : Simulator) : (s.setBreaker k b).guard = s.guard := rfl

@[simp] theorem State.cutRequests_guard (k : Fin 4) : (s.cutRequests k).guard = s.guard := rfl

@[simp] theorem State.reenergiseRequests_guard (k : Fin 4) : (s.reenergiseRequests k).guard = s.guard := rfl

@[simp] theorem State.takeOpen_guard (k : Fin 4) : (s.takeOpen k).guard = s.guard := by
  unfold State.takeOpen
  dsimp only
  split <;> simp

@[simp] theorem State.takeClosed_guard (k : Fin 4) : (s.takeClosed k).guard = s.guard := by
  unfold State.takeClosed
  dsimp only
  split <;> simp

@[simp] theorem State.completeMove_guard (k : Fin 4) : (s.completeMove k).guard = s.guard := by
  unfold State.completeMove
  repeat' split
  all_goals simp [State.reachOpen, State.reachClosed]

@[simp] theorem State.completeMoves_guard : s.completeMoves.guard = s.guard :=
  foldl_keeps State.guard _ (fun t k => by simp [State.completeBoth]) _ s

@[simp] theorem State.breakerEvent_guard (run : Run) (i : Fin 16) (d : Direction) (c : Clock) (k : Fin 4) :
    (s.breakerEvent run i d c k).guard = s.guard := by
  unfold State.breakerEvent State.trip State.close
  dsimp only
  repeat' split
  all_goals simp

theorem State.informBreakers_guard (i : Fin 16) (d : Direction) (c : Clock) : (s.informBreakers i d c).guard = s.guard := by
  unfold State.informBreakers
  split
  · exact keeps_three State.guard (fun t k => by simp) (fun t k => by split <;> simp) (fun t k => by split <;> simp) _ s
  · rfl

theorem State.latchEdges_guard (i : Fin 16) (d : Direction) (c : Clock) : (s.latchEdges i d c).guard = s.guard := by
  refine State.guard_eq_iff.2 ⟨by simp, by simp, ?_⟩
  unfold State.latchEdges
  split
  · rename_i he
    split <;> simp [he]
  · rfl

theorem State.handOver_guard (i : Fin 16) (d : Direction) (c : Clock) : (s.handOver i d c).guard = s.guard :=
  calc (s.handOver i d c).guard
      = ((s.latchEdges i d c).informBreakers i d c).guard := State.guard_of_eq (by simp [State.handOver]) (by simp [State.handOver])
    _ = (s.latchEdges i d c).guard := State.informBreakers_guard _ i d c
    _ = s.guard := s.latchEdges_guard i d c

theorem State.endEpisode_guard (i : Fin 16) (e : Episode) : (s.endEpisode i e).guard = s.guard := by
  unfold State.endEpisode
  dsimp only
  split
  · rfl
  · exact State.handOver_guard _ _ _ _

end

/-! ## A tick (R48, R51, R58, R68, R122 to R125) -/

section
variable (s : State)

@[simp] theorem State.openTick_guard : s.openTick.guard = s.guard := by
  refine State.guard_eq_iff.2 ?_
  unfold State.openTick
  split <;> simp

@[simp] theorem State.prepare_guard : s.prepare.guard = s.guard := by
  unfold State.prepare
  split <;> simp

theorem State.flushElems_guard : s.flushElems.guard = s.guard := by
  refine State.guard_eq_iff.2 ⟨by simp, by simp, ?_⟩
  unfold State.flushElems
  split
  · rename_i he
    simp [he]
  · rfl

theorem State.settleTick_guard : s.settleTick.guard = s.guard :=
  calc s.settleTick.guard
      = s.flushElems.guard := State.guard_of_eq (by simp [State.settleTick]) (by simp [State.settleTick])
    _ = s.guard := s.flushElems_guard

@[simp] theorem State.setSup_guard (i : Fin 12) (x : SupLane) : (s.setSup i x).guard = s.guard := rfl

@[simp] theorem State.setCondition_guard (i : Fin 12) (c : Condition) : (s.setCondition i c).guard = s.guard := by
  unfold State.setCondition
  dsimp only
  split <;> rfl

theorem State.compareLane_guard (i : Fin 12) : (s.compareLane i).guard = s.guard := by
  unfold State.compareLane
  dsimp only
  repeat' split
  · exact State.setCondition_guard _ _ _
  · rfl
  · rfl

theorem State.compareLanes_guard : s.compareLanes.guard = s.guard :=
  foldl_keeps State.guard _ State.compareLane_guard _ s

theorem State.compareAll_guards : s.Guards s.compareAll := by
  unfold State.compareAll
  split
  · exact fun _ => State.requestEnd_inhibitHolds _ _
  · exact .of_same s.compareLanes_guard

theorem State.heatAll_guards : s.Guards s.heatAll := by
  unfold State.heatAll
  repeat' split
  · exact .refl
  · exact fun _ => State.requestEnd_inhibitHolds _ _
  · exact .of_same rfl

/-- No exit starts a shot (R55). -/
theorem State.follow_ne_start (sh sh' : Shot) (run : Run) (slot : Nat) (e : Exit) : s.follow sh run slot e ≠ .start sh' := by
  unfold State.follow
  repeat' split
  all_goals nofun

/-- Only an ARMED shot starts (R45). -/
theorem State.armed_of_start {sh : Shot} (h : s.action = .start sh) : ∃ latch, s.engine = .armed sh latch := by
  unfold State.action at h
  split at h
  · rename_i he
    split at h <;> cases h
    exact ⟨_, he⟩
  · split at h
    · cases h
    · split at h
      · split at h <;> cases h
      · split at h
        · cases h
        · exact (s.follow_ne_start _ _ _ _ _ h).elim
  · cases h

/-- A shot that starts was ARMED with the same request (R48). -/
theorem State.startShot_guards {sh : Shot} {latch : Option Clock} (h : s.engine = .armed sh latch) : s.Guards (s.startShot sh) := by
  have hsup : (s.startShot sh).sup.inhibit = s.sup.inhibit ∧ (s.startShot sh).sup.override = s.sup.override := by
    simp [State.startShot, State.loadProfile]
  refine .of_same (State.guard_eq_iff.2 ⟨hsup.1, hsup.2, ?_⟩)
  rw [State.startShot_engine, h]
  rfl

/-- The engine's act at a tick: a shot that starts was ARMED, one that goes on has no end pending that it had not, and one that ends is
no longer judged (R45, R51, R55, R56, R58). -/
theorem State.perform_guards : s.Guards (s.perform s.action) := by
  have hready := s.action_ready
  cases ha : s.action with
  | rest | stay => exact .refl
  | start sh =>
    obtain ⟨latch, he⟩ := s.armed_of_start ha
    exact s.startShot_guards he
  | finish sh run r cause => exact fun _ => State.grantMoment_guards _ (.of_unexposed (State.endRunning_exposed _ _ _ _ _))
  | enter sh run target cause n =>
    rw [ha] at hready
    obtain ⟨he, -⟩ := hready
    refine .of_same (State.guard_eq_iff.2 ?_)
    simp [State.perform, State.enterState, he]
  | defer sh run d =>
    rw [ha] at hready
    obtain ⟨he, -⟩ := hready
    refine .of_same (State.guard_eq_iff.2 ?_)
    simp [State.perform, he]

theorem State.engineWork_guards : s.Guards s.engineWork := by
  unfold State.engineWork
  refine .ite ?_ (.ite (.of_same s.completeMoves_guard) .refl)
  exact (State.Guards.of_same s.prepare_guard).trans (s.prepare.perform_guards.trans (.of_same (State.settleTick_guard _)))

theorem State.closeTick_guards : s.Guards s.closeTick := .of_same (State.guard_of_eq (by simp) (by simp))

theorem State.runTick_guards : s.Guards s.runTick := by
  unfold State.runTick
  refine .ite ?_ .refl
  exact (((s.engineWork_guards.trans (State.compareAll_guards _)).trans (State.heatAll_guards _)).trans
    (State.closeTick_guards _)).trans (State.grantMoment_guards _)

/-- What happens to a lane at a tick is no concern of INHIBIT's judgement. -/
theorem State.laneEvent_guards {due : State → Shot → Run → Bool} {act : State → Shot → Run → State}
    (h : ∀ (t : State) sh run, (act t sh run).guard = t.guard) : s.Guards (s.laneEvent due act) := by
  unfold State.laneEvent
  repeat' split
  · exact s.engineWork_guards.trans (.of_same (h _ _ _))
  all_goals exact .refl

theorem State.deviationFault_guards (i : Fin 12) : s.Guards (s.deviationFault i) := by
  unfold State.deviationFault
  exact .ite (.ite s.engineWork_guards .refl) (.ite (s.engineWork_guards.trans (State.compareAll_guards _)) .refl)

/-! ## The Test Clock (R47, R48, R167 to R171) -/

theorem State.startSecond_guards : s.Guards s.startSecond := by
  unfold State.startSecond
  repeat' split
  · rename_i sh he _
    have hstart : s.openTick.Guards (s.openTick.startShot sh) := State.startShot_guards _ (latch := none) (by simpa using he)
    exact ((State.Guards.of_same s.openTick_guard).trans hstart).trans (.of_same (State.settleTick_guard _))
  all_goals exact .refl

theorem State.handleMark_guards : s.Guards s.handleMark := by
  unfold State.handleMark State.acceptMark
  repeat' split
  · rename_i a _
    have hanchor : s.Guards { s.reanchor with
        clock := { s.reanchor.clock with reference := some s.now, count := a.count, deviation := a.deviation } } :=
      .of_same (State.guard_of_eq (by simp) (by simp))
    exact (hanchor.trans (State.setQuality_guards _ _)).trans (State.startSecond_guards _)
  all_goals exact .refl

theorem State.expire_guards : s.Guards s.expire := by
  unfold State.expire
  split
  · exact s.setQuality_guards _
  · have hgone : s.Guards { s with clock := { s.clock with reference := none, count := 0 } } := .of_same rfl
    exact hgone.trans (State.setQuality_guards _ _)

theorem State.setDiscipline_guards (on : Bool) : s.Guards (s.setDiscipline on) := by
  unfold State.setDiscipline
  have hswitch : s.Guards (s.switchDiscipline on) := .of_same rfl
  exact .ite .refl (hswitch.trans (State.setQuality_guards _ _))

end

end Sys2Proof.Machine
end

section
/-! SUPPORT. Every command, and the end of a microsecond, keeps shots off under INHIBIT (R128 to R131). -/

namespace Sys2Proof.Machine

/-! ## What the requests do -/

section
variable {s : State}

/-- The override cleared: where it was set the granted shot is judged (R128, R130, R131). -/
theorem State.clearOverride_guards (s : State) : s.Guards s.clearOverride := by
  unfold State.clearOverride
  dsimp only
  split
  · exact fun _ => State.judgeInhibit_inhibitHolds rfl
  · rename_i h
    exact .of_milder id (fun ho => absurd ho h) fun _ h => h

/-- The override set lets more shots stand (R130). -/
theorem State.setOverrideLatch_guards (s : State) : s.Guards s.setOverrideLatch := by
  have hset : s.Guards { s with sup := { s.sup with override := true } } := .of_milder id (fun _ => rfl) fun _ h => h
  unfold State.setOverrideLatch
  exact .ite (hset.trans (State.grantMoment_guards _)) hset

theorem State.endGoWait_guards (s : State) (l : Link) : s.Guards (s.endGoWait l) := by
  unfold State.endGoWait
  repeat' split
  · exact s.requestEnd_guards _
  all_goals exact .refl

theorem State.linkReset_guards (s : State) (l : Link) : s.Guards (s.linkReset l) := by
  have hgone : s.Guards (((s.setLink l ((s.link l).linkReset l)).removeQueuedOf l).resetRecords l) :=
    .of_same (State.guard_of_eq (by simp) (by simp))
  have hended := hgone.trans (State.endGoWait_guards _ l)
  unfold State.linkReset
  dsimp only
  split
  · exact hended.trans (State.clearOverride_guards _)
  · exact hended

theorem State.declareFault_guards (s : State) (i : Fin 12) : s.Guards (s.declareFault i) := by
  unfold State.declareFault
  exact .ite (fun _ => State.requestEnd_inhibitHolds _ _) (.of_same (s.setCondition_guard i _))

theorem State.retire_guards (s : State) (k : Fin 16) (l : Link) (w : LinkSet) : s.Guards (s.retire k l w) := by
  have hempty : s.Guards { s with reports := s.reports.set k (s.reports[k].retire l), captures := s.captures.freeBound k } :=
    .of_same rfl
  unfold State.retire
  exact .ite (hempty.trans (State.grantMoment_guards _)) (.of_same rfl)

theorem State.takeTrig_guard (s : State) : s.takeTrig.guard = s.guard := by
  refine State.guard_eq_iff.2 ⟨by simp, by simp, ?_⟩
  unfold State.takeTrig
  split
  · rename_i he
    split <;> simp [he]
  · rename_i he
    split <;> simp [he]
  · rfl

/-! ## The requests that can be refused -/

/-- A command leads to states that hold no shot on under INHIBIT when none is held on before it. -/
def State.LeadsGuarded (s : State) (o : Host.Outcome State Fault Refusal) : Prop := ∀ t, o = .next t → s.Guards t

theorem State.LeadsGuarded.next {t : State} (h : s.Guards t) : s.LeadsGuarded (.next t) := fun _ e => by
  cases e; exact h

/-- A refusal and a reply are no concern of INHIBIT's judgement (R175). -/
theorem State.LeadsGuarded.respond {l : Link} {k : Kind} {tag : Byte} {res : Except Denial (State × ReplyBody)}
    (h : ∀ t b, res = .ok (t, b) → s.Guards t) : s.LeadsGuarded (.next (Machine.respond l k tag s res)) := by
  refine .next ?_
  cases res with
  | error d => exact .of_same (State.guard_of_eq (by simp [Machine.respond]) (by simp [Machine.respond]))
  | ok p => exact (h p.1 p.2 rfl).trans (.of_same rfl)

theorem State.LeadsGuarded.ok {l : Link} {k : Kind} {tag : Byte} {t : State} {b : ReplyBody} (h : s.Guards t) :
    s.LeadsGuarded (.next (Machine.respond l k tag s (.ok (t, b)))) :=
  .respond fun _ _ e => by cases e; exact h

section
variable {l : Link} {t : State} {b : ReplyBody}

/-- The loads and the frees write tables only (R12, R14). -/
theorem tableRequests_guards (h : (∃ body, loadState l body s = .ok (t, b)) ∨ (∃ body, loadProfile l body s = .ok (t, b)) ∨
    (∃ n, freeState l n s = .ok (t, b)) ∨ ∃ n, freeProfile l n s = .ok (t, b)) : s.Guards t := by
  refine .of_same ?_
  rcases h with ⟨_, h⟩ | ⟨_, h⟩ | ⟨_, h⟩ | ⟨_, h⟩
  · unfold loadState at h
    repeat' split at h
    all_goals cases h
    rfl
  · unfold loadProfile at h
    repeat' split at h
    all_goals cases h
    rfl
  · unfold freeState at h
    repeat' split at h
    all_goals cases h
    rfl
  · unfold freeProfile at h
    repeat' split at h
    all_goals cases h
    rfl

/-- The requests that read leave the state that they find (R15, R148, R161). -/
theorem reads_state_eq (h : (∃ n, readStateRecord n s = .ok (t, b)) ∨ (∃ n, readProfileRecord n s = .ok (t, b)) ∨
    (∃ k n p v f c, readReport k n p v f c s = .ok (t, b)) ∨ ∃ x f c, readCapture x f c s = .ok (t, b)) : t = s := by
  rcases h with ⟨_, h⟩ | ⟨_, h⟩ | ⟨_, _, _, _, _, _, h⟩ | ⟨_, _, _, h⟩
  · unfold readStateRecord at h
    split at h <;> cases h
    rfl
  · unfold readProfileRecord at h
    split at h <;> cases h
    rfl
  · unfold readReport at h
    repeat' split at h
    all_goals cases h
    rfl
  · unfold readCapture at h
    dsimp only at h
    repeat' split at h
    all_goals cases h
    rfl

theorem submitShot_guards {x : Submit} (h : submitShot l x s = .ok (t, b)) : s.Guards t := by
  unfold submitShot at h
  repeat' split at h
  all_goals cases h
  have hjoined : s.Guards (s.enqueue (s.completeRequest (x.request l))) :=
    .of_same (State.guard_of_eq (by simp) (by simp))
  exact hjoined.trans (State.grantMoment_guards _)

theorem abort_guards {n : Byte} (h : abort l n s = .ok (t, b)) : s.Guards t := by
  unfold abort abortGranted at h
  repeat' split at h
  all_goals cases h
  · exact .of_same (State.guard_of_eq (by simp) (by simp))
  · exact s.requestEnd_guards _

theorem setLinkPriority_guards {p w : Byte} (h : setLinkPriority l p w s = .ok (t, b)) : s.Guards t := by
  unfold setLinkPriority at h
  split at h <;> cases h
  exact .of_same rfl

theorem go_guards (h : go l s = .ok (t, b)) : s.Guards t := by
  unfold go at h
  repeat' split at h
  all_goals cases h
  rename_i he _ _
  exact .of_same (State.guard_eq_iff.2 (by simp [he]))

theorem panelStep_guards (h : panelStep l s = .ok (t, b)) : s.Guards t := by
  unfold panelStep at h
  repeat' split at h
  all_goals cases h
  rename_i he _
  exact .of_same (State.guard_eq_iff.2 (by simp [he]))

theorem adjust_guards {i d : Byte} (h : adjust l i d s = .ok (t, b)) : s.Guards t := by
  unfold adjust State.adjustLane at h
  repeat' split at h
  all_goals cases h
  exact .of_same rfl

theorem setSupervision_guards {i e : Byte} {d : Half16} {m : Byte} {r x : Half16}
    (h : setSupervision l i e d m r x s = .ok (t, b)) : s.Guards t := by
  unfold setSupervision at h
  repeat' split at h
  all_goals cases h
  exact (State.Guards.of_same (s.setSup_guard _ _)).trans (State.grantMoment_guards _)

theorem declareLaneFault_guards {i : Byte} (h : declareLaneFault l i s = .ok (t, b)) : s.Guards t := by
  unfold declareLaneFault at h
  repeat' split at h
  all_goals cases h
  exact s.declareFault_guards _

theorem clearLaneFault_guards {i : Byte} (h : clearLaneFault l i s = .ok (t, b)) : s.Guards t := by
  unfold clearLaneFault at h
  repeat' split at h
  all_goals cases h
  exact (State.Guards.of_same (s.setSup_guard _ _)).trans (State.grantMoment_guards _)

theorem setOverride_guards {a : Byte} (h : setOverride l a s = .ok (t, b)) : s.Guards t := by
  unfold setOverride at h
  repeat' split at h
  all_goals cases h
  · exact s.setOverrideLatch_guards
  · exact s.clearOverride_guards

theorem subscribe_guards {x n : Byte} (h : subscribe l x n s = .ok (t, b)) : s.Guards t := by
  unfold subscribe at h
  dsimp only at h
  repeat' split at h
  all_goals cases h
  · have hleft : s.Guards ((s.leaveAll l).setSubscription l false n.toNat) :=
      .of_same (State.guard_of_eq (by simp) (by simp))
    exact hleft.trans (State.grantMoment_guards _)
  · exact .of_same (State.guard_of_eq (by simp) (by simp))

theorem retireReport_guards {k : Byte} {n : Half16} (h : retireReport l k n s = .ok (t, b)) : s.Guards t := by
  unfold retireReport at h
  repeat' split at h
  all_goals cases h
  exact s.retire_guards _ _ _

theorem setDiscipline_guards {x : Byte} (h : setDiscipline l x s = .ok (t, b)) : s.Guards t := by
  unfold setDiscipline at h
  dsimp only at h
  repeat' split at h
  all_goals cases h
  exact s.setDiscipline_guards _

end

/-! ## Every command -/

theorem runRequest_guarded (l : Link) (k : Kind) (tag : Byte) (body : List Byte) (s : State) :
    s.LeadsGuarded (runRequest l k tag body s) := by
  cases k with
  | nop | peekNotices | tableStatus | queueStatus | supervisionStatus | reportStatus | timeStatus => exact .ok .refl
  | takeNotices | clearFault => exact .ok (.of_same rfl)
  | linkReset => exact .ok (s.linkReset_guards l)
  | loadState => exact .respond fun _ _ h => tableRequests_guards (.inl ⟨_, h⟩)
  | loadProfile => exact .respond fun _ _ h => tableRequests_guards (.inr (.inl ⟨_, h⟩))
  | freeState => exact .respond fun _ _ h => tableRequests_guards (.inr (.inr (.inl ⟨_, h⟩)))
  | freeProfile => exact .respond fun _ _ h => tableRequests_guards (.inr (.inr (.inr ⟨_, h⟩)))
  | readState => exact .respond fun _ _ h => .of_same (by rw [reads_state_eq (.inl ⟨_, h⟩)])
  | readProfile => exact .respond fun _ _ h => .of_same (by rw [reads_state_eq (.inr (.inl ⟨_, h⟩))])
  | submitShot => exact .respond fun _ _ => submitShot_guards
  | abort => exact .respond fun _ _ => abort_guards
  | setLinkPriority => exact .respond fun _ _ => setLinkPriority_guards
  | go => exact .respond fun _ _ => go_guards
  | step => exact .respond fun _ _ => panelStep_guards
  | adjust => exact .respond fun _ _ => adjust_guards
  | setSupervision => exact .respond fun _ _ => setSupervision_guards
  | declareLaneFault => exact .respond fun _ _ => declareLaneFault_guards
  | clearLaneFault => exact .respond fun _ _ => clearLaneFault_guards
  | setOverride => exact .respond fun _ _ => setOverride_guards
  | subscribe => exact .respond fun _ _ => subscribe_guards
  | readReport => exact .respond fun _ _ h => .of_same (by rw [reads_state_eq (.inr (.inr (.inl ⟨_, _, _, _, _, _, h⟩)))])
  | retireReport => exact .respond fun _ _ => retireReport_guards
  | readCapture => exact .respond fun _ _ h => .of_same (by rw [reads_state_eq (.inr (.inr (.inr ⟨_, _, _, h⟩)))])
  | setDiscipline => exact .respond fun _ _ => setDiscipline_guards

theorem execBadFrame_guarded (l : Link) (bytes : List Byte) (s : State) : s.LeadsGuarded (execBadFrame l bytes s) := by
  unfold execBadFrame
  repeat' split
  · exact .next .refl
  · exact .next (.of_same (State.guard_of_eq (by simp) (by simp)))
  · exact runRequest_guarded _ _ _ _ _

/-- INHIBIT asserted: the override is cleared and the granted shot is judged (R127, R128, R131). -/
theorem execInhibitAssert_guarded (s : State) : s.LeadsGuarded (execInhibitAssert s) :=
  .next (.ite (.of_same rfl) fun _ => State.judgeInhibit_inhibitHolds rfl)

theorem execInhibitDeassert_guarded (s : State) : s.LeadsGuarded (execInhibitDeassert s) :=
  .next (.ite (fun _ => State.grantMoment_guards _ (.of_deasserted rfl)) (.of_same rfl))

theorem exec_guarded (c : Instr) (s : State) : s.LeadsGuarded (exec c s) := by
  cases hp : frameParts c with
  | some p =>
    obtain ⟨l, k, tag, body⟩ := p
    rw [← runRequest_of_parts hp]
    exact runRequest_guarded l k tag body s
  | none =>
    cases c with
    | powerOnReset => exact .next fun _ => .of_deasserted rfl
    | badFrame l bytes => exact execBadFrame_guarded l bytes s
    | grant => exact .next s.grantMoment_guards
    | trigEdge => exact .next (.ite (.of_same (State.takeTrig_guard _)) (.of_same rfl))
    | mark =>
      have hsample : s.Guards { s with clock := { s.clock with markNow := true } } := .of_same rfl
      exact .next (.ite (hsample.trans (State.handleMark_guards _)) hsample)
    | qualityExpiry => exact .next (.ite s.expire_guards .refl)
    | clockWrap => exact .next (.ite (.of_same rfl) .refl)
    | inhibitAssert => exact execInhibitAssert_guarded s
    | inhibitDeassert => exact execInhibitDeassert_guarded s
    | contactRawEdge i level => exact .next (.of_same rfl)
    | episodeEnd i => exact .next (by split; exacts [.of_same (s.endEpisode_guard i _), .refl])
    | moveComplete k => exact .next (.of_same (s.completeMove_guard k))
    | readbackFrame frame => exact .next (.of_same rfl)
    | sampleTick => exact .next s.runTick_guards
    | timeExit | deferralEnd | shotStart | shotEnd => exact .next (.ite s.engineWork_guards .refl)
    | visitClose =>
      exact .next (by split; exacts [.of_same (State.guard_of_eq (by simp) (by simp)), .refl])
    | teardown =>
      refine .next ?_
      split
      · exact fun _ => State.grantMoment_guards _ (.of_unexposed rfl)
      · exact .refl
    | deviationFault i => exact .next (s.deviationFault_guards i)
    | cutTakesEffect i | cutLimit i => exact .next (s.laneEvent_guards fun _ _ _ => rfl)
    | reenergise i => exact .next (s.laneEvent_guards fun _ _ _ => State.guard_of_eq (by simp) (by simp))
    | _ => cases hp

end

/-- Settles O58: an end requested, by the judgement at an assertion edge or at the override's clearing or by another block, leaves no
shot exposed; a grant under INHIBIT is one without lanes beside the override; and nothing else exposes a shot, asserts INHIBIT or clears
the override. -/
theorem stepsKeepShotsOffUnderInhibit : Obligations.StepsKeepShotsOffUnderInhibit := by
  intro s t hs h
  unfold step State.idle at h
  repeat' split at h
  · rename_i c rest _
    exact exec_guarded c { s with pending := rest } t h hs
  · exact exec_guarded _ s t h hs
  · cases h
    exact hs

end Sys2Proof.Machine
end

section
/-! SUPPORT. The status requests, the override latch, the INHIBIT edges and the readback frame (R121, R127 to R132, R146, R147, R172). -/

namespace Sys2Proof.Machine

/-! ## The figures of the status replies (R132, R146, R172) -/

/-- Of the slots only a COMPLETE one waits for a link (R144, R146). -/
theorem State.pendingCount_eq (s : State) (l : Link) : s.pendingCount l =
    ((List.finRange 16).filter fun k => match s.reports[k] with
      | .complete _ w => has w l.number
      | _ => false).length := by
  unfold State.pendingCount
  refine congrArg List.length (List.filter_congr fun k _ => ?_)
  cases s.reports[k] with
  | empty | building r => exact has_zero _
  | complete r w => rfl

/-- Half of a heat limit, in the unit of the heat accounts (R125, R132). -/
theorem State.heatRow_eq (s : State) (i : Fin 6) : s.heatRow i =
    let half := (s.sup.lanes[currentLane i]).settings.heatLimit * 10000000000
    { account := s.sup.heat[i], half := half, above := decide (half < s.sup.heat[i]) } := by
  simp only [State.heatRow, State.hot, SupSettings.halfLimit_eq]

/-- The next expiry is a missed mark in ACQUIRING and LOCKED, and the end of the hold-over in HOLDOVER (R168, R172). -/
theorem TestClock.nextExpiry_eq (c : TestClock) : c.nextExpiry =
    match c.reference, c.quality with
    | some r, .acquiring => some (later r 1000101)
    | some r, .locked => some (later r 1000101)
    | some r, .holdover => some (later r 10000000)
    | _, _ => none := by
  unfold TestClock.nextExpiry
  cases c.reference <;> cases c.quality <;> rfl

/-- Settles O52: the three replies carry the items as they stand, and the figures derived from them are those of R132, R146 and R172. -/
theorem statusRequestsChangeNothing : Obligations.StatusRequestsChangeNothing := by
  intro l tag s
  refine ⟨⟨s.pendingCount l, rfl, ?_⟩, ?_, ?_⟩
  · exact s.pendingCount_eq l
  · simp only [← State.heatRow_eq]
    rfl
  · have hexec : exec (.timeStatus l tag) s = .next (s.setReply l (okReply .timeStatus tag
        (.timeStatus s.now s.clock.anchor s.engine.holdsGrid s.clock.discipline s.clock.quality s.clock.count s.clock.reference
          s.clock.deviation s.clock.nextExpiry))) := rfl
    rw [hexec, TestClock.nextExpiry_eq]
    rfl

/-! ## The override latch and the INHIBIT line (R127 to R131) -/

/-- The override latch after an action SET, CLEAR or TOGGLE (R130). -/
theorem overrideAfter_eq (action : Byte) (was : Bool) : overrideAfter action.toNat was =
    if 2 < action.toNat then none else some (if action = 0 then true else if action = 1 then false else !was) := by
  have hset : action = 0 ↔ action.toNat = 0 := by bv_omega
  have hclear : action = 1 ↔ action.toNat = 1 := by bv_omega
  rw [if_congr hset rfl (if_congr hclear rfl rfl)]
  generalize action.toNat = n
  match n with
  | 0 | 1 | 2 => rfl
  | n + 3 => simp [overrideAfter]

/-- The override set: a moment for a grant where it was clear under INHIBIT (R31, R130). -/
theorem State.setOverrideLatch_eq (s : State) : s.setOverrideLatch =
    if s.sup.inhibit = true ∧ s.sup.override = false then
      ({ s with sup := { s.sup with override := true } } : State).grantMoment
    else { s with sup := { s.sup with override := true } } := by
  unfold State.setOverrideLatch
  cases s.sup.inhibit <;> cases s.sup.override <;> rfl

/-- SET_OVERRIDE by the code of its action (R130). -/
theorem setOverride_eq {l : Link} {action : Byte} {s : State} (hl : l = .supervision) : setOverride l action s =
    if 2 < action.toNat then .error (badRequest 0)
    else
      let latch : Bool := if action = 0 then true else if action = 1 then false else !s.sup.override
      .ok (if latch then s.setOverrideLatch else s.clearOverride, .override s.sup.override latch s.sup.inhibit) := by
  rw [setOverride, if_neg (not_not.2 hl), overrideAfter_eq]
  by_cases hcode : 2 < action.toNat
  · rw [if_pos hcode, if_pos hcode]
  · rw [if_neg hcode, if_neg hcode]
    dsimp only
    generalize (if action = 0 then true else if action = 1 then false else !s.sup.override) = latch
    cases latch <;> rfl

/-- The latch set or cleared: what follows depends on whether it changes under INHIBIT (R130). -/
theorem State.latched_eq (s : State) (latch : Bool) :
    let base : State := { s with sup := { s.sup with override := latch } }
    (if latch then s.setOverrideLatch else s.clearOverride) =
      if s.sup.inhibit = true ∧ s.sup.override = false ∧ latch = true then base.grantMoment
      else if s.sup.inhibit = true ∧ s.sup.override = true ∧ latch = false then base.requestEnd .inhibited
      else base := by
  cases latch with
  | true => simp [State.setOverrideLatch_eq]
  | false => simp [State.clearOverride_eq, and_comm]

theorem State.judgeInhibit_of_edge {s : State} (hi : s.sup.inhibit = true) (ho : s.sup.override = false) :
    s.judgeInhibit = s.requestEnd .inhibited := by
  simp [State.judgeInhibit, hi, ho]

/-- Settles O54: the action's code gives the latch, a change of the latch under INHIBIT is a moment for a grant or a judgement, an edge of
INHIBIT changes the held level, and the frame's values are kept. -/
theorem overrideInhibitAndReadback : Obligations.OverrideInhibitAndReadback := by
  refine ⟨fun l tag action s => ?_, fun s => ⟨fun h => ?_, fun h => ?_, fun h => ?_, fun h => ?_⟩,
    fun f s => ⟨frameValues f, fun i => ?_, rfl⟩⟩
  · dsimp only
    have hexec : exec (.setOverride l tag action) s = .next (respond l .setOverride tag s (setOverride l action s)) := rfl
    rw [hexec]
    by_cases hl : l = .supervision
    · rw [if_neg (not_not.2 hl), setOverride_eq hl]
      by_cases hcode : 2 < action.toNat
      · rw [if_pos hcode, if_pos hcode]
        rfl
      · rw [if_neg hcode, if_neg hcode]
        dsimp only
        rw [State.latched_eq]
        rfl
    · rw [if_pos hl, setOverride, if_pos hl]
      rfl
  · exact congrArg _ ((if_neg (by simp [h])).trans (State.judgeInhibit_of_edge rfl rfl))
  · exact congrArg _ (if_pos h)
  · exact congrArg _ (if_pos h)
  · exact congrArg _ (if_neg (by simp [h]))
  · simp [frameValues]

end Sys2Proof.Machine
end

section
/-! SUPPORT. The report slots and the capture halves bound to their shots and reports (R134, R144, R153). The three properties read the
granted shot, the rows that REPORT_STATUS shows of the slots and the states of the halves. A grant, a teardown and a link that leaves
pending sets each change these in one way that keeps the properties; every other operation leaves them as they were. -/

namespace Sys2Proof.Machine

/-! ## The bonds of a state -/

/-- The granted shot, the rows of the report slots (R147) and the states of the capture halves (R153). -/
@[ext] structure Bonds where
  shot : Option Shot
  row : Fin 16 → SlotRow
  half : HalfId → HalfState

/-- The bonds of the slots and the halves of a state. -/
def State.bonds (s : State) : Bonds :=
  { shot := s.engine.shot?, row := fun k => (s.reports[k]).row, half := fun h => (s.captures.get h).state }

/-- A slot is BUILDING exactly for the granted shot, a COMPLETE one waits for a link, and a half is FILLING exactly for the granted shot
and HELD for a COMPLETE report with its serial (R134, R144, R153). -/
structure Bonds.Sound (b : Bonds) : Prop where
  building : ∀ k n m l, b.row k = .building n m l → ∃ sh, b.shot = some sh ∧ sh.slot = k ∧ n = sh.serial ∧ m = sh.req.ticket
  granted : ∀ sh, b.shot = some sh → ∃ n m l, b.row sh.slot = .building n m l
  waits : ∀ k n m l c, b.row k = .complete n m l c → c.waiting ≠ 0
  filling : ∀ h, b.half h = .filling ↔ ∃ sh, b.shot = some sh ∧ sh.half = some h
  held : ∀ h k n, b.half h = .held k n → ∃ m l c, b.row k = .complete n m l c

theorem Slot.row_eq_empty {x : Slot} : x.row = .empty ↔ x = .empty := by cases x <;> simp [Slot.row]

theorem Slot.row_eq_building {x : Slot} {n m : Nat} {l : Link} : x.row = .building n m l ↔
    ∃ r, x = .building r ∧ r.header.serial = n ∧ r.header.ticket = m ∧ r.header.link = l := by
  cases x <;> simp [Slot.row]

theorem Slot.row_eq_complete {x : Slot} {n m : Nat} {l : Link} {c : CompleteRow} (h : x.row = .complete n m l c) :
    ∃ r, x = .complete r c.waiting ∧ r.header.serial = n := by
  cases x with
  | empty | building r => cases h
  | complete r w => cases h; exact ⟨r, rfl, rfl⟩

theorem Slot.row_complete (r : Report) (w : LinkSet) :
    ∃ m l c, (Slot.complete r w).row = .complete r.header.serial m l c ∧ c.waiting = w := ⟨_, _, _, rfl, rfl⟩

/-- The properties of a state are those of its bonds. -/
theorem State.bonds_sound_iff {s : State} : s.bonds.Sound ↔ s.SlotsBound ∧ s.CompletesWait ∧ s.HalvesBound := by
  constructor
  · rintro ⟨hbuilding, hgranted, hwaits, hfilling, hheld⟩
    refine ⟨⟨fun k r hk => ?_, fun sh hs => ?_⟩, fun k r w hk => ?_, hfilling, fun h k n hh => ?_⟩
    · exact hbuilding k _ _ _ (Slot.row_eq_building.2 ⟨r, hk, rfl, rfl, rfl⟩)
    · obtain ⟨n, m, l, hrow⟩ := hgranted sh hs
      obtain ⟨r, hr, -⟩ := Slot.row_eq_building.1 hrow
      exact ⟨r, hr⟩
    · obtain ⟨m, l, c, hrow, rfl⟩ := Slot.row_complete r w
      exact hwaits k _ m l c (by rw [← hrow, ← hk]; rfl)
    · obtain ⟨m, l, c, hrow⟩ := hheld h k n hh
      obtain ⟨r, hr, hn⟩ := Slot.row_eq_complete hrow
      exact ⟨r, _, hr, hn⟩
  · rintro ⟨⟨hbuilding, hgranted⟩, hwaits, hfilling, hheld⟩
    refine ⟨fun k n m l hrow => ?_, fun sh hs => ?_, fun k n m l c hrow => ?_, hfilling, fun h k n hh => ?_⟩
    · obtain ⟨r, hr, rfl, rfl, -⟩ := Slot.row_eq_building.1 hrow
      exact hbuilding k r hr
    · obtain ⟨r, hr⟩ := hgranted sh hs
      exact ⟨_, _, _, Slot.row_eq_building.2 ⟨r, hr, rfl, rfl, rfl⟩⟩
    · obtain ⟨r, hr, -⟩ := Slot.row_eq_complete hrow
      exact hwaits k r _ hr
    · obtain ⟨r, w, hr, rfl⟩ := hheld h k n hh
      obtain ⟨m, l, c, hrow, -⟩ := Slot.row_complete r w
      exact ⟨m, l, c, by rw [← hrow, ← hr]; rfl⟩

/-! ## The three ways in which bonds change -/

section
variable {b : Bonds} {sh : Shot} {row : SlotRow} {state : HalfState}

/-- The bonds with the granted shot `shot`, after the slot of `sh` has taken a row and its half, where it has one, a state. -/
def Bonds.write (b : Bonds) (shot : Option Shot) (sh : Shot) (row : SlotRow) (state : HalfState) : Bonds :=
  { shot := shot, row := fun k => if k = sh.slot then row else b.row k,
    half := fun h => if sh.half = some h then state else b.half h }

theorem Bonds.write_row (b : Bonds) (shot : Option Shot) (sh : Shot) (row : SlotRow) (state : HalfState) (k : Fin 16) :
    k = sh.slot ∧ (b.write shot sh row state).row k = row ∨
      k ≠ sh.slot ∧ (b.write shot sh row state).row k = b.row k := by
  by_cases hk : k = sh.slot
  · exact .inl ⟨hk, if_pos hk⟩
  · exact .inr ⟨hk, if_neg hk⟩

theorem Bonds.write_half (b : Bonds) (shot : Option Shot) (sh : Shot) (row : SlotRow) (state : HalfState) (h : HalfId) :
    sh.half = some h ∧ (b.write shot sh row state).half h = state ∨
      sh.half ≠ some h ∧ (b.write shot sh row state).half h = b.half h := by
  by_cases hh : sh.half = some h
  · exact .inl ⟨hh, if_pos hh⟩
  · exact .inr ⟨hh, if_neg hh⟩

/-- A slot that is not COMPLETE holds no half. -/
theorem Bonds.Sound.slot_ne (hb : b.Sound) {h : HalfId} {k j : Fin 16} {n : Nat} (hh : b.half h = .held k n)
    (hj : ∀ n m l c, b.row j ≠ .complete n m l c) : k ≠ j := fun hk => by
  obtain ⟨m, l, c, hrow⟩ := hb.held h k n hh
  exact hj _ _ _ _ (hk ▸ hrow)

/-- With the engine IDLE no half is FILLING, so after a grant into an EMPTY slot only the half it takes is (R33, R134, R154). -/
theorem Bonds.Sound.grant (hb : b.Sound) (hidle : b.shot = none) (hempty : b.row sh.slot = .empty) :
    (b.write (some sh) sh (.building sh.serial sh.req.ticket sh.req.link) .filling).Sound where
  building k n m l hrow := by
    obtain ⟨rfl, hr⟩ | ⟨-, hr⟩ := b.write_row (some sh) sh (.building sh.serial sh.req.ticket sh.req.link) .filling k
    · cases hr.symm.trans hrow
      exact ⟨sh, rfl, rfl, rfl, rfl⟩
    · obtain ⟨x, hx, -⟩ := hb.building k n m l (hr.symm.trans hrow)
      cases hidle.symm.trans hx
  granted x hx := by
    cases hx
    exact ⟨_, _, _, if_pos rfl⟩
  waits k n m l c hrow := by
    obtain ⟨-, hr⟩ | ⟨-, hr⟩ := b.write_row (some sh) sh (.building sh.serial sh.req.ticket sh.req.link) .filling k
    · cases hr.symm.trans hrow
    · exact hb.waits k n m l c (hr.symm.trans hrow)
  filling h := by
    obtain ⟨hh, hs⟩ | ⟨hh, hs⟩ := b.write_half (some sh) sh (.building sh.serial sh.req.ticket sh.req.link) .filling h
    · exact iff_of_true hs ⟨sh, rfl, hh⟩
    · refine iff_of_false (fun hf => ?_) fun ⟨x, hx, hxh⟩ => by cases hx; exact hh hxh
      obtain ⟨x, hx, -⟩ := (hb.filling h).1 (hs.symm.trans hf)
      cases hidle.symm.trans hx
  held h k n hheld := by
    obtain ⟨-, hs⟩ | ⟨-, hs⟩ := b.write_half (some sh) sh (.building sh.serial sh.req.ticket sh.req.link) .filling h
    · cases hs.symm.trans hheld
    · have hwas := hs.symm.trans hheld
      obtain ⟨m, l, c, hrow⟩ := hb.held h k n hwas
      exact ⟨m, l, c, (if_neg (hb.slot_ne hwas (by simp [hempty]))).trans hrow⟩

/-- A teardown hands slot and half on together: EMPTY and FREE, or COMPLETE for a link and HELD with the shot's serial (R64, R141,
R160). -/
theorem Bonds.Sound.handOn (hb : b.Sound) (hshot : b.shot = some sh)
    (h : row = .empty ∧ state = .free ∨
      ∃ m l c, row = .complete sh.serial m l c ∧ c.waiting ≠ 0 ∧ state = .held sh.slot sh.serial) :
    (b.write none sh row state).Sound where
  building k n m l hrow := by
    obtain ⟨-, hr⟩ | ⟨hk, hr⟩ := b.write_row none sh row state k
    · obtain ⟨he, -⟩ | ⟨_, _, _, he, -⟩ := h <;> cases he.symm.trans (hr.symm.trans hrow)
    · obtain ⟨x, hx, hslot, -⟩ := hb.building k n m l (hr.symm.trans hrow)
      cases hshot.symm.trans hx
      exact absurd hslot.symm hk
  granted x hx := by cases hx
  waits k n m l c hrow := by
    obtain ⟨-, hr⟩ | ⟨-, hr⟩ := b.write_row none sh row state k
    · obtain ⟨he, -⟩ | ⟨_, _, _, he, hwaits, -⟩ := h <;> cases he.symm.trans (hr.symm.trans hrow)
      exact hwaits
    · exact hb.waits k n m l c (hr.symm.trans hrow)
  filling x := by
    refine iff_of_false (fun hf => ?_) fun ⟨y, hy, _⟩ => by cases hy
    obtain ⟨-, hs⟩ | ⟨hx, hs⟩ := b.write_half none sh row state x
    · obtain ⟨-, he⟩ | ⟨_, _, _, -, -, he⟩ := h <;> cases he.symm.trans (hs.symm.trans hf)
    · obtain ⟨y, hy, hhalf⟩ := (hb.filling x).1 (hs.symm.trans hf)
      cases hshot.symm.trans hy
      exact hx hhalf
  held x k n hheld := by
    obtain ⟨-, hs⟩ | ⟨-, hs⟩ := b.write_half none sh row state x
    · obtain ⟨-, he⟩ | ⟨m, l, c, hc, -, he⟩ := h <;> cases he.symm.trans (hs.symm.trans hheld)
      exact ⟨m, l, c, (if_pos rfl).trans hc⟩
    · have hwas := hs.symm.trans hheld
      obtain ⟨m, l, c, hrow⟩ := hb.held x k n hwas
      obtain ⟨_, _, _, hbuilding⟩ := hb.granted sh hshot
      exact ⟨m, l, c, (if_neg (hb.slot_ne hwas (by simp [hbuilding]))).trans hrow⟩

/-- A row that is as it was, or that of a COMPLETE slot for which fewer links wait, EMPTY where none does (R149, R150). -/
def SlotRow.Shrinks (x y : SlotRow) : Prop :=
  y = x ∨ ∃ n m l c, x = .complete n m l c ∧ (y = .empty ∨ ∃ d, y = .complete n m l d ∧ d.waiting ≠ 0)

/-- A half that is as it was, or that was HELD for a report and is FREE (R150). -/
def HalfState.LetsGo (x y : HalfState) : Prop := y = x ∨ (∃ k n, x = .held k n) ∧ y = .free

/-- Links leave pending sets, and no half is left HELD for a slot that they empty (R149, R150). -/
theorem Bonds.Sound.leave {c : Bonds} (hb : b.Sound) (hshot : c.shot = b.shot)
    (hrow : ∀ k, (b.row k).Shrinks (c.row k)) (hhalf : ∀ h, (b.half h).LetsGo (c.half h))
    (hfreed : ∀ h k n m l d, b.row k = .complete n m l d → c.row k = .empty → c.half h ≠ .held k n) : c.Sound where
  building k n m l hk := by
    rw [hshot]
    obtain he | ⟨_, _, _, _, -, he | ⟨_, he, -⟩⟩ := hrow k
    · exact hb.building k n m l (he.symm.trans hk)
    · cases he.symm.trans hk
    · cases he.symm.trans hk
  granted sh hs := by
    obtain ⟨n, m, l, hbuilding⟩ := hb.granted sh (hshot.symm.trans hs)
    obtain he | ⟨_, _, _, _, hcomplete, -⟩ := hrow sh.slot
    · exact ⟨n, m, l, he.trans hbuilding⟩
    · cases hbuilding.symm.trans hcomplete
  waits k n m l d hk := by
    obtain he | ⟨_, _, _, _, -, he | ⟨_, he, hwaits⟩⟩ := hrow k
    · exact hb.waits k n m l d (he.symm.trans hk)
    · cases he.symm.trans hk
    · cases he.symm.trans hk
      exact hwaits
  filling h := by
    rw [hshot, ← hb.filling h]
    obtain he | ⟨⟨_, _, hheld⟩, he⟩ := hhalf h
    · rw [he]
    · rw [he, hheld]
      exact iff_of_false nofun nofun
  held h k n hh := by
    obtain he | ⟨-, he⟩ := hhalf h
    · obtain ⟨m, l, d, hcomplete⟩ := hb.held h k n (he.symm.trans hh)
      obtain hk | ⟨_, _, _, _, hc, hk | ⟨d', hk, -⟩⟩ := hrow k
      · exact ⟨m, l, d, hk.trans hcomplete⟩
      · exact absurd hh (hfreed h k n m l d hcomplete hk)
      · cases hc.symm.trans hcomplete
        exact ⟨m, l, d', hk⟩
    · cases he.symm.trans hh

end
end Sys2Proof.Machine
end

section
/-! SUPPORT. What the operations of the part do to the report slots and the capture halves: a grant binds them, a teardown hands them on, a
link's leaving lets them go, and every other operation keeps the bonds as they were (R33, R64, R134, R141, R149, R150, R153, R160). -/

namespace Sys2Proof.Machine

/-- The slots and the halves are bound in `t` when they are in `s`. -/
def State.Binds (s t : State) : Prop := s.bonds.Sound → t.bonds.Sound

section
variable {s t u : State}

theorem State.Binds.refl : s.Binds s := id

theorem State.Binds.trans (h : s.Binds t) (g : t.Binds u) : s.Binds u := fun hs => g (h hs)

theorem State.Binds.of_same (h : t.bonds = s.bonds) : s.Binds t := fun hs => by rwa [h]

theorem State.Binds.ite {c : Prop} [Decidable c] (h : s.Binds t) (g : s.Binds u) : s.Binds (if c then t else u) := by
  split
  · exact h
  · exact g

theorem State.bonds_of_eq (hshot : t.engine.shot? = s.engine.shot?) (hreports : t.reports = s.reports)
    (hcaptures : t.captures = s.captures) : t.bonds = s.bonds := by
  rw [State.bonds, State.bonds, hshot, hreports, hcaptures]

/-- An operation that leaves the granted shot, the reports and the halves. -/
theorem State.Binds.of_eq (hshot : t.engine.shot? = s.engine.shot? := by simp) (hreports : t.reports = s.reports := by simp)
    (hcaptures : t.captures = s.captures := by simp) : s.Binds t := .of_same (State.bonds_of_eq hshot hreports hcaptures)

end

/-! ## Changes within a report and within a half -/

/-- What tells a BUILDING report from another: its serial, its ticket and its link (R147). -/
def Report.name (r : Report) : Nat × Nat × Link := (r.header.serial, r.header.ticket, r.header.link)

theorem Slot.row_of_name {r r' : Report} (h : r'.name = r.name) : (Slot.building r').row = (Slot.building r).row := by
  simp only [Report.name, Prod.mk.injEq] at h
  obtain ⟨hserial, hticket, hlink⟩ := h
  simp only [Slot.row, hserial, hticket, hlink]

/-- A report changed under its name. -/
theorem State.onReport_bonds (s : State) (k : Fin 16) {f : Report → Report} (hf : ∀ r, (f r).name = r.name) :
    (s.onReport k f).bonds = s.bonds := by
  have hrow : ∀ j : Fin 16, ((s.onReport k f).reports[j]).row = (s.reports[j]).row := fun j => by
    rw [State.onReport_get]
    split
    · rename_i hj
      subst hj
      cases s.reports[j] with
      | empty | complete r w => rfl
      | building r => exact Slot.row_of_name (hf r)
    · rfl
  exact Bonds.ext (by simp [State.bonds]) (funext hrow) (by simp [State.bonds])

/-- A half changed within its state. -/
theorem State.onHalf_bonds (s : State) (h : Option HalfId) {f : Half → Half} (hf : ∀ x, (f x).state = x.state) :
    (s.onHalf h f).bonds = s.bonds := by
  have hhalf : ∀ k, ((s.onHalf h f).captures.get k).state = (s.captures.get k).state := fun k => by
    rw [State.onHalf_get]
    split
    · exact hf _
    · rfl
  exact Bonds.ext (by simp [State.bonds]) (by simp [State.bonds]) (funext hhalf)

theorem Report.closeVisit_name (r : Report) (n : Nat) (as : Fin 64 → List Assessment) : (r.closeVisit n as).name = r.name := by
  cases h : r.visit? n with
  | none => rw [Report.closeVisit, h]
  | some v => rw [Report.closeVisit_eq as h]; rfl

theorem Report.complete_name (r : Report) (untriggered : Bool) (ref : Option CaptureRef) :
    (r.complete untriggered ref).name = r.name := by
  rw [Report.complete_eq]
  cases r.header.mode <;> rfl

theorem Report.record_name (r : Report) (start now : Clock) (i : Fin 16) (d : Direction) (event : Clock) :
    (r.record start now i d event).name = r.name := by
  rw [Report.record_eq, Report.joinTimeline]
  split <;> rfl

theorem State.finalReport_name (s : State) (sh : Shot) (rep : Report) : (s.finalReport sh rep).name = rep.name := by
  refine (Report.complete_name _ _ _).trans ?_
  exact List.foldlRecOn (motive := fun r : Report => r.name = rep.name) _ _ rfl fun r hr n _ => (r.closeVisit_name n _).trans hr

theorem Report.onVisit_name (r : Report) (n : Nat) (f : Visit → Visit) : (r.onVisit n f).name = r.name := rfl

theorem Half.begin_state (x : Half) : x.begin.state = x.state := rfl

theorem Half.stop_state (x : Half) : x.stop.state = x.state := by
  unfold Half.stop
  split <;> rfl

theorem Half.noteTrigger_state (x : Half) (n : Nat) : (x.noteTrigger n).state = x.state := by
  unfold Half.noteTrigger
  split <;> rfl

theorem Half.write_state (x : Half) (r : Sample) : (x.write r).state = x.state := by
  unfold Half.write
  repeat' split
  all_goals rfl

/-! ## Grants and ends (R33, R58 to R64, R141, R154, R160) -/

section
variable {s : State} {sh : Shot}

theorem State.grantInto_bonds (s : State) (r : Request) (k : Fin 16) : (s.grantInto r k).bonds =
    s.bonds.write (some (s.shotOf r k)) (s.shotOf r k)
      (.building (s.shotOf r k).serial (s.shotOf r k).req.ticket (s.shotOf r k).req.link) .filling := by
  have hrow : ∀ j : Fin 16, ((s.grantInto r k).reports[j]).row =
      if j = k then .building (s.shotOf r k).serial r.ticket r.link else (s.reports[j]).row := fun j => by
    rw [State.grantInto_reports]
    by_cases hj : j = k
    · subst hj
      simp [Slot.row, State.reportOf, State.shotOf, Header.granted]
    · simp [Vector.getElem_set_ne, Fin.val_inj, hj, Ne.symm hj]
  have hhalf : ∀ h, ((s.grantInto r k).captures.get h).state =
      if s.halfFor r = some h then .filling else (s.captures.get h).state := fun h => by
    rw [State.grantInto_half]
    split <;> rfl
  exact Bonds.ext (by rw [State.bonds, State.grantInto_armed]; rfl) (funext hrow) (funext hhalf)

theorem State.grantInto_bound {r : Request} {k : Fin 16} (hs : s.bonds.Sound) (hc : s.choice = some r)
    (hk : s.emptySlot = some k) : (s.grantInto r k).bonds.Sound := by
  have hidle : s.bonds.shot = none := by simp [State.bonds, State.eligible_idle (State.choice_mem hc).2]
  have hempty : s.bonds.row k = .empty := by
    have h : s.reports[k] = .empty := by simpa using (lowest_eq_some.1 hk).1
    show (s.reports[k]).row = _
    rw [h]
    rfl
  rw [State.grantInto_bonds]
  exact hs.grant hidle hempty

/-- What the teardown hands on: the slot with its completed report, and the half beside it (R64, R141, R160). -/
theorem State.tearDown_bonds {rep : Report} (h : s.reports[sh.slot] = .building rep) : (s.tearDown sh).bonds =
    s.bonds.write none sh (handedSlot s.subscribers (s.finalReport sh rep)).row
      (if s.subscribers = 0 then .free else .held sh.slot sh.serial) := by
  obtain ⟨hreports, hcaptures⟩ := State.tearDown_handsOn h
  have hrow : ∀ j : Fin 16, ((s.tearDown sh).reports[j]).row =
      if j = sh.slot then (handedSlot s.subscribers (s.finalReport sh rep)).row else (s.reports[j]).row := fun j => by
    rw [hreports]
    by_cases hj : j = sh.slot
    · subst hj
      simp
    · simp [Vector.getElem_set_ne, Fin.val_inj, hj, Ne.symm hj]
  have hhalf : ∀ x, ((s.tearDown sh).captures.get x).state =
      if sh.half = some x then (if s.subscribers = 0 then .free else .held sh.slot sh.serial)
      else (s.captures.get x).state := fun x => by
    rw [hcaptures, State.onHalf_get, apply_ite Half.state, handedHalf, apply_ite Half.state]
    rfl
  exact Bonds.ext rfl (funext hrow) (funext hhalf)

theorem State.tearDown_binds (h : s.engine.shot? = some sh) : s.Binds (s.tearDown sh) := fun hs => by
  obtain ⟨n, m, l, hrow⟩ := hs.granted sh h
  obtain ⟨rep, hrep, -⟩ := Slot.row_eq_building.1 hrow
  obtain ⟨x, hx, -, hserial, -⟩ := hs.building sh.slot _ _ _ (Slot.row_eq_building.2 ⟨rep, hrep, rfl, rfl, rfl⟩)
  cases h.symm.trans hx
  have hname : (s.finalReport sh rep).header.serial = sh.serial :=
    (congrArg Prod.fst (s.finalReport_name sh rep)).trans hserial
  rw [State.tearDown_bonds hrep]
  refine hs.handOn h ?_
  by_cases hw : s.subscribers = 0
  · exact .inl ⟨by rw [handedSlot, if_pos hw]; rfl, if_pos hw⟩
  · obtain ⟨m, l, c, hrow, hc⟩ := Slot.row_complete (s.finalReport sh rep) s.subscribers
    exact .inr ⟨m, l, c, by rw [handedSlot, if_neg hw, hrow, hname], by rwa [hc], if_neg hw⟩

theorem State.settle_binds (h : s.engine.shot? = some sh) (start : Option Clock) : s.Binds (s.settle sh start) := by
  have hsettling : s.Binds { s with engine := .settling sh start s.now } := .of_eq (by simp [h])
  unfold State.settle
  exact .ite (hsettling.trans (State.tearDown_binds rfl)) hsettling

theorem State.writeEnd_bonds (s : State) (sh : Shot) (r : EndReason) : (s.writeEnd sh r).bonds = s.bonds :=
  s.onReport_bonds _ fun _ => rfl

/-- The half stopped and the end written, on the way into SETTLING (R59, R60). -/
theorem State.endShot_binds (h : s.engine.shot? = some sh) (r : EndReason) (start : Option Clock) :
    s.Binds (((s.onHalf sh.half Half.stop).writeEnd sh r).settle sh start) :=
  ((State.Binds.of_same (s.onHalf_bonds _ Half.stop_state)).trans (.of_same (State.writeEnd_bonds _ sh r))).trans
    (State.settle_binds (by simpa using h) start)

theorem State.endArmed_binds (h : s.engine.shot? = some sh) (r : EndReason) : s.Binds (s.endArmed sh r) :=
  State.endShot_binds h r none

theorem State.flushInto_bonds (s : State) (sh : Shot) (run : Run) : (s.flushInto sh run).bonds = s.bonds :=
  s.onReport_bonds _ fun _ => rfl

theorem State.leaveVisit_bonds (s : State) (sh : Shot) (run : Run) (cause : ExitCause) (n : Nat) :
    (s.leaveVisit sh run cause n).bonds = s.bonds := s.onReport_bonds _ fun _ => rfl

theorem State.endRunning_binds (h : s.engine.shot? = some sh) (run : Run) (r : EndReason) (cause : ExitCause) :
    s.Binds (s.endRunning sh run r cause) := by
  have hleft : s.Binds ((s.flushInto sh run).leaveVisit sh run cause (s.deferralAtEnd run)) :=
    (State.Binds.of_same (s.flushInto_bonds sh run)).trans (.of_same (State.leaveVisit_bonds _ sh run cause _))
  have hstopped : ∀ (u : State) (bs : Vector Simulator 4) (x : Synth), u.Binds { u with breakers := bs, synth := x } :=
    fun u bs x => .of_eq
  exact (hleft.trans (hstopped _ _ _)).trans (State.endShot_binds (by simpa using h) r _)

theorem State.grantMoment_binds (s : State) : s.Binds s.grantMoment := fun hs =>
  State.grantMoment_induct hs (fun _ _ _ ht hc hk => State.grantInto_bound ht hc hk)
    fun _ _ _ ht he => State.endArmed_binds (by simp [he]) _ ht

theorem State.requestEnd_binds (s : State) (r : EndReason) : s.Binds (s.requestEnd r) := by
  cases h : s.engine with
  | idle => rw [State.requestEnd_of_idle r h]; exact .refl
  | settling sh a b => rw [State.requestEnd_of_settling r h]; exact .refl
  | armed sh latch =>
    rw [State.requestEnd_of_armed r h]
    exact (State.endArmed_binds (by simp [h]) r).trans (State.grantMoment_binds _)
  | running sh run => rw [State.requestEnd_of_running r h]; exact .of_eq (by simp [h])

theorem State.judgeInhibit_binds (s : State) : s.Binds s.judgeInhibit := by
  unfold State.judgeInhibit
  exact .ite (s.requestEnd_binds _) .refl

theorem State.setQuality_binds (s : State) (q : Quality) : s.Binds (s.setQuality q) := by
  have hraised : s.Binds ((({ s with clock := { s.clock with quality := q } } : State).raiseTimeQuality .plan).raiseTimeQuality
      .panel) := .of_eq
  unfold State.setQuality State.qualityChanged
  dsimp only
  repeat' split
  · exact .of_eq
  · exact hraised.trans (State.requestEnd_binds _ _)
  · exact hraised
  · exact hraised

end

/-! ## Moves and accepted events (R91, R102 to R106) -/

section
variable (s : State)

@[simp] theorem State.writeElem_bonds (k : Fin 4) (c : BreakerChange) : (s.writeElem k c).bonds = s.bonds := by
  unfold State.writeElem
  split
  · rename_i he
    split
    · exact State.bonds_of_eq (by simp [he]) rfl rfl
    · exact s.onReport_bonds _ fun _ => rfl
  · rfl

@[simp] theorem State.setBreaker_bonds (k : Fin 4) (b : Simulator) : (s.setBreaker k b).bonds = s.bonds := rfl

@[simp] theorem State.cutRequests_bonds (k : Fin 4) : (s.cutRequests k).bonds = s.bonds := rfl

@[simp] theorem State.reenergiseRequests_bonds (k : Fin 4) : (s.reenergiseRequests k).bonds = s.bonds := rfl

@[simp] theorem State.beginOpening_bonds (k : Fin 4) (c : Clock) : (s.beginOpening k c).bonds = s.bonds :=
  State.writeElem_bonds _ k _

@[simp] theorem State.beginClosing_bonds (k : Fin 4) (c : Clock) : (s.beginClosing k c).bonds = s.bonds :=
  State.writeElem_bonds _ k _

@[simp] theorem State.takeOpen_bonds (k : Fin 4) : (s.takeOpen k).bonds = s.bonds := by
  unfold State.takeOpen
  dsimp only
  split <;> simp

@[simp] theorem State.takeClosed_bonds (k : Fin 4) : (s.takeClosed k).bonds = s.bonds := by
  unfold State.takeClosed
  dsimp only
  split <;> simp

@[simp] theorem State.completeMove_bonds (k : Fin 4) : (s.completeMove k).bonds = s.bonds := by
  unfold State.completeMove
  repeat' split
  all_goals simp [State.reachOpen, State.reachClosed]

@[simp] theorem State.completeMoves_bonds : s.completeMoves.bonds = s.bonds :=
  foldl_keeps State.bonds _ (fun t k => by simp [State.completeBoth]) _ s

@[simp] theorem State.breakerEvent_bonds (run : Run) (i : Fin 16) (d : Direction) (c : Clock) (k : Fin 4) :
    (s.breakerEvent run i d c k).bonds = s.bonds := by
  unfold State.breakerEvent State.trip State.close
  dsimp only
  repeat' split
  all_goals simp

theorem State.informBreakers_bonds (i : Fin 16) (d : Direction) (c : Clock) : (s.informBreakers i d c).bonds = s.bonds := by
  unfold State.informBreakers
  split
  · exact keeps_three State.bonds (fun t k => by simp) (fun t k => by split <;> simp) (fun t k => by split <;> simp) _ s
  · rfl

theorem State.informCapture_bonds (i : Fin 16) (d : Direction) : (s.informCapture i d).bonds = s.bonds := by
  unfold State.informCapture
  split
  · refine s.onHalf_bonds _ fun x => ?_
    split
    · exact x.noteTrigger_state _
    · rfl
  · rfl

theorem State.recordEvent_bonds (i : Fin 16) (d : Direction) (c : Clock) : (s.recordEvent i d c).bonds = s.bonds := by
  unfold State.recordEvent
  repeat' split
  · exact s.onReport_bonds _ fun r => r.record_name _ _ _ _ _
  · rfl
  · exact s.onReport_bonds _ fun r => r.record_name _ _ _ _ _
  · rfl
  · rfl

theorem State.fileEvent_bonds (i : Fin 16) (d : Direction) (c : Clock) : (s.fileEvent i d c).bonds = s.bonds := by
  unfold State.fileEvent
  split
  · rfl
  · exact s.recordEvent_bonds i d c

theorem State.handOver_bonds (i : Fin 16) (d : Direction) (c : Clock) : (s.handOver i d c).bonds = s.bonds :=
  calc (s.handOver i d c).bonds
      = (((s.latchEdges i d c).informBreakers i d c).informCapture i d).bonds := State.fileEvent_bonds _ i d c
    _ = ((s.latchEdges i d c).informBreakers i d c).bonds := State.informCapture_bonds _ i d
    _ = (s.latchEdges i d c).bonds := State.informBreakers_bonds _ i d c
    _ = s.bonds := State.bonds_of_eq (by simp) (by simp) (by simp)

theorem State.endEpisode_bonds (i : Fin 16) (e : Episode) : (s.endEpisode i e).bonds = s.bonds := by
  unfold State.endEpisode
  dsimp only
  split
  · rfl
  · exact State.handOver_bonds _ _ _ _

end

/-! ## A tick (R48, R49, R51, R58, R68, R122 to R125, R155) -/

section
variable (s : State)

@[simp] theorem State.openTick_bonds : s.openTick.bonds = s.bonds := by
  unfold State.openTick State.writeCapture
  dsimp only
  repeat' split
  · rfl
  · exact State.onHalf_bonds _ _ fun x => x.write_state _
  · rfl

@[simp] theorem State.prepare_bonds : s.prepare.bonds = s.bonds := by
  unfold State.prepare
  split <;> simp

theorem State.flushElems_bonds : s.flushElems.bonds = s.bonds := by
  unfold State.flushElems
  split
  · rename_i sh run he
    refine Eq.trans ?_ (s.flushInto_bonds sh run)
    exact State.bonds_of_eq (by simp [he]) rfl rfl
  · rfl

theorem State.settleTick_bonds : s.settleTick.bonds = s.bonds :=
  (foldl_keeps State.bonds (fun t (e : Fin 16 × Direction) => t.recordEvent e.1 e.2 t.now)
    (fun t e => t.recordEvent_bonds e.1 e.2 t.now) _ _).trans s.flushElems_bonds

theorem State.openVisit_bonds (sh : Shot) (n : Nat) (i : Fin 64) (entry : Nat) : (s.openVisit sh n i entry).bonds = s.bonds := by
  refine (State.onHalf_bonds _ sh.half fun x => ?_).trans (s.onReport_bonds sh.slot fun _ => rfl)
  split
  · exact x.noteTrigger_state entry
  · rfl

/-- A shot that starts was granted with its slot and its half (R48). -/
theorem State.startShot_bonds {sh : Shot} (h : s.engine.shot? = some sh) : (s.startShot sh).bonds = s.bonds := by
  have hstamped (f : Report → Report) (hf : ∀ r, (f r).name = r.name) :
      ((s.onReport sh.slot f).loadProfile sh).bonds = s.bonds :=
    (State.bonds_of_eq (by simp) (by simp) (by simp)).trans (s.onReport_bonds sh.slot hf)
  have hrunning (u : State) (run : Run) (hu : u.engine.shot? = some sh) :
      ({ u with engine := .running sh run } : State).bonds = u.bonds := State.bonds_of_eq (by simp [hu]) rfl rfl
  have hplaced (u : State) : ((u.setResidues sh none sh.req.start).openVisit sh 0 sh.req.start 0).bonds = u.bonds :=
    (State.openVisit_bonds _ sh 0 _ 0).trans (State.bonds_of_eq (by simp) (by simp) (by simp))
  exact (hplaced _).trans ((hrunning _ _ (by simpa using h)).trans
    ((State.onHalf_bonds _ sh.half Half.begin_state).trans (hstamped _ fun _ => rfl)))

theorem State.enterState_bonds {sh : Shot} (h : s.engine.shot? = some sh) (run : Run) (target : Fin 64) :
    (s.enterState sh run target).bonds = s.bonds :=
  (State.openVisit_bonds _ sh _ target _).trans (State.bonds_of_eq (by simp [h]) (by simp) (by simp))

/-- The engine's act at a tick: the granted shot starts, goes on or ends (R45, R51, R55, R56, R58). -/
theorem State.perform_binds {a : Action} (h : s.Ready a) : s.Binds (s.perform a) := by
  cases a with
  | rest | stay => exact .refl
  | start sh => exact .of_same (s.startShot_bonds h)
  | finish sh run r cause =>
    have hsupervised : s.Binds s.superviseEnd := .of_eq
    have hended := State.endRunning_binds (s := s.superviseEnd) (by simpa [State.Ready] using h) run r cause
    exact (hsupervised.trans hended).trans (State.grantMoment_binds _)
  | enter sh run target cause n =>
    obtain ⟨he, -⟩ := h
    have hentered := (s.leaveVisit sh run cause n).enterState_bonds (sh := sh) (by simp [he]) run target
    exact .of_same (hentered.trans (s.leaveVisit_bonds sh run cause n))
  | defer sh run d =>
    obtain ⟨he, -⟩ := h
    exact .of_eq (by simp [State.perform, he]) rfl rfl

theorem State.engineWork_binds : s.Binds s.engineWork := by
  unfold State.engineWork
  refine .ite ?_ (.ite (.of_same s.completeMoves_bonds) .refl)
  exact (State.Binds.of_same s.prepare_bonds).trans ((s.prepare.perform_binds s.prepare.action_ready).trans
    (.of_same (State.settleTick_bonds _)))

theorem State.compareAll_binds : s.Binds s.compareAll := by
  have hcompared : s.Binds s.compareLanes := .of_eq
  unfold State.compareAll
  split
  · exact hcompared.trans (State.requestEnd_binds _ _)
  · exact hcompared

theorem State.heatAll_binds : s.Binds s.heatAll := by
  have hheated : s.Binds s.heatAccounts := .of_eq
  unfold State.heatAll
  repeat' split
  · exact .refl
  · exact hheated.trans (State.requestEnd_binds _ _)
  · exact hheated

/-- The lanes played at a tick, and the clips that the visit keeps (R68, R78). -/
theorem State.playLanes_bonds (sh : Shot) (run : Run) : (s.playLanes sh run).bonds = s.bonds := by
  have hclipped (u : State) (n : Nat) (f : Visit → Visit) : (u.onReport sh.slot fun r => r.onVisit n f).bonds = u.bonds :=
    u.onReport_bonds _ fun r => r.onVisit_name n f
  have hplayed (u : State) (x : Synth) : ({ u with synth := x } : State).bonds = u.bonds := rfl
  have hdue : (s.reenergiseDue sh run).bonds = s.bonds := State.bonds_of_eq (by simp) (by simp) (by simp)
  unfold State.playLanes
  exact (hclipped _ _ _).trans ((hplayed _ _).trans hdue)

theorem State.synthesise_bonds : s.synthesise.bonds = s.bonds := by
  unfold State.synthesise
  split
  · exact s.playLanes_bonds _ _
  · rfl

theorem State.closeTick_binds : s.Binds s.closeTick := .of_same s.synthesise_bonds

theorem State.runTick_binds : s.Binds s.runTick := by
  unfold State.runTick
  refine .ite ?_ .refl
  exact (((s.engineWork_binds.trans (State.compareAll_binds _)).trans (State.heatAll_binds _)).trans
    (State.closeTick_binds _)).trans (State.grantMoment_binds _)

theorem State.laneEvent_binds {due : State → Shot → Run → Bool} {act : State → Shot → Run → State}
    (h : ∀ (t : State) sh run, (act t sh run).bonds = t.bonds) : s.Binds (s.laneEvent due act) := by
  unfold State.laneEvent
  repeat' split
  · exact s.engineWork_binds.trans (.of_same (h _ _ _))
  all_goals exact .refl

theorem State.deviationFault_binds (i : Fin 12) : s.Binds (s.deviationFault i) := by
  unfold State.deviationFault
  exact .ite (.ite s.engineWork_binds .refl) (.ite (s.engineWork_binds.trans (State.compareAll_binds _)) .refl)

/-! ## The Test Clock (R47, R48, R167 to R171) -/

theorem State.startSecond_binds : s.Binds s.startSecond := by
  unfold State.startSecond
  repeat' split
  · rename_i sh he _
    have hstart : s.openTick.Binds (s.openTick.startShot sh) := .of_same (State.startShot_bonds _ (by simp [he]))
    exact ((State.Binds.of_same s.openTick_bonds).trans hstart).trans (.of_same (State.settleTick_bonds _))
  all_goals exact .refl

theorem State.handleMark_binds : s.Binds s.handleMark := by
  unfold State.handleMark State.acceptMark
  repeat' split
  · rename_i a _
    have hanchor : s.Binds { s.reanchor with
        clock := { s.reanchor.clock with reference := some s.now, count := a.count, deviation := a.deviation } } := .of_eq
    exact (hanchor.trans (State.setQuality_binds _ _)).trans (State.startSecond_binds _)
  all_goals exact .refl

theorem State.expire_binds : s.Binds s.expire := by
  unfold State.expire
  split
  · exact s.setQuality_binds _
  · have hgone : s.Binds { s with clock := { s.clock with reference := none, count := 0 } } := .of_eq
    exact hgone.trans (State.setQuality_binds _ _)

theorem State.setDiscipline_binds (on : Bool) : s.Binds (s.setDiscipline on) := by
  have hswitched : s.Binds (s.switchDiscipline on) := .of_eq
  unfold State.setDiscipline
  exact .ite .refl (hswitched.trans (State.setQuality_binds _ _))

end

end Sys2Proof.Machine
end

section
/-! SUPPORT. Every command, and the end of a microsecond, keeps the report slots and the capture halves bound (R134, R144, R153). -/

namespace Sys2Proof.Machine

section
variable {s t : State}

/-! ## Links that leave pending sets (R145, R149, R150) -/

theorem Slot.retire_complete (l : Link) (r : Report) (w : LinkSet) : (Slot.complete r w).retire l =
    if excluding w l.number = 0 then .empty else .complete r (excluding w l.number) := rfl

/-- A link that leaves the pending set of a COMPLETE slot takes it a link, or the slot (R149, R150). -/
theorem Slot.shrinks_retire (l : Link) (r : Report) (w : LinkSet) :
    (Slot.complete r w).row.Shrinks ((Slot.complete r w).retire l).row := by
  refine .inr ⟨_, _, _, _, rfl, ?_⟩
  rw [Slot.retire_complete]
  split
  · exact .inl rfl
  · rename_i hw
    exact .inr ⟨_, rfl, hw⟩

/-- A link leaves pending sets, and the halves HELD for the slots `gone`, those that it empties among them, become FREE (R150). -/
theorem State.Binds.of_leave {l : Link} {gone : Fin 16 → Prop} [DecidablePred gone] (hshot : t.engine.shot? = s.engine.shot?)
    (hslot : ∀ k : Fin 16, t.reports[k] = s.reports[k] ∨
      ∃ r w, s.reports[k] = .complete r w ∧ t.reports[k] = (Slot.complete r w).retire l)
    (hgone : ∀ (k : Fin 16) r w, s.reports[k] = .complete r w → t.reports[k] = .empty → gone k)
    (hhalf : ∀ h, t.captures.get h = match (s.captures.get h).state with
      | .held k _ => if gone k then .free else s.captures.get h
      | _ => s.captures.get h) : s.Binds t := by
  refine fun hs => hs.leave hshot (fun k => ?_) (fun h => ?_) fun h k n m x c hrow hempty hheld => ?_
  · obtain he | ⟨r, w, hr, he⟩ := hslot k
    · exact .inl (congrArg Slot.row he)
    · show (s.reports[k]).row.Shrinks (t.reports[k]).row
      rw [hr, he]
      exact Slot.shrinks_retire l r w
  · show (s.captures.get h).state.LetsGo (t.captures.get h).state
    rw [hhalf]
    cases hx : (s.captures.get h).state with
    | free | filling => exact .inl hx
    | held k n =>
      dsimp only
      split
      · exact .inr ⟨⟨k, n, rfl⟩, rfl⟩
      · exact .inl hx
  · obtain ⟨r, hr, -⟩ := Slot.row_eq_complete hrow
    have ht : t.reports[k] = .empty := Slot.row_eq_empty.1 hempty
    have hnow : (t.captures.get h).state = .held k n := hheld
    rw [hhalf] at hnow
    cases hx : (s.captures.get h).state with
    | free | filling => rw [hx] at hnow; cases hx.symm.trans hnow
    | held j m =>
      rw [hx] at hnow
      dsimp only at hnow
      split at hnow
      · cases hnow
      · rename_i hj
        cases hx.symm.trans hnow
        exact hj (hgone k r _ hr ht)

theorem State.retire_binds {k : Fin 16} {r : Report} {w : LinkSet} (l : Link) (h : s.reports[k] = .complete r w) :
    s.Binds (s.retire k l w) := by
  have hset (x : Slot) (j : Fin 16) : (s.reports.set k x)[j] = if j = k then x else s.reports[j] := by
    by_cases hj : j = k
    · subst hj
      simp
    · simp [Vector.getElem_set_ne, Fin.val_inj, hj, Ne.symm hj]
  have hslot {x : Slot} (hx : x = (Slot.complete r w).retire l) (j : Fin 16) : (s.reports.set k x)[j] = s.reports[j] ∨
      ∃ r w, s.reports[j] = .complete r w ∧ (s.reports.set k x)[j] = (Slot.complete r w).retire l := by
    rw [hset]
    split
    · rename_i hj
      exact .inr ⟨r, w, hj ▸ h, hx⟩
    · exact .inl rfl
  by_cases hw : excluding w l.number = 0
  · rw [State.retire_last h hw]
    have hleft : s.Binds { s with reports := s.reports.set k .empty, captures := s.captures.freeBound k } := by
      refine .of_leave (l := l) (gone := fun j => j = k) rfl ?_ (fun j x v hj he => ?_) fun y => ?_
      · exact hslot (by rw [Slot.retire_complete, if_pos hw])
      · by_contra hne
        rw [hset, if_neg hne, hj] at he
        cases he
      · exact (Captures.get_freeBound _ k y).trans (Half.freeWith_eq _ k)
    exact hleft.trans (State.grantMoment_binds _)
  · rw [State.retire_shared h hw]
    refine .of_leave (l := l) (gone := fun _ => False) rfl ?_ (fun j x v hj he => ?_) fun y => ?_
    · exact hslot (by rw [Slot.retire_complete, if_neg hw])
    · rw [hset] at he
      split at he
      · cases he
      · cases hj.symm.trans he
    · cases (s.captures.get y).state <;> simp

theorem State.leaveAll_binds (s : State) (l : Link) : s.Binds (s.leaveAll l) := by
  refine .of_leave (l := l) (gone := fun k => has (s.emptiedBy l) k = true) (by simp) (fun k => ?_) (fun k r w hk he => ?_)
    (s.leaveAll_half l)
  · rw [State.leaveAll_report]
    cases s.reports[k] with
    | empty | building r => exact .inl rfl
    | complete r w =>
      dsimp only
      split
      · exact .inr ⟨r, w, rfl, rfl⟩
      · exact .inl rfl
  · rw [State.leaveAll_report, hk] at he
    dsimp only at he
    split at he
    · rename_i hhas
      split at he
      · rename_i hw
        exact (s.has_emptiedBy l k).2 ⟨r, w, hk, hhas, hw⟩
      · cases he
    · cases he

/-! ## The other requests -/

theorem State.clearOverride_binds (s : State) : s.Binds s.clearOverride := by
  have hclear : s.Binds { s with sup := { s.sup with override := false } } := .of_eq
  unfold State.clearOverride
  exact .ite (hclear.trans (State.judgeInhibit_binds _)) hclear

theorem State.setOverrideLatch_binds (s : State) : s.Binds s.setOverrideLatch := by
  have hset : s.Binds { s with sup := { s.sup with override := true } } := .of_eq
  unfold State.setOverrideLatch
  exact .ite (hset.trans (State.grantMoment_binds _)) hset

theorem State.endGoWait_binds (s : State) (l : Link) : s.Binds (s.endGoWait l) := by
  unfold State.endGoWait
  repeat' split
  · exact s.requestEnd_binds _
  all_goals exact .refl

theorem State.linkReset_binds (s : State) (l : Link) : s.Binds (s.linkReset l) := by
  have hgone : s.Binds (((s.setLink l ((s.link l).linkReset l)).removeQueuedOf l).resetRecords l) := .of_eq
  have hended := hgone.trans (State.endGoWait_binds _ l)
  unfold State.linkReset
  dsimp only
  split
  · exact hended.trans (State.clearOverride_binds _)
  · exact hended

theorem State.declareFault_binds (s : State) (i : Fin 12) : s.Binds (s.declareFault i) := by
  have hset (c : Condition) : s.Binds (s.setCondition i c) := .of_eq
  unfold State.declareFault
  exact .ite ((hset _).trans (State.requestEnd_binds _ _)) (hset _)

/-! ## The requests that can be refused -/

/-- A command leads to states with the slots and the halves bound when they are bound before it. -/
def State.LeadsBound (s : State) (o : Host.Outcome State Fault Refusal) : Prop := ∀ t, o = .next t → s.Binds t

theorem State.LeadsBound.next (h : s.Binds t) : s.LeadsBound (.next t) := fun _ e => by
  cases e
  exact h

/-- A refusal and a reply write no more than their link (R175). -/
theorem State.LeadsBound.respond {l : Link} {k : Kind} {tag : Byte} {res : Except Denial (State × ReplyBody)}
    (h : ∀ t b, res = .ok (t, b) → s.Binds t) : s.LeadsBound (.next (Machine.respond l k tag s res)) := by
  refine .next ?_
  cases res with
  | error d => exact .of_eq (by simp [respond_error]) (by simp [respond_error]) (by simp [respond_error])
  | ok p => exact (h p.1 p.2 rfl).trans (.of_same rfl)

theorem State.LeadsBound.ok {l : Link} {k : Kind} {tag : Byte} {b : ReplyBody} (h : s.Binds t) :
    s.LeadsBound (.next (Machine.respond l k tag s (.ok (t, b)))) :=
  .respond fun _ _ e => by cases e; exact h

section
variable {l : Link} {b : ReplyBody}

/-- The loads and the frees write tables only (R12, R14). -/
theorem tableRequests_binds (h : (∃ body, loadState l body s = .ok (t, b)) ∨ (∃ body, loadProfile l body s = .ok (t, b)) ∨
    (∃ n, freeState l n s = .ok (t, b)) ∨ ∃ n, freeProfile l n s = .ok (t, b)) : s.Binds t := by
  refine .of_same ?_
  rcases h with ⟨_, h⟩ | ⟨_, h⟩ | ⟨_, h⟩ | ⟨_, h⟩
  · unfold loadState at h
    repeat' split at h
    all_goals cases h
    rfl
  · unfold loadProfile at h
    repeat' split at h
    all_goals cases h
    rfl
  · unfold freeState at h
    repeat' split at h
    all_goals cases h
    rfl
  · unfold freeProfile at h
    repeat' split at h
    all_goals cases h
    rfl

theorem submitShot_binds {x : Submit} (h : submitShot l x s = .ok (t, b)) : s.Binds t := by
  have hjoined (r : Request) : s.Binds (s.enqueue r) := .of_eq
  unfold submitShot at h
  repeat' split at h
  all_goals cases h
  exact (hjoined _).trans (State.grantMoment_binds _)

theorem abort_binds {n : Byte} (h : abort l n s = .ok (t, b)) : s.Binds t := by
  unfold abort abortGranted at h
  repeat' split at h
  all_goals cases h
  · exact .of_eq
  · exact s.requestEnd_binds _

theorem setLinkPriority_binds {p w : Byte} (h : setLinkPriority l p w s = .ok (t, b)) : s.Binds t := by
  unfold setLinkPriority at h
  split at h <;> cases h
  exact .of_eq

theorem go_binds (h : go l s = .ok (t, b)) : s.Binds t := by
  unfold go at h
  repeat' split at h
  all_goals cases h
  rename_i he _ _
  exact .of_eq (by simp [he])

theorem panelStep_binds (h : panelStep l s = .ok (t, b)) : s.Binds t := by
  unfold panelStep at h
  repeat' split at h
  all_goals cases h
  rename_i he _
  exact .of_eq (by simp [he])

theorem adjust_binds {i d : Byte} (h : adjust l i d s = .ok (t, b)) : s.Binds t := by
  unfold adjust State.adjustLane at h
  repeat' split at h
  all_goals cases h
  exact .of_eq

theorem setSupervision_binds {i e : Byte} {d : Half16} {m : Byte} {r x : Half16}
    (h : setSupervision l i e d m r x s = .ok (t, b)) : s.Binds t := by
  have hset (i : Fin 12) (x : SupLane) : s.Binds (s.setSup i x) := .of_eq
  unfold setSupervision at h
  repeat' split at h
  all_goals cases h
  exact (hset _ _).trans (State.grantMoment_binds _)

theorem declareLaneFault_binds {i : Byte} (h : declareLaneFault l i s = .ok (t, b)) : s.Binds t := by
  unfold declareLaneFault at h
  repeat' split at h
  all_goals cases h
  exact s.declareFault_binds _

theorem clearLaneFault_binds {i : Byte} (h : clearLaneFault l i s = .ok (t, b)) : s.Binds t := by
  have hset (i : Fin 12) (x : SupLane) : s.Binds (s.setSup i x) := .of_eq
  unfold clearLaneFault at h
  repeat' split at h
  all_goals cases h
  exact (hset _ _).trans (State.grantMoment_binds _)

theorem setOverride_binds {a : Byte} (h : setOverride l a s = .ok (t, b)) : s.Binds t := by
  unfold setOverride at h
  repeat' split at h
  all_goals cases h
  · exact s.setOverrideLatch_binds
  · exact s.clearOverride_binds

theorem subscribe_binds {x n : Byte} (h : subscribe l x n s = .ok (t, b)) : s.Binds t := by
  have hset (u : State) (on : Bool) : u.Binds (u.setSubscription l on n.toNat) := .of_eq
  unfold subscribe at h
  dsimp only at h
  repeat' split at h
  all_goals cases h
  · exact ((s.leaveAll_binds l).trans (hset _ false)).trans (State.grantMoment_binds _)
  · exact hset s true

theorem retireReport_binds {k : Byte} {n : Half16} (h : retireReport l k n s = .ok (t, b)) : s.Binds t := by
  unfold retireReport at h
  repeat' split at h
  all_goals cases h
  rename_i hk _
  exact State.retire_binds l hk

theorem setDiscipline_binds {x : Byte} (h : setDiscipline l x s = .ok (t, b)) : s.Binds t := by
  unfold setDiscipline at h
  dsimp only at h
  repeat' split at h
  all_goals cases h
  exact s.setDiscipline_binds _

end

/-! ## Every command -/

theorem runRequest_bound (l : Link) (k : Kind) (tag : Byte) (body : List Byte) (s : State) :
    s.LeadsBound (runRequest l k tag body s) := by
  cases k with
  | nop | peekNotices | tableStatus | queueStatus | supervisionStatus | reportStatus | timeStatus => exact .ok .refl
  | takeNotices | clearFault => exact .ok (.of_same rfl)
  | linkReset => exact .ok (s.linkReset_binds l)
  | loadState => exact .respond fun _ _ h => tableRequests_binds (.inl ⟨_, h⟩)
  | loadProfile => exact .respond fun _ _ h => tableRequests_binds (.inr (.inl ⟨_, h⟩))
  | freeState => exact .respond fun _ _ h => tableRequests_binds (.inr (.inr (.inl ⟨_, h⟩)))
  | freeProfile => exact .respond fun _ _ h => tableRequests_binds (.inr (.inr (.inr ⟨_, h⟩)))
  | readState => exact .respond fun _ _ h => .of_same (by rw [reads_state_eq (.inl ⟨_, h⟩)])
  | readProfile => exact .respond fun _ _ h => .of_same (by rw [reads_state_eq (.inr (.inl ⟨_, h⟩))])
  | submitShot => exact .respond fun _ _ => submitShot_binds
  | abort => exact .respond fun _ _ => abort_binds
  | setLinkPriority => exact .respond fun _ _ => setLinkPriority_binds
  | go => exact .respond fun _ _ => go_binds
  | step => exact .respond fun _ _ => panelStep_binds
  | adjust => exact .respond fun _ _ => adjust_binds
  | setSupervision => exact .respond fun _ _ => setSupervision_binds
  | declareLaneFault => exact .respond fun _ _ => declareLaneFault_binds
  | clearLaneFault => exact .respond fun _ _ => clearLaneFault_binds
  | setOverride => exact .respond fun _ _ => setOverride_binds
  | subscribe => exact .respond fun _ _ => subscribe_binds
  | readReport => exact .respond fun _ _ h => .of_same (by rw [reads_state_eq (.inr (.inr (.inl ⟨_, _, _, _, _, _, h⟩)))])
  | retireReport => exact .respond fun _ _ => retireReport_binds
  | readCapture => exact .respond fun _ _ h => .of_same (by rw [reads_state_eq (.inr (.inr (.inr ⟨_, _, _, h⟩)))])
  | setDiscipline => exact .respond fun _ _ => setDiscipline_binds

theorem execBadFrame_bound (l : Link) (bytes : List Byte) (s : State) : s.LeadsBound (execBadFrame l bytes s) := by
  unfold execBadFrame
  repeat' split
  · exact .next .refl
  · exact .next .of_eq
  · exact runRequest_bound _ _ _ _ _

/-- After power-on reset there is no shot, no report and no half in use (R65, R134, R153). -/
theorem State.powerOn_bound (s : State) : s.powerOn.bonds.Sound :=
  State.bonds_sound_iff.2 ⟨State.reset_slotsBound, State.reset_completesWait, State.reset_halvesBound⟩

theorem execInhibitAssert_bound (s : State) : s.LeadsBound (execInhibitAssert s) := by
  have hedge : s.Binds { s with sup := { s.sup with pin := true, inhibit := true, override := false } } := .of_eq
  exact .next (.ite .of_eq (hedge.trans (State.judgeInhibit_binds _)))

theorem execInhibitDeassert_bound (s : State) : s.LeadsBound (execInhibitDeassert s) := by
  have hedge : s.Binds { s with sup := { s.sup with pin := false, inhibit := false } } := .of_eq
  exact .next (.ite (hedge.trans (State.grantMoment_binds _)) .of_eq)

theorem execVisitClose_bound (s : State) : s.LeadsBound (execVisitClose s) := by
  refine .next ?_
  split
  · exact .of_same (s.onReport_bonds _ fun r => r.closeVisit_name _ _)
  · exact .refl

theorem execTeardown_bound (s : State) : s.LeadsBound (execTeardown s) := by
  refine .next ?_
  split
  · rename_i sh hdue
    have hshot : s.engine.shot? = some sh := by
      unfold State.teardownDue at hdue
      repeat' split at hdue
      all_goals simp_all
    exact (State.tearDown_binds hshot).trans (State.grantMoment_binds _)
  · exact .refl

theorem exec_bound (c : Instr) (s : State) : s.LeadsBound (exec c s) := by
  cases hp : frameParts c with
  | some p =>
    obtain ⟨l, k, tag, body⟩ := p
    rw [← runRequest_of_parts hp]
    exact runRequest_bound l k tag body s
  | none =>
    cases c with
    | powerOnReset => exact .next fun _ => s.powerOn_bound
    | badFrame l bytes => exact execBadFrame_bound l bytes s
    | grant => exact .next s.grantMoment_binds
    | trigEdge => exact .next (.ite .of_eq .of_eq)
    | mark =>
      have hsample : s.Binds { s with clock := { s.clock with markNow := true } } := .of_eq
      exact .next (.ite (hsample.trans (State.handleMark_binds _)) hsample)
    | qualityExpiry => exact .next (.ite s.expire_binds .refl)
    | clockWrap => exact .next (.ite .of_eq .refl)
    | inhibitAssert => exact execInhibitAssert_bound s
    | inhibitDeassert => exact execInhibitDeassert_bound s
    | contactRawEdge i level => exact .next .of_eq
    | episodeEnd i => exact .next (by split; exacts [.of_same (s.endEpisode_bonds i _), .refl])
    | moveComplete k => exact .next (.of_same (s.completeMove_bonds k))
    | readbackFrame frame => exact .next .of_eq
    | sampleTick => exact .next s.runTick_binds
    | timeExit | deferralEnd | shotStart | shotEnd => exact .next (.ite s.engineWork_binds .refl)
    | visitClose => exact execVisitClose_bound s
    | teardown => exact execTeardown_bound s
    | deviationFault i => exact .next (s.deviationFault_binds i)
    | cutTakesEffect i | cutLimit i => exact .next (s.laneEvent_binds fun _ _ _ => rfl)
    | reenergise i => exact .next (s.laneEvent_binds fun _ _ _ => State.bonds_of_eq (by simp) (by simp) (by simp))
    | _ => cases hp

theorem step_bound (s : State) : s.LeadsBound (step s) := by
  have htaken (rest : List Instr) : s.Binds { s with pending := rest } := .of_eq
  unfold step State.idle
  repeat' split
  · exact fun t h => (htaken _).trans (exec_bound _ _ t h)
  · exact exec_bound _ s
  · exact .next .of_eq

end

/-- Settles O57: the three properties are those of the bonds, which a grant, a teardown and the leaving of a pending set keep sound,
each by what it writes of the slot and of the half beside it; every other operation leaves the bonds as they were. -/
theorem stepsKeepSlotsAndHalvesBound : Obligations.StepsKeepSlotsAndHalvesBound := fun s t hslots hwait hhalves h =>
  State.bonds_sound_iff.1 (step_bound s t h (State.bonds_sound_iff.2 ⟨hslots, hwait, hhalves⟩))

end Sys2Proof.Machine
end

section
/-! SUPPORT. The requests of the Link Unit that every link may make, and the lines that follow a link's items (R146, R175, R178 to R180). -/

namespace Sys2Proof.Machine

section
variable (l : Link) (tag : Byte) (s : State)

/-- TAKE_NOTICES shows the notices as they stood and clears four flags (R179). -/
theorem exec_takeNotices : exec (.takeNotices l tag) s = .next (s.setLink l
    { s.link l with
      notices := { granted := false, ended := false, timeQuality := false, laneFault := false,
                   linkFault := (s.link l).notices.linkFault },
      reply := some (okReply .takeNotices tag (.notices (s.link l).notices (s.reportReady l) (s.link l).fault)) }) :=
  congrArg Host.Outcome.next (State.setReply_setLink s l _ _)

/-- CLEAR_FAULT shows the fault record as it stood and empties it (R178). -/
theorem exec_clearFault : exec (.clearFault l tag) s = .next (s.setLink l
    { s.link l with
      fault := none, notices := { (s.link l).notices with linkFault := false },
      reply := some (okReply .clearFault tag (.fault (s.link l).fault)) }) :=
  congrArg Host.Outcome.next (State.setReply_setLink s l _ _)

/-- REPORT_READY holds exactly while enough COMPLETE reports wait for the link (R146). -/
theorem State.reportReady_iff : s.reportReady l = true ↔ (s.link l).threshold ≤ s.pendingCount l := decide_eq_true_iff

theorem Notices.any_iff {n : Notices} : n.any = true ↔
    n.granted = true ∨ n.ended = true ∨ n.timeQuality = true ∨ n.laneFault = true ∨ n.linkFault = true := by
  simp only [Notices.any, Bool.or_eq_true, or_assoc]

/-- ATTN is asserted exactly while a notice flag is set or REPORT_READY holds (R180). -/
theorem State.attn_iff : s.attn l = true ↔ (s.link l).notices.any = true ∨ s.reportReady l = true := Bool.or_eq_true_iff

end

/-- Settles O7: each of the four requests answers OK with its link's items, and the two lines follow the flags and the reports. -/
theorem linkRequestsAreTaken : Obligations.LinkRequestsAreTaken := by
  refine fun l tag s => ⟨rfl, rfl, exec_takeNotices l tag s, exec_clearFault l tag s, ?_, ?_⟩
  · rw [State.reportReady_iff, State.pendingCount_eq]
  · rw [State.attn_iff, Notices.any_iff]
    simp only [or_assoc]

end Sys2Proof.Machine
end

section
/-! SUPPORT. READ_REPORT and READ_CAPTURE, case by case (R148, R161, R183). -/

namespace Sys2Proof.Machine

/-! ## READ_REPORT (R148) -/

section
variable {r : Report} {part visit first count : Nat}

theorem Report.part_header (h : part = 0) : r.part part visit first count = .ok (.header r.header) := by
  subst h
  rfl

/-- The VISIT part is kept in mode FULL only, and for the visits that the shot had (R148 checks 5 and 6). -/
theorem Report.part_visit (h : part = 1) : r.part part visit first count =
    if r.header.mode ≠ .full then .error (badRequest 2)
    else match r.visits[visit]? with
      | none => .error (badRequest 3)
      | some v => .ok (.visit r.header.serial v) := by
  subst h
  rfl

/-- The RESULTS part: the count is judged before the first index (R148, notes/assumptions/26.md). -/
theorem Report.part_results (h : part = 2) : r.part part visit first count =
    if count < 1 ∨ 32 < count then .error (badRequest 5)
    else if r.results.length < first then .error (badRequest 4)
    else .ok (.results r.header.serial ((r.results.drop first).take count)) := by
  subst h
  rfl

theorem Report.part_timeline (h : part = 3) : r.part part visit first count =
    if r.header.mode ≠ .full then .error (badRequest 2) else .ok (.timeline r.header.serial r.timeline) := by
  subst h
  rfl

theorem Report.part_of_gt (h : 3 < part) : r.part part visit first count = .error (badRequest 2) := by
  obtain ⟨n, rfl⟩ := Nat.exists_eq_add_of_le' h
  rfl

end

/-! ## READ_CAPTURE (R161) -/

/-- READ_CAPTURE of a HELD half: the count is judged before the first record (R161, notes/assumptions/26.md). -/
theorem readCapture_of_held {half : Byte} {id : HalfId} {first : Half16} {count : Byte} {s : State} {slot : Fin 16} {serial : Nat}
    (hid : halfOf half.toNat = some id) (hx : (s.captures.get id).state = .held slot serial) :
    let x := s.captures.get id
    readCapture half first count s =
      if count.toNat < 1 ∨ 32 < count.toNat then .error (badRequest 2)
      else if x.records.length < first.toNat then .error (badRequest 1)
      else .ok (s, .capture id slot serial x.records.length x.trigger x.lanes
        ((x.records.drop first.toNat).take (min count.toNat (1006 / (4 + 3 * (members x.lanes).length))))) := by
  intro x
  rw [readCapture, hid]
  dsimp only
  rw [hx]
  rfl

theorem readCapture_of_notHeld {half : Byte} {id : HalfId} {first : Half16} {count : Byte} {s : State}
    (hid : halfOf half.toNat = some id) (hx : ∀ slot serial, (s.captures.get id).state ≠ .held slot serial) :
    readCapture half first count s = .error .noCapture := by
  rw [readCapture, hid]
  dsimp only
  split
  · rename_i slot serial hheld
    exact absurd hheld (hx slot serial)
  · rfl

/-- A half's code is A 0 or B 1 (R183). -/
theorem halfOf_byte {half : Byte} : halfOf half.toNat =
    if 1 < half.toNat then none else some (if half = 0 then .a else .b) := by
  have hzero : half = 0 ↔ half.toNat = 0 := by bv_omega
  rw [if_congr hzero rfl rfl]
  generalize half.toNat = n
  match n with
  | 0 | 1 => rfl
  | n + 2 => exact (if_pos (by omega)).symm

/-- Settles O51: past the checks on the slot and its serial the part decides the checks and the reply; past the checks on the half the
count and the first record do. -/
theorem readsReturnTheirPart : Obligations.ReadsReturnTheirPart := by
  refine ⟨fun l tag slot serial part visit first count s => ?_, fun l tag half first count s => ?_⟩
  · have hexec : exec (.readReport l tag slot serial part visit first count) s =
        .next (respond l .readReport tag s (readReport slot serial part visit first count s)) := rfl
    dsimp only
    rw [hexec]
    have hnat : ∀ n : Byte, part = n → part.toNat = n.toNat := fun n h => congrArg BitVec.toNat h
    by_cases h : slot.toNat < 16
    · rw [dif_pos h, readReport, index?_of_lt h]
      dsimp only
      cases hk : s.reports[(⟨slot.toNat, h⟩ : Fin 16)] with
      | empty | building r => rfl
      | complete r w =>
        dsimp only
        split_ifs with hserial hcode hmode hvisit hcount hfirst
        · rfl
        · rw [Report.part_of_gt hcode]
          rfl
        · obtain ⟨hpart | hpart, hm⟩ := hmode
          · rw [Report.part_visit (hnat 1 hpart), if_pos hm]
            rfl
          · rw [Report.part_timeline (hnat 3 hpart), if_pos hm]
            rfl
        · obtain ⟨hpart, hlength⟩ := hvisit
          rw [Report.part_visit (hnat 1 hpart), if_neg fun hm => hmode ⟨.inl hpart, hm⟩, List.getElem?_eq_none hlength]
          rfl
        · obtain ⟨hpart, hc⟩ := hcount
          rw [Report.part_results (hnat 2 hpart), if_pos hc]
          rfl
        · obtain ⟨hpart, hf⟩ := hfirst
          rw [Report.part_results (hnat 2 hpart), if_neg fun hc => hcount ⟨hpart, hc⟩, if_pos hf]
          rfl
        · refine ⟨fun hpart => ?_, fun v hpart hv => ?_, fun hpart => ?_, fun hpart => ?_⟩
          · rw [Report.part_header (hnat 0 hpart)]
            rfl
          · rw [Report.part_visit (hnat 1 hpart), if_neg fun hm => hmode ⟨.inl hpart, hm⟩, hv]
            rfl
          · rw [Report.part_results (hnat 2 hpart), if_neg fun hc => hcount ⟨hpart, hc⟩, if_neg fun hf => hfirst ⟨hpart, hf⟩]
            rfl
          · rw [Report.part_timeline (hnat 3 hpart), if_neg fun hm => hmode ⟨.inr hpart, hm⟩]
            rfl
    · rw [dif_neg h, readReport, index?_of_le (Nat.not_lt.1 h)]
      rfl
  · have hexec : exec (.readCapture l tag half first count) s =
        .next (respond l .readCapture tag s (readCapture half first count s)) := rfl
    dsimp only
    rw [hexec]
    by_cases hcode : 1 < half.toNat
    · rw [if_pos hcode, readCapture, halfOf_byte, if_pos hcode]
      rfl
    · rw [if_neg hcode]
      have hid : halfOf half.toNat = some (if half = 0 then .a else .b) := by rw [halfOf_byte, if_neg hcode]
      generalize (if half = 0 then HalfId.a else .b) = id at hid ⊢
      cases hx : (s.captures.get id).state with
      | free | filling => rw [readCapture_of_notHeld hid (by simp [hx])]; rfl
      | held slot serial =>
        dsimp only
        rw [readCapture_of_held hid hx]
        split_ifs <;> rfl

end Sys2Proof.Machine
end

section
/-! SUPPORT. The measured value and the verdict of an assessment (R137 to R139). -/

namespace Sys2Proof.Machine

/-! ## The measured value (R137) -/

/-- The measured value of an assessment that reads `time`, an offset from the visit's entry, in the visit's records: absent where the
time is, and counted from the assessment's origin where that offset does not reach 2⁴⁸ (R137). -/
def Visit.Reads (v : Visit) (a : Assessment) (time : Option Nat) : Prop :=
  (time = none → v.measured a = none) ∧
    ∀ t, time = some t → (a.origin = .visitEntry → v.measured a = some t) ∧
      (a.origin = .shotStart → t + v.entry < 281474976710656 → v.measured a = some (t + v.entry))

section
variable {v : Visit}

theorem Visit.reads_timeOf (v : Visit) (a : Assessment) : v.Reads a (v.timeOf a.kind) := by
  refine ⟨fun h => ?_, fun t h => ⟨fun ho => ?_, fun ho hlt => ?_⟩⟩
  · rw [Visit.measured, h]
    rfl
  · rw [Visit.measured, h, ho]
    rfl
  · rw [Visit.measured, h, ho]
    exact congrArg some (Nat.mod_eq_of_lt hlt)

theorem Visit.reads_of_timeOf {a : Assessment} {time : Option Nat} (h : v.timeOf a.kind = time) : v.Reads a time :=
  h ▸ v.reads_timeOf a

theorem Visit.inputElem_of_absent {i : Fin 16} (h : ∀ x ∈ v.inputs, x.input ≠ i) : v.inputElem i = none := by
  simpa [Visit.inputElem] using h

/-- In a list in ascending input order an input has one element (R96). -/
theorem Visit.inputElem_of_mem (hsorted : v.inputs.Pairwise fun x y => x.input < y.input) {x : InputElem} (hx : x ∈ v.inputs) :
    v.inputElem x.input = some x := by
  have hnodup : (v.inputs.map InputElem.input).Nodup := (List.pairwise_map.2 hsorted).imp fun h => ne_of_lt h
  cases hf : v.inputElem x.input with
  | none =>
    have hnone := List.find?_eq_none.1 hf x hx
    simp at hnone
  | some y =>
    have hinput : y.input = x.input := by simpa using List.find?_some hf
    rw [List.inj_on_of_nodup_map hnodup (List.mem_of_find?_eq_some hf) hx hinput]

theorem Visit.moveTime_of_absent {k : Fin 4} {c : BreakerChange} (h : ∀ x ∈ v.breakers, ¬(x.sim = k ∧ x.change = c)) :
    v.moveTime k c = none := by
  have hnone : v.breakers.find? (fun e => e.sim == k && e.change == c) = none :=
    List.find?_eq_none.2 fun x hx => by simpa using h x hx
  rw [Visit.moveTime, hnone]
  rfl

/-- In a list in order of time the first element of a change of a simulator is the earliest (R113, R137). -/
theorem Visit.moveTime_of_earliest (hsorted : v.breakers.Pairwise fun x y => x.time ≤ y.time) {x : BreakerElem}
    (hx : x ∈ v.breakers) (hleast : ∀ y ∈ v.breakers, y.sim = x.sim → y.change = x.change → x.time ≤ y.time) :
    v.moveTime x.sim x.change = some x.time := by
  cases hf : v.breakers.find? (fun e => e.sim == x.sim && e.change == x.change) with
  | none =>
    have hnone := List.find?_eq_none.1 hf x hx
    simp at hnone
  | some y =>
    obtain ⟨hy, before, after, hlist, hbefore⟩ := List.find?_eq_some_iff_append.1 hf
    obtain ⟨hsim, hchange⟩ : y.sim = x.sim ∧ y.change = x.change := by simpa using hy
    have hle : y.time ≤ x.time := by
      rw [hlist] at hx hsorted
      obtain hx | hx := List.mem_append.1 hx
      · have hne := hbefore x hx
        simp at hne
      · obtain rfl | hx := List.mem_cons.1 hx
        · exact Nat.le_refl _
        · exact List.rel_of_pairwise_cons (List.pairwise_append.1 hsorted).2.1 hx
    have hge := hleast y (List.mem_of_find?_eq_some hf) hsim hchange
    rw [Visit.moveTime, hf]
    exact congrArg some (Nat.le_antisymm hle hge)

/-- A simulator's assessment reads the earliest element of its change, where the visit has one. -/
theorem Visit.reads_moveTime {a : Assessment} {k : Fin 4} {c : BreakerChange} (h : v.timeOf a.kind = v.moveTime k c)
    (hsorted : v.breakers.Pairwise fun x y => x.time ≤ y.time) :
    ((∀ x ∈ v.breakers, ¬(x.sim = k ∧ x.change = c)) → v.Reads a none) ∧
      ∀ x ∈ v.breakers, x.sim = k → x.change = c →
        (∀ y ∈ v.breakers, y.sim = k → y.change = c → x.time ≤ y.time) → v.Reads a (some x.time) := by
  refine ⟨fun hnone => Visit.reads_of_timeOf (h.trans (Visit.moveTime_of_absent hnone)), ?_⟩
  rintro x hx rfl rfl hleast
  exact Visit.reads_of_timeOf (h.trans (Visit.moveTime_of_earliest hsorted hx hleast))

end

/-! ## The verdict (R138, R139) -/

section
variable {v : Visit} {a : Assessment}

/-- An assessment of another kind than NO_OPERATE is judged by its measured value, where it has one (R138). -/
theorem Visit.judge_of_measure (h : ∀ i, a.kind ≠ .noOperate i) : v.judge a = match v.measured a with
    | none => (.notMeasured, none)
    | some m => (if a.passes m then .pass else .fail, some m) := by
  unfold Visit.judge
  split
  · rename_i i hk
    exact absurd hk (h i)
  · rfl

theorem Visit.judge_of_none (h : ∀ i, a.kind ≠ .noOperate i) (hm : v.measured a = none) : v.judge a = (.notMeasured, none) := by
  rw [Visit.judge_of_measure h, hm]

theorem Visit.judge_of_some {m : Nat} {p : Prop} [Decidable p] (h : ∀ i, a.kind ≠ .noOperate i) (hm : v.measured a = some m)
    (hp : a.passes m = true ↔ p) : v.judge a = if p then (.pass, some m) else (.fail, some m) := by
  rw [Visit.judge_of_measure h, hm]
  dsimp only
  rw [if_congr hp rfl rfl]
  split <;> rfl

/-- NO_OPERATE is judged by the operates that the visit has of the input (R139). -/
theorem Visit.judge_of_noOperate {i : Fin 16} (h : a.kind = .noOperate i) : v.judge a =
    if v.operates i = 0 then (.pass, none) else (.fail, v.measured a) := by
  rw [Visit.judge, h]

theorem Visit.operates_of_some {i : Fin 16} {e : InputElem} (h : v.inputElem i = some e) : v.operates i = e.operates := by
  rw [Visit.operates, h]

theorem Visit.operates_of_none {i : Fin 16} (h : v.inputElem i = none) : v.operates i = 0 := by
  rw [Visit.operates, h]

/-- A measured value passes within the bounds that the compare mode reads (R138). -/
theorem Assessment.passes_iff {m : Nat} :
    (a.mode = .below → (a.passes m = true ↔ m < a.high)) ∧ (a.mode = .above → (a.passes m = true ↔ a.low < m)) ∧
    (a.mode = .inside → (a.passes m = true ↔ a.low ≤ m ∧ m ≤ a.high)) ∧
    (a.mode = .outside → (a.passes m = true ↔ m < a.low ∨ a.high < m)) := by
  refine ⟨fun h => ?_, fun h => ?_, fun h => ?_, fun h => ?_⟩ <;> simp [Assessment.passes, h]

end

/-- Settles O48: an assessment reads the element of its input or the earliest of its simulator; the value, where there is one, is judged
by the compare mode, and a NO_OPERATE by the operates of its input. -/
theorem verdictsFollowTheCompareMode : Obligations.VerdictsFollowTheCompareMode := by
  refine ⟨fun v a => ?_, fun v a => ⟨fun hkind => ⟨fun hm => ?_, fun m hm => ?_⟩, fun i hi => ⟨fun he => ?_, fun e he h0 => ?_,
    fun e he h0 => ?_⟩, fun h => ⟨rfl, rfl⟩⟩⟩
  · intro reads first hsorted
    refine ⟨fun i hkind habsent => ?_, fun x hx => ⟨fun hkind => ?_, fun hkind => ?_⟩, fun k hkind => ?_, fun k hkind => ?_⟩
    · have hnone := Visit.inputElem_of_absent habsent
      refine Visit.reads_of_timeOf ?_
      obtain h | h | h := hkind <;> rw [h, Visit.timeOf, hnone] <;> rfl
    · have helem := Visit.inputElem_of_mem hsorted hx
      refine Visit.reads_of_timeOf ?_
      obtain h | h := hkind <;> rw [h, Visit.timeOf, helem] <;> rfl
    · refine Visit.reads_of_timeOf ?_
      rw [hkind, Visit.timeOf, Visit.inputElem_of_mem hsorted hx]
      rfl
    · exact Visit.reads_moveTime (by rw [hkind]; rfl)
    · exact Visit.reads_moveTime (by rw [hkind]; rfl)
  · exact Visit.judge_of_none hkind hm
  · obtain ⟨hbelow, habove, hinside, houtside⟩ := Assessment.passes_iff (a := a) (m := m)
    exact ⟨fun h => Visit.judge_of_some hkind hm (hbelow h), fun h => Visit.judge_of_some hkind hm (habove h),
      fun h => Visit.judge_of_some hkind hm (hinside h), fun h => Visit.judge_of_some hkind hm (houtside h)⟩
  · rw [Visit.judge_of_noOperate hi, if_pos (Visit.operates_of_none he)]
  · rw [Visit.judge_of_noOperate hi, Visit.operates_of_some he, if_pos h0]
  · rw [Visit.judge_of_noOperate hi, Visit.operates_of_some he, if_neg h0]

end Sys2Proof.Machine
end

section
/-! SUPPORT. The command at the front of the queue (R163), and the Test Clock's discipline, its quality and its wrap (R163, R164, R166,
R168, R171). -/

namespace Sys2Proof.Machine

/-! ## The command at the front of the queue (R163) -/

theorem step_of_pending {s : State} {c : Instr} {rest : List Instr} (h : s.pending = c :: rest) :
    step s = exec c { s with pending := rest } := by rw [step, h]

/-- Settles O1: the queue has a front command, so the step is that command's. -/
theorem stepRunsTheFrontCommand : Obligations.StepRunsTheFrontCommand := fun _ _ _ h => step_of_pending h

/-! ## A change of the time quality (R171) -/

section
variable {s : State} {q : Quality}

theorem State.setQuality_same (h : s.clock.quality = q) : s.setQuality q = s := by
  subst h
  exact if_pos rfl

theorem State.setQuality_changed (h : s.clock.quality ≠ q) :
    s.setQuality q = ({ s with clock := { s.clock with quality := q } } : State).qualityChanged := if_neg h

@[simp] theorem State.setQuality_clock (s : State) (q : Quality) : (s.setQuality q).clock = { s.clock with quality := q } := by
  by_cases h : s.clock.quality = q
  · rw [State.setQuality_same h, ← h]
  · rw [State.setQuality_changed h]
    simp

/-- The notices of a change go to Plan and Panel, and the waiting SECOND shot ends when the new quality has no time (R171). -/
theorem State.qualityChanged_eq (s : State) :
    let told (x : LinkState) : LinkState := { x with notices := { x.notices with timeQuality := true } }
    let t : State := { s with links := { s.links with plan := told s.links.plan, panel := told s.links.panel } }
    s.qualityChanged = match s.engine with
      | .armed sh none =>
        if sh.req.condition = .second ∧ (s.clock.quality = .disabled ∨ s.clock.quality = .free) then t.requestEnd .timeLost else t
      | _ => t := by
  simp only [← Quality.lost_iff]
  rfl

end

/-! ## SET_DISCIPLINE (R166) -/

section
variable {s : State}

theorem setting_on_iff {setting : Byte} (h : ¬1 < setting.toNat) : setting ≠ 0 ↔ setting = 1 := by bv_omega

theorem State.setDiscipline_same {on : Bool} (h : s.clock.discipline = on) : s.setDiscipline on = s := if_pos h

theorem State.setDiscipline_changed {on : Bool} (h : s.clock.discipline ≠ on) :
    s.setDiscipline on = (s.switchDiscipline on).setQuality (if on then .free else .disabled) := if_neg h

/-- Discipline turned on gives FREE, turned off DISABLED; left as it stands, it leaves the quality (R166). -/
theorem State.setDiscipline_items (s : State) (on : Bool) :
    (s.setDiscipline on).clock.discipline = on ∧ (s.setDiscipline on).clock.quality =
      if s.clock.discipline = on then s.clock.quality else if on then .free else .disabled := by
  by_cases h : s.clock.discipline = on
  · rw [State.setDiscipline_same h, if_pos h]
    exact ⟨h, rfl⟩
  · rw [State.setDiscipline_changed h, if_neg h, State.setQuality_clock]
    exact ⟨rfl, rfl⟩

theorem setDiscipline_of_other {l : Link} {setting : Byte} (h : l ≠ .plan) : setDiscipline l setting s = .error .notPermitted :=
  if_pos h

/-- A SET_DISCIPLINE of Plan is refused for its setting alone, and answers the items as it leaves them (R166). -/
theorem setDiscipline_of_plan {l : Link} {setting : Byte} (h : l = .plan) : setDiscipline l setting s =
    if 1 < setting.toNat then .error (badRequest 0)
    else
      let on := decide (setting = 1)
      .ok (s.setDiscipline on,
        .discipline on (if s.clock.discipline = on then s.clock.quality else if on then .free else .disabled)) := by
  rw [setDiscipline, if_neg (not_not.2 h)]
  by_cases hcode : 1 < setting.toNat
  · rw [if_pos hcode, if_pos hcode]
  · rw [if_neg hcode, if_neg hcode]
    dsimp only
    obtain ⟨hdiscipline, hquality⟩ := s.setDiscipline_items (decide (setting = 1))
    rw [decide_eq_decide.2 (setting_on_iff hcode), hdiscipline, hquality]

end

/-! ## QUALITY_EXPIRY (R168) -/

section
variable {s : State} {r : Clock} {n : Nat}

theorem State.expiryDue_iff (hr : s.clock.reference = some r) (hn : s.clock.quality.expiry = some n) :
    s.expiryDue = true ↔ n ≤ elapsed r s.now := by
  rw [State.expiryDue, hr, hn, decide_eq_true_iff]

theorem exec_qualityExpiry (hr : s.clock.reference = some r) (hn : s.clock.quality.expiry = some n) :
    exec .qualityExpiry s = .next (if n ≤ elapsed r s.now then s.expire else s) :=
  congrArg _ (if_congr (State.expiryDue_iff hr hn) rfl rfl)

/-- A quality without an expiry, FREE or DISABLED, does not expire (R168). -/
theorem exec_qualityExpiry_of_none (h : s.clock.quality.expiry = none) : exec .qualityExpiry s = .next s := by
  have hdue : s.expiryDue = false := by
    rw [State.expiryDue, h]
    cases s.clock.reference <;> rfl
  exact congrArg _ (if_neg (by simp [hdue]))

theorem State.expire_of_locked (h : s.clock.quality = .locked) : s.expire = s.setQuality .holdover := by rw [State.expire, h]

/-- ACQUIRING and HOLDOVER fall to FREE with the reference gone (R168). -/
theorem State.expire_of_acquiring_or_holdover (h : s.clock.quality = .acquiring ∨ s.clock.quality = .holdover) :
    s.expire = ({ s with clock := { s.clock with reference := none, count := 0 } } : State).setQuality .free := by
  obtain h | h := h <;> rw [State.expire, h]

end

/-! ## CLOCK_WRAP (R163, R164) -/

section
variable {s : State}

theorem State.atWrap_iff : s.atWrap = true ↔ s.now = BitVec.allOnes 48 := beq_iff_eq

theorem exec_clockWrap_of_not (h : s.now ≠ BitVec.allOnes 48 ∨ s.dueWork ≠ none) : exec .clockWrap s = .next s := by
  have hwrap : ¬(s.atWrap && s.dueWork.isNone) = true := by
    rw [Bool.and_eq_true, State.atWrap_iff, Option.isNone_iff_eq_none]
    exact fun ⟨hnow, hdue⟩ => h.elim (· hnow) (· hdue)
  exact congrArg _ (if_neg hwrap)

theorem exec_clockWrap_of_wrap (hnow : s.now = BitVec.allOnes 48) (hdue : s.dueWork = none) :
    exec .clockWrap s = .next s.advance := by
  have hwrap : (s.atWrap && s.dueWork.isNone) = true := by rw [State.atWrap_iff.2 hnow, hdue]; rfl
  exact congrArg _ (if_pos hwrap)

/-- The microsecond after the last is microsecond 0 (R163). -/
theorem State.advance_now_of_wrap (h : s.now = BitVec.allOnes 48) : s.advance.now = 0 := by
  have hnext : s.advance.now = s.now + 1 := rfl
  rw [hnext, h]
  decide

/-- The grid runs on over the wrap (R164): 2⁴⁸ leaves 6 on division by 50. -/
theorem State.advance_anchor_of_wrap (h : s.now = BitVec.allOnes 48) : s.advance.clock.anchor = (s.clock.anchor + 44) % 50 :=
  if_pos (State.atWrap_iff.2 h)

end

/-- Settles O55: a change of the quality, the discipline's setting, each quality with its expiry, and the end of the last microsecond. -/
theorem disciplineAndExpiries : Obligations.DisciplineAndExpiries := by
  refine ⟨fun s q => ⟨State.setQuality_same, fun h => ?_⟩, fun l tag setting s => ?_,
    fun s r hr => ⟨fun h => ?_, fun h => ?_, fun h => ?_⟩, fun s h => ?_, fun s => ⟨exec_clockWrap_of_not, fun hnow hdue => ?_⟩⟩
  · rw [State.setQuality_changed h]
    exact State.qualityChanged_eq _
  · have hexec : exec (.setDiscipline l tag setting) s =
        .next (respond l .setDiscipline tag s (setDiscipline l setting s)) := rfl
    dsimp only
    rw [hexec]
    by_cases hl : l = .plan
    · rw [if_neg (not_not.2 hl), setDiscipline_of_plan hl]
      by_cases hcode : 1 < setting.toNat
      · rw [if_pos hcode, if_pos hcode, respond_error]
        rfl
      · rw [if_neg hcode, if_neg hcode, respond_ok]
        rfl
    · rw [if_pos hl, setDiscipline_of_other hl, respond_error]
  · rw [exec_qualityExpiry hr (n := 1000101) (by rw [h]; rfl), State.expire_of_acquiring_or_holdover (.inl h)]
  · rw [exec_qualityExpiry hr (n := 1000101) (by rw [h]; rfl), State.expire_of_locked h]
  · rw [exec_qualityExpiry hr (n := 10000000) (by rw [h]; rfl), State.expire_of_acquiring_or_holdover (.inr h)]
  · exact exec_qualityExpiry_of_none (by obtain h | h := h <;> rw [h] <;> rfl)
  · exact ⟨s.advance, exec_clockWrap_of_wrap hnow hdue, State.advance_now_of_wrap hnow, State.advance_anchor_of_wrap hnow, rfl, rfl,
      rfl, rfl, rfl, rfl, rfl, rfl, rfl, rfl⟩

end Sys2Proof.Machine
end

section
/-! SUPPORT. What a request leaves of the other links: its refusal and its reply reach its own link (R175, R178), and its effect
raises notices of the others and writes no more of them (R174). -/

namespace Sys2Proof.Machine

/-! ## A reply and a refusal (R175, R178) -/

theorem State.setReply_frame (s : State) (l : Link) (r : Reply) : s.setReply l r = { s with links := (s.setReply l r).links } := rfl

/-- What a refusal leaves of its link: the reply pending, and an empty fault record latched with LINK_FAULT (R178). -/
def LinkState.refused (x : LinkState) (kind tag : Byte) (d : Denial) : LinkState :=
  { x with
    reply := some { kind := kind, tag := tag, status := d.status, body := d.body },
    fault := some (x.fault.getD { kind := kind, status := d.status, tag := tag }),
    notices := if x.fault.isNone then { x.notices with linkFault := true } else x.notices }

theorem State.refuse_eq (s : State) (l : Link) (kind tag : Byte) (d : Denial) :
    s.refuse l kind tag d = s.setLink l ((s.link l).refused kind tag d) := by
  unfold State.refuse LinkState.refused
  dsimp only
  split
  all_goals
    rename_i hfault
    rw [hfault]
    rfl

theorem State.link_refuse_ne (s : State) {l m : Link} (h : m ≠ l) (kind tag : Byte) (d : Denial) :
    (s.refuse l kind tag d).link m = s.link m := by
  rw [State.refuse_eq, State.link_setLink_ne s h]

/-- Settles O6: either writes the one link, and a latched record decides what a refusal leaves of the record and its flag. -/
theorem refusalLatchesOnItsLinkOnly : Obligations.RefusalLatchesOnItsLinkOnly := by
  refine fun s l r kind tag d => ⟨⟨s.setReply_frame l r, s.link_setReply l r, fun m hm => s.link_setReply_ne hm r⟩, ?_, ?_,
    fun m hm => s.link_refuse_ne hm kind tag d⟩
  · rw [State.refuse_eq]
    rfl
  · rw [State.refuse_eq, State.link_setLink]
    rfl

/-! ## Links that are spared -/

/-- What another link's request may make of a link: notices raised, LINK_FAULT not among them, and all else as it was (R174). -/
def LinkState.Raised (x y : LinkState) : Prop :=
  ∃ n : Notices, y = { x with notices := n } ∧
    (x.notices.granted = true → n.granted = true) ∧ (x.notices.ended = true → n.ended = true) ∧
    (x.notices.timeQuality = true → n.timeQuality = true) ∧ (x.notices.laneFault = true → n.laneFault = true) ∧
    n.linkFault = x.notices.linkFault

theorem LinkState.Raised.refl (x : LinkState) : x.Raised x := ⟨x.notices, rfl, id, id, id, id, rfl⟩

theorem LinkState.Raised.trans {x y z : LinkState} (h : x.Raised y) (g : y.Raised z) : x.Raised z := by
  obtain ⟨n, rfl, hgranted, hended, hquality, hlane, hlink⟩ := h
  obtain ⟨m, rfl, ggranted, gended, gquality, glane, glink⟩ := g
  exact ⟨m, rfl, ggranted ∘ hgranted, gended ∘ hended, gquality ∘ hquality, glane ∘ hlane, glink.trans hlink⟩

/-- A change of the state that leaves the waiting commands as they are and of every link but `l` raises notices at most. -/
structure State.Spares (l : Link) (s t : State) : Prop where
  pending : t.pending = s.pending
  links : ∀ m, m ≠ l → (s.link m).Raised (t.link m)

section
variable {l : Link} {s t u : State}

theorem State.Spares.trans (h : s.Spares l t) (g : t.Spares l u) : s.Spares l u :=
  ⟨g.pending.trans h.pending, fun m hm => (h.links m hm).trans (g.links m hm)⟩

theorem State.Spares.refl : s.Spares l s := ⟨rfl, fun _ _ => .refl _⟩

/-- A change that writes the links as another one does. -/
theorem State.Spares.congr (h : s.Spares l u) (hpending : t.pending = s.pending) (hlinks : t.links = u.links) : s.Spares l t := by
  refine ⟨hpending, fun m hm => ?_⟩
  have hlink : t.link m = u.link m := congrArg (Links.get · m) hlinks
  rw [hlink]
  exact h.links m hm

/-- A change that writes no link. -/
theorem State.Spares.of_links (hpending : t.pending = s.pending) (hlinks : t.links = s.links) : s.Spares l t :=
  State.Spares.refl.congr hpending hlinks

/-- The request's own link is the request's to write. -/
theorem State.setLink_spares_own (x : LinkState) : s.Spares l (s.setLink l x) :=
  ⟨rfl, fun m hm => by rw [s.link_setLink_ne hm]; exact .refl _⟩

theorem State.setLink_spares {m : Link} {x : LinkState} (h : (s.link m).Raised x) : s.Spares l (s.setLink m x) := by
  refine ⟨rfl, fun k _ => ?_⟩
  by_cases hk : k = m
  · subst hk
    rwa [State.link_setLink]
  · rw [s.link_setLink_ne hk]
    exact .refl _

theorem State.refuse_spares (kind tag : Byte) (d : Denial) : s.Spares l (s.refuse l kind tag d) := by
  rw [State.refuse_eq]
  exact State.setLink_spares_own _

theorem State.setReply_spares (r : Reply) : s.Spares l (s.setReply l r) := State.setLink_spares_own _

theorem State.raiseTimeQuality_spares (m : Link) : s.Spares l (s.raiseTimeQuality m) :=
  State.setLink_spares ⟨_, rfl, id, id, fun _ => rfl, id, rfl⟩

theorem State.raiseLaneFault_spares : s.Spares l s.raiseLaneFault :=
  State.setLink_spares ⟨_, rfl, id, id, id, fun _ => rfl, rfl⟩

/-! ## Grants and ends of shots (R33, R58 to R64) -/

/-- A grant raises SHOT_GRANTED on the submitting link (R33 step 8). -/
theorem State.grantInto_spares (r : Request) (k : Fin 16) : s.Spares l (s.grantInto r k) := by
  have hraised : s.Spares l (s.setLink r.link { s.link r.link with notices := { (s.link r.link).notices with granted := true } }) :=
    State.setLink_spares ⟨_, rfl, fun _ => rfl, id, id, id, rfl⟩
  exact hraised.congr (by simp) (s.grantInto_links r k)

/-- A teardown raises SHOT_ENDED on the submitting link (R64 step 6). -/
theorem State.tearDown_spares (sh : Shot) : s.Spares l (s.tearDown sh) := by
  have hraised : s.Spares l
      (s.setLink sh.req.link { s.link sh.req.link with notices := { (s.link sh.req.link).notices with ended := true } }) :=
    State.setLink_spares ⟨_, rfl, id, fun _ => rfl, id, id, rfl⟩
  exact hraised.congr (by simp) (s.tearDown_links sh)

theorem State.settle_spares (sh : Shot) (start : Option Clock) : s.Spares l (s.settle sh start) := by
  have hsettling : s.Spares l { s with engine := .settling sh start s.now } := .of_links rfl rfl
  by_cases h : (s.profile sh.req.profile).horizon = 0
  · rw [State.settle_of_zero h]
    exact hsettling.trans (State.tearDown_spares sh)
  · rw [State.settle_of_horizon h]
    exact hsettling

theorem State.endArmed_spares (sh : Shot) (r : EndReason) : s.Spares l (s.endArmed sh r) := by
  have hwritten : s.Spares l ((s.onHalf sh.half Half.stop).writeEnd sh r) := .of_links (by simp) (by simp)
  exact hwritten.trans (State.settle_spares sh none)

theorem State.grantMoment_spares : s.Spares l s.grantMoment :=
  State.grantMoment_induct (P := s.Spares l) .refl (fun _ r k h _ _ => h.trans (State.grantInto_spares r k))
    fun _ sh _ h _ => h.trans (State.endArmed_spares sh .timeLost)

theorem State.Spares.grantMoment (h : s.Spares l t) : s.Spares l t.grantMoment := h.trans State.grantMoment_spares

theorem State.requestEnd_spares (r : EndReason) : s.Spares l (s.requestEnd r) := by
  cases he : s.engine with
  | idle => rw [State.requestEnd_of_idle r he]; exact .refl
  | armed sh latch =>
    rw [State.requestEnd_of_armed r he]
    exact (State.endArmed_spares sh r).grantMoment
  | running sh run => rw [State.requestEnd_of_running r he]; exact .of_links rfl rfl
  | settling sh start finish => rw [State.requestEnd_of_settling r he]; exact .refl

theorem State.judgeInhibit_spares : s.Spares l s.judgeInhibit := by
  unfold State.judgeInhibit
  split
  · exact State.requestEnd_spares _
  · exact .refl

/-! ## The operations of the requests -/

theorem State.clearOverride_spares : s.Spares l s.clearOverride := by
  have hcleared : s.Spares l { s with sup := { s.sup with override := false } } := .of_links rfl rfl
  unfold State.clearOverride
  dsimp only
  split
  · exact hcleared.trans State.judgeInhibit_spares
  · exact hcleared

theorem State.endGoWait_spares (k : Link) : s.Spares l (s.endGoWait k) := by
  unfold State.endGoWait
  repeat' split
  · exact State.requestEnd_spares _
  all_goals exact .refl

/-- LINK_RESET writes its own link's items, and of the others raises what the shots it ends and lets through raise (R181). -/
theorem State.linkReset_spares : s.Spares l (s.linkReset l) := by
  have hgone : ∀ u : State, u.Spares l ((u.removeQueuedOf l).resetRecords l) := fun _ => .of_links (by simp) (by simp)
  have hshared : s.Spares l ((((s.setLink l ((s.link l).linkReset l)).removeQueuedOf l).resetRecords l).endGoWait l) :=
    ((State.setLink_spares_own _).trans (hgone _)).trans (State.endGoWait_spares l)
  unfold State.linkReset
  dsimp only
  split
  · exact hshared.trans State.clearOverride_spares
  · exact hshared

theorem State.setCondition_spares (i : Fin 12) (c : Condition) : s.Spares l (s.setCondition i c) := by
  have hset : s.Spares l (s.setSup i { s.sup.lanes[i] with condition := c }) := .of_links rfl rfl
  unfold State.setCondition
  dsimp only
  split
  · exact hset.trans State.raiseLaneFault_spares
  · exact hset

theorem State.declareFault_spares (i : Fin 12) : s.Spares l (s.declareFault i) := by
  unfold State.declareFault
  dsimp only
  split
  · exact (State.setCondition_spares i _).trans (State.requestEnd_spares _)
  · exact State.setCondition_spares i _

theorem State.setOverrideLatch_spares : s.Spares l s.setOverrideLatch := by
  have hset : s.Spares l { s with sup := { s.sup with override := true } } := .of_links rfl rfl
  unfold State.setOverrideLatch
  dsimp only
  split
  · exact hset.grantMoment
  · exact hset

theorem State.retire_spares (k : Fin 16) (m : Link) (w : LinkSet) : s.Spares l (s.retire k m w) := by
  have hslot : s.Spares l { s with reports := s.reports.set k (s.reports[k].retire m) } := .of_links rfl rfl
  have hfreed : ∀ u : State, u.Spares l { u with captures := u.captures.freeBound k } := fun _ => .of_links rfl rfl
  unfold State.retire
  dsimp only
  split
  · exact (hslot.trans (hfreed _)).grantMoment
  · exact hslot

/-- A change of the quality is told to the Plan and Panel links (R171). -/
theorem State.qualityChanged_spares : s.Spares l s.qualityChanged := by
  have htold : s.Spares l ((s.raiseTimeQuality .plan).raiseTimeQuality .panel) :=
    (State.raiseTimeQuality_spares _).trans (State.raiseTimeQuality_spares _)
  unfold State.qualityChanged
  dsimp only
  repeat' split
  · exact htold.trans (State.requestEnd_spares _)
  all_goals exact htold

theorem State.setQuality_spares (q : Quality) : s.Spares l (s.setQuality q) := by
  have hset : s.Spares l { s with clock := { s.clock with quality := q } } := .of_links rfl rfl
  by_cases h : s.clock.quality = q
  · rw [State.setQuality_same h]
    exact .refl
  · rw [State.setQuality_changed h]
    exact hset.trans State.qualityChanged_spares

theorem State.setDiscipline_spares (on : Bool) : s.Spares l (s.setDiscipline on) := by
  have hswitched : s.Spares l (s.switchDiscipline on) := .of_links rfl rfl
  unfold State.setDiscipline
  split
  · exact .refl
  · exact hswitched.trans (State.setQuality_spares _)

end

/-! ## The effects of the requests that can be refused -/

/-- The effect of a request of `l`, where it is taken, spares the other links. -/
def State.EffectSpares (l : Link) (s : State) (res : Except Denial (State × ReplyBody)) : Prop :=
  ∀ t b, res = .ok (t, b) → s.Spares l t

section
variable {l : Link} {s : State}

theorem State.EffectSpares.ok {t : State} {b : ReplyBody} (h : s.Spares l t) : s.EffectSpares l (.ok (t, b)) := fun _ _ e => by
  cases e
  exact h

theorem loadState_spares (body : List Byte) : s.EffectSpares l (loadState l body s) := by
  intro t b h
  unfold loadState at h
  repeat' split at h
  all_goals cases h
  exact .of_links rfl rfl

theorem loadProfile_spares (body : List Byte) : s.EffectSpares l (loadProfile l body s) := by
  intro t b h
  unfold loadProfile at h
  repeat' split at h
  all_goals cases h
  exact .of_links rfl rfl

theorem freeState_spares (index : Byte) : s.EffectSpares l (freeState l index s) := by
  intro t b h
  unfold freeState at h
  repeat' split at h
  all_goals cases h
  exact .of_links rfl rfl

theorem freeProfile_spares (index : Byte) : s.EffectSpares l (freeProfile l index s) := by
  intro t b h
  unfold freeProfile at h
  repeat' split at h
  all_goals cases h
  exact .of_links rfl rfl

theorem readStateRecord_spares (index : Byte) : s.EffectSpares l (readStateRecord index s) := by
  intro t b h
  unfold readStateRecord at h
  split at h
  all_goals cases h
  exact .refl

theorem readProfileRecord_spares (index : Byte) : s.EffectSpares l (readProfileRecord index s) := by
  intro t b h
  unfold readProfileRecord at h
  split at h
  all_goals cases h
  exact .refl

theorem submitShot_spares (x : Submit) : s.EffectSpares l (submitShot l x s) := by
  intro t b h
  unfold submitShot at h
  repeat' split at h
  all_goals cases h
  exact .grantMoment (.of_links (by simp) (by simp))

theorem abort_spares (ticket : Byte) : s.EffectSpares l (abort l ticket s) := by
  intro t b h
  unfold abort abortGranted at h
  repeat' split at h
  all_goals cases h
  · exact .of_links (by simp) (by simp)
  · exact State.requestEnd_spares _

theorem setLinkPriority_spares (priority maxWait : Byte) : s.EffectSpares l (setLinkPriority l priority maxWait s) := by
  intro t b h
  unfold setLinkPriority at h
  split at h
  all_goals cases h
  exact State.setLink_spares_own _

theorem go_spares : s.EffectSpares l (go l s) := by
  intro t b h
  unfold go at h
  repeat' split at h
  all_goals cases h
  exact .of_links rfl rfl

theorem panelStep_spares : s.EffectSpares l (panelStep l s) := by
  intro t b h
  unfold panelStep at h
  repeat' split at h
  all_goals cases h
  exact .of_links rfl rfl

theorem adjust_spares (lane delta : Byte) : s.EffectSpares l (adjust l lane delta s) := by
  intro t b h
  unfold adjust at h
  repeat' split at h
  all_goals cases h
  exact .of_links rfl rfl

theorem setSupervision_spares (lane enabled : Byte) (deviation : Half16) (missLimit : Byte) (rating heatLimit : Half16) :
    s.EffectSpares l (setSupervision l lane enabled deviation missLimit rating heatLimit s) := by
  intro t b h
  unfold setSupervision at h
  repeat' split at h
  all_goals cases h
  exact .grantMoment (.of_links (by simp) (by simp))

theorem declareLaneFault_spares (lane : Byte) : s.EffectSpares l (declareLaneFault l lane s) := by
  intro t b h
  unfold declareLaneFault at h
  repeat' split at h
  all_goals cases h
  exact State.declareFault_spares _

theorem clearLaneFault_spares (lane : Byte) : s.EffectSpares l (clearLaneFault l lane s) := by
  intro t b h
  unfold clearLaneFault at h
  repeat' split at h
  all_goals cases h
  exact .grantMoment (.of_links (by simp) (by simp))

theorem setOverride_spares (action : Byte) : s.EffectSpares l (setOverride l action s) := by
  intro t b h
  unfold setOverride at h
  repeat' split at h
  all_goals cases h
  · exact State.setOverrideLatch_spares
  · exact State.clearOverride_spares

theorem subscribe_spares (subscription threshold : Byte) : s.EffectSpares l (subscribe l subscription threshold s) := by
  have hset : ∀ (u : State) (on : Bool) (n : Nat), u.Spares l (u.setSubscription l on n) := fun _ _ _ =>
    State.setLink_spares_own _
  have hleft : s.Spares l (s.leaveAll l) := .of_links (by simp) (by simp)
  intro t b h
  unfold subscribe at h
  dsimp only at h
  repeat' split at h
  all_goals cases h
  · exact (hleft.trans (hset _ _ _)).grantMoment
  · exact hset _ _ _

theorem readReport_spares (slot : Byte) (serial : Half16) (part visit : Byte) (first : Half16) (count : Byte) :
    s.EffectSpares l (readReport slot serial part visit first count s) := by
  intro t b h
  unfold readReport at h
  repeat' split at h
  all_goals cases h
  exact .refl

theorem retireReport_spares (slot : Byte) (serial : Half16) : s.EffectSpares l (retireReport l slot serial s) := by
  intro t b h
  unfold retireReport at h
  repeat' split at h
  all_goals cases h
  exact State.retire_spares _ l _

theorem readCapture_spares (half : Byte) (first : Half16) (count : Byte) : s.EffectSpares l (readCapture half first count s) := by
  intro t b h
  unfold readCapture at h
  dsimp only at h
  repeat' split at h
  all_goals cases h
  exact .refl

theorem setDiscipline_spares (setting : Byte) : s.EffectSpares l (setDiscipline l setting s) := by
  intro t b h
  unfold setDiscipline at h
  dsimp only at h
  repeat' split at h
  all_goals cases h
  exact State.setDiscipline_spares _

end

/-! ## Every request -/

/-- The outcome of a request: the end of a transaction whose effect, where it is taken, spares the other links (R175). -/
def State.Answers (l : Link) (k : Kind) (tag : Byte) (s : State) (o : Host.Outcome State Fault Refusal) : Prop :=
  ∃ res, o = .next (respond l k tag s res) ∧ s.EffectSpares l res

theorem runRequest_answers (l : Link) (k : Kind) (tag : Byte) (body : List Byte) (s : State) :
    s.Answers l k tag (runRequest l k tag body s) := by
  cases k with
  | nop | peekNotices | tableStatus | queueStatus | supervisionStatus | reportStatus | timeStatus => exact ⟨_, rfl, .ok .refl⟩
  | takeNotices | clearFault => exact ⟨_, rfl, .ok (State.setLink_spares_own _)⟩
  | linkReset => exact ⟨_, rfl, .ok State.linkReset_spares⟩
  | loadState => exact ⟨_, rfl, loadState_spares _⟩
  | loadProfile => exact ⟨_, rfl, loadProfile_spares _⟩
  | freeState => exact ⟨_, rfl, freeState_spares _⟩
  | freeProfile => exact ⟨_, rfl, freeProfile_spares _⟩
  | readState => exact ⟨_, rfl, readStateRecord_spares _⟩
  | readProfile => exact ⟨_, rfl, readProfileRecord_spares _⟩
  | submitShot => exact ⟨_, rfl, submitShot_spares _⟩
  | abort => exact ⟨_, rfl, abort_spares _⟩
  | setLinkPriority => exact ⟨_, rfl, setLinkPriority_spares _ _⟩
  | go => exact ⟨_, rfl, go_spares⟩
  | step => exact ⟨_, rfl, panelStep_spares⟩
  | adjust => exact ⟨_, rfl, adjust_spares _ _⟩
  | setSupervision => exact ⟨_, rfl, setSupervision_spares _ _ _ _ _ _⟩
  | declareLaneFault => exact ⟨_, rfl, declareLaneFault_spares _⟩
  | clearLaneFault => exact ⟨_, rfl, clearLaneFault_spares _⟩
  | setOverride => exact ⟨_, rfl, setOverride_spares _⟩
  | subscribe => exact ⟨_, rfl, subscribe_spares _ _⟩
  | readReport => exact ⟨_, rfl, readReport_spares _ _ _ _ _ _⟩
  | retireReport => exact ⟨_, rfl, retireReport_spares _ _⟩
  | readCapture => exact ⟨_, rfl, readCapture_spares _ _ _⟩
  | setDiscipline => exact ⟨_, rfl, setDiscipline_spares _⟩

section
variable {c : Instr} {l : Link} {k : Kind} {tag : Byte} {body : List Byte} {s t : State}

theorem exec_answers (h : frameParts c = some (l, k, tag, body)) (s : State) : s.Answers l k tag (exec c s) :=
  runRequest_of_parts h s ▸ runRequest_answers l k tag body s

theorem respond_spares {res : Except Denial (State × ReplyBody)} (h : s.EffectSpares l res) :
    s.Spares l (respond l k tag s res) := by
  cases res with
  | error d => exact State.refuse_spares _ _ d
  | ok p => exact (h p.1 p.2 rfl).trans (State.setReply_spares _)

theorem State.Answers.spares {o : Host.Outcome State Fault Refusal} (h : s.Answers l k tag o) :
    ∃ t, o = .next t ∧ s.Spares l t :=
  let ⟨_, ho, heffect⟩ := h
  ⟨_, ho, respond_spares heffect⟩

/-- The end of a transaction is a refusal, or an OK reply on its link (R175 step 4). -/
theorem respond_refused_or_answered (res : Except Denial (State × ReplyBody)) :
    (∃ d, respond l k tag s res = s.refuse l k.code tag d) ∨
      ∃ b, ((respond l k tag s res).link l).reply = some (okReply k tag b) := by
  cases res with
  | error d => exact .inl ⟨d, respond_error l k tag s d⟩
  | ok p =>
    refine .inr ⟨p.2, ?_⟩
    rw [respond_ok l k tag s p.1 p.2, State.link_setReply]

end

/-- Settles O10: a request's outcome is the end of its transaction, which refuses it or replies. -/
theorem requestsAreRefusedOrAnswered : Obligations.RequestsAreRefusedOrAnswered := by
  intro c l k tag body s t hparts ht
  obtain ⟨res, hres, _⟩ := exec_answers hparts s
  obtain rfl : respond l k tag s res = t := Host.Outcome.next.inj (hres.symm.trans ht)
  exact respond_refused_or_answered res

/-- Settles O11: what a request does to the state spares the other links, and so does its reply. -/
theorem requestsKeepOtherLinks : Obligations.RequestsKeepOtherLinks := by
  intro c l m k tag body s t hparts hm ht
  obtain ⟨u, hu, hspares⟩ := (exec_answers hparts s).spares
  obtain rfl : u = t := Host.Outcome.next.inj (hu.symm.trans ht)
  exact hspares.links m hm

/-! ## Every command answers -/

/-- An outcome that goes on, with the waiting commands as they were. -/
def State.GoesOn (s : State) (o : Host.Outcome State Fault Refusal) : Prop := ∃ t, o = .next t ∧ t.pending = s.pending

section
variable {s : State}

theorem State.Answers.goesOn {l : Link} {k : Kind} {tag : Byte} {o : Host.Outcome State Fault Refusal} (h : s.Answers l k tag o) :
    s.GoesOn o :=
  let ⟨t, ho, hspares⟩ := h.spares
  ⟨t, ho, hspares.pending⟩

theorem State.GoesOn.next {t : State} (h : t.pending = s.pending) : s.GoesOn (.next t) := ⟨t, rfl, h⟩

theorem State.GoesOn.ite {p : Prop} [Decidable p] {t u : State} (ht : t.pending = s.pending) (hu : u.pending = s.pending) :
    s.GoesOn (.next (if p then t else u)) := .next (by split <;> assumption)

theorem execBadFrame_goesOn (l : Link) (bytes : List Byte) (s : State) : s.GoesOn (execBadFrame l bytes s) := by
  unfold execBadFrame
  repeat' split
  · exact .next rfl
  · exact .next (by simp)
  · exact (runRequest_answers _ _ _ _ _).goesOn

theorem State.laneEvent_pending {due : State → Shot → Run → Bool} {act : State → Shot → Run → State}
    (h : ∀ u sh run, (act u sh run).pending = u.pending) : (s.laneEvent due act).pending = s.pending := by
  unfold State.laneEvent
  repeat' split
  · simp [h]
  all_goals rfl

theorem exec_goesOn (c : Instr) (s : State) : s.GoesOn (exec c s) := by
  cases hp : frameParts c with
  | some p => exact (exec_answers hp s).goesOn
  | none =>
    cases c with
    | powerOnReset => exact .next rfl
    | badFrame l bytes => exact execBadFrame_goesOn l bytes s
    | grant => exact .next (by simp)
    | trigEdge => exact .ite (by simp) rfl
    | mark => exact .ite (by simp) rfl
    | qualityExpiry => exact .ite (by simp) rfl
    | clockWrap => exact .ite rfl rfl
    | inhibitAssert => exact .ite rfl (by simp)
    | inhibitDeassert => exact .ite (by simp) rfl
    | contactRawEdge i level => exact .next rfl
    | episodeEnd i => exact .next (by split <;> simp)
    | moveComplete k => exact .next (by simp)
    | readbackFrame frame => exact .next rfl
    | sampleTick => exact .next (by simp)
    | timeExit | deferralEnd | shotStart | shotEnd => exact .ite (by simp) rfl
    | visitClose => exact .next (by split <;> simp)
    | teardown => exact .next (by split <;> simp)
    | deviationFault i => exact .next (by simp)
    | cutTakesEffect i | cutLimit i => exact .next (State.laneEvent_pending fun _ _ _ => rfl)
    | reenergise i => exact .next (State.laneEvent_pending fun _ _ _ => by simp)
    | _ => cases hp

end

/-- Settles O3: a request ends its transaction, and every other command answers by its definition. -/
theorem everyCommandAnswers : Obligations.EveryCommandAnswers := exec_goesOn

end Sys2Proof.Machine
end

section
/-! SUPPORT. The seven checks of a request frame, one by one (R176). -/

namespace Sys2Proof.Machine

section
variable {l : Link} {bytes : List Byte} {s : State}

/-- Checks 1 to 5 (R176): sync byte, length, completeness and CRC. -/
theorem frameSound_iff : frameSound bytes = true ↔
    7 ≤ bytes.length ∧ bytes.head? = some 0xA5 ∧ frameLength bytes ≤ 1024 ∧ 7 + frameLength bytes ≤ bytes.length ∧
      (crc ((bytes.drop 1).take (4 + frameLength bytes))).toNat = field bytes (5 + frameLength bytes) 2 := by
  simp only [frameSound, crcMatches, frameCrc, Bool.and_eq_true, decide_eq_true_eq, beq_iff_eq, and_assoc]
  rfl

theorem judgeFrame_of_unsound (h : ¬frameSound bytes = true) : judgeFrame bytes = .error .badFrame := by
  rw [judgeFrame, Bool.eq_false_iff.2 h]
  rfl

/-- Checks 6 and 7 (R176): the kind, and the length of its body. -/
theorem judgeFrame_of_sound (h : frameSound bytes = true) : judgeFrame bytes =
    match Kind.ofCode (bytes.getD 1 0) with
    | none => .error .badKind
    | some k =>
      if lengthFits k (frameBody bytes) then .ok (k, frameBody bytes)
      else .error (.badField { part := .bodyLength, field := 0 }) := by
  rw [judgeFrame, h]
  rfl

theorem exec_badFrame_nil : exec (.badFrame l []) s = .next s := rfl

/-- Bytes that a check stops are refused, with the bytes in the kind and tag positions echoed (R176). -/
theorem exec_badFrame_refused {d : Denial} (hne : bytes ≠ []) (h : judgeFrame bytes = .error d) :
    exec (.badFrame l bytes) s = .next (s.refuse l (bytes.getD 1 0) (bytes.getD 2 0) d) := by
  show execBadFrame l bytes s = _
  rw [execBadFrame, if_neg hne, h]
  rfl

theorem exec_badFrame_taken {k : Kind} {body : List Byte} (hne : bytes ≠ []) (h : judgeFrame bytes = .ok (k, body)) :
    exec (.badFrame l bytes) s = runRequest l k (bytes.getD 2 0) body s := by
  show execBadFrame l bytes s = _
  rw [execBadFrame, if_neg hne, h]
  rfl

end

/-- Settles O8: the first of checks 1 to 5 that fails makes the frame unsound, and of a sound frame the kind and the body length are
judged. -/
theorem framesAreCheckedInOrder : Obligations.FramesAreCheckedInOrder := by
  intro l bytes s n refused
  by_cases hne : bytes = []
  · rw [if_pos hne, hne]
    exact exec_badFrame_nil
  rw [if_neg hne]
  have hunsound : ¬frameSound bytes = true → refused .badFrame := fun h => exec_badFrame_refused hne (judgeFrame_of_unsound h)
  split_ifs with hshort hsync hlong hcut hcrc
  · exact hunsound (mt frameSound_iff.1 fun ⟨hlength, _⟩ => hlength.not_gt hshort)
  · exact hunsound (mt frameSound_iff.1 fun ⟨_, hhead, _⟩ => hsync hhead)
  · exact hunsound (mt frameSound_iff.1 fun ⟨_, _, hfield, _⟩ => hfield.not_gt hlong)
  · exact hunsound (mt frameSound_iff.1 fun ⟨_, _, _, hwhole, _⟩ => hwhole.not_gt hcut)
  · exact hunsound (mt frameSound_iff.1 fun ⟨_, _, _, _, hmatch⟩ => hcrc hmatch)
  · have hsound : frameSound bytes = true := frameSound_iff.2
      ⟨Nat.not_lt.1 hshort, not_not.1 hsync, Nat.not_lt.1 hlong, Nat.not_lt.1 hcut, not_not.1 hcrc⟩
    have hjudge := judgeFrame_of_sound hsound
    cases hkind : Kind.ofCode (bytes.getD 1 0) with
    | none => exact exec_badFrame_refused hne (by rw [hjudge, hkind])
    | some k =>
      rw [hkind] at hjudge
      dsimp only
      split_ifs with hfits
      · exact exec_badFrame_refused hne (hjudge.trans (if_neg (Bool.eq_false_iff.1 hfits)))
      · exact exec_badFrame_taken hne (hjudge.trans (if_pos (Bool.not_eq_false _ ▸ hfits)))

end Sys2Proof.Machine
end
